-- ==== Sys2Proof/Word.lean ====
section
/-! DEFINITION. The machine's words and the fixed-size tables: the numbered things of 00_scope.md
("Names", Table 0-2, Table 0-5) and the one way a table's record is read and replaced. -/

namespace Sys2Proof

/-- One byte on a link. -/
abbrev Byte := BitVec 8

/-- A value of the belt travel counter: millimetres, 32 bits, wrapping (Table 0-5, R50). -/
abbrev Travel := BitVec 32

/-- A 32-bit wrapping sequence number: close orders (R123) and arrival sequences (R147). -/
abbrev SeqNo := BitVec 32

/-- Bin 0 to bin 15. -/
abbrev BinNo := Fin 16

/-- Slot 0 to slot 23. -/
abbrev SlotNo := Fin 24

/-- Line 0 to line 3. -/
abbrev LineNo := Fin 4

/-- Bank 0 to bank 3. -/
abbrev BankNo := Fin 4

/-- The table `v` with record `i` replaced by `x`. -/
def vset {α : Type} {n : Nat} (v : Vector α n) (i : Fin n) (x : α) : Vector α n :=
  v.set i x i.isLt

/-- The table `v` with every record `i` replaced by `f i v[i]`. -/
def vmap {α β : Type} {n : Nat} (f : Fin n → α → β) (v : Vector α n) : Vector β n :=
  Vector.ofFn (fun i => f i v[i])

/-- Every bin, in bin number order. -/
def allBins : List BinNo := [0, 1, 2, 3, 4, 5, 6, 7, 8, 9, 10, 11, 12, 13, 14, 15]

/-- Every slot, in slot number order. -/
def allSlots : List SlotNo :=
  [0, 1, 2, 3, 4, 5, 6, 7, 8, 9, 10, 11, 12, 13, 14, 15, 16, 17, 18, 19, 20, 21, 22, 23]

/-- Line 0 to line 3 (also bank 0 to bank 3 and class 0 to class 3), in number order. -/
def allFour : List (Fin 4) := [0, 1, 2, 3]

end Sys2Proof
end

