-- ==== Sys2Proof/Syntax.lean ====
section
/-! DEFINITION. The commands: one constructor of `Instr` for each row of spec/opcode_table.json, and the
types of their operands. A command is a request taken on a link port, an edge of a pin, a point passage of a
sheet, the running out of a timer, an act of a link, or a step of the part that follows from its own state. -/

namespace Sys2Proof

/-- The six link ports (Table 10-1). -/
inductive Port where
  | scan
  | line (n : LineNo)
  | setup
  deriving DecidableEq, Repr

/-- The place of a port in a table of the six ports, in the order of Table 10-1. -/
def Port.idx : Port → Fin 6
  | .scan => 0
  | .line n => ⟨n.val + 1, by omega⟩
  | .setup => 5

/-- The eight defect kinds, in the order of Table 1-2 read by rows (R35, R185). -/
inductive DefectKind where
  | soundKnot | openKnot | hole | split | pitch | stain | rough | edgeBreak
  deriving DecidableEq, Repr

/-- The eight defect kinds in the order of Table 1-2. -/
def allKinds : List DefectKind :=
  [.soundKnot, .openKnot, .hole, .split, .pitch, .stain, .rough, .edgeBreak]

/-- One value for each of the eight defect kinds. -/
structure PerKind (α : Type) where
  soundKnot : α
  openKnot : α
  hole : α
  split : α
  pitch : α
  stain : α
  rough : α
  edgeBreak : α
  deriving DecidableEq, Repr

/-- The value held for one kind. -/
def PerKind.get {α : Type} (p : PerKind α) : DefectKind → α
  | .soundKnot => p.soundKnot
  | .openKnot => p.openKnot
  | .hole => p.hole
  | .split => p.split
  | .pitch => p.pitch
  | .stain => p.stain
  | .rough => p.rough
  | .edgeBreak => p.edgeBreak

/-- The same value for every kind. -/
def PerKind.all {α : Type} (a : α) : PerKind α := ⟨a, a, a, a, a, a, a, a⟩

/-- A thickness class range [min, max] in micrometres (R28). -/
structure ClassRange where
  lo : Nat
  hi : Nat
  deriving DecidableEq, Repr

/-- The width class a grade rule names (Table 2-1). -/
inductive WidthClass where
  | full | strip | any
  deriving DecidableEq, Repr

/-- A grade rule: every field of Table 2-1. A count limit of `none` is NONE; an absent spill grade is `none`. -/
structure GradeRule where
  code : Nat
  width : WidthClass
  classes : List Nat
  moistureMin : Nat
  moistureMax : Nat
  densityLimit : Nat
  countLimit : PerKind (Option Nat)
  sizeLimit : PerKind Nat
  acceptPartial : Bool
  spill : Option Nat
  bins : List Nat
  target : Nat
  shortMin : Nat
  deriving DecidableEq, Repr

/-- The line-wide geometry parameters of Table 4-1. -/
inductive GeomParam where
  | decisionDistance
  | gateLead
  | gateHold
  | landingAllowance
  | eyeStuck
  | minGap
  | lengthTolerance
  | binPosition (bin : Nat)
  | redryGate
  | beltEnd
  deriving DecidableEq, Repr

/-- A line's access set of grade codes: ALL, or a list (Table 8-1). -/
inductive AccessSet where
  | all
  | codes (l : List Nat)
  deriving DecidableEq, Repr

/-- The twelve event enables, in the order of Table 10-3 (R181). -/
structure EventMask where
  trackFull : Bool
  syncChanged : Bool
  binSuspect : Bool
  binFaulted : Bool
  liftClosed : Bool
  liftDiscarded : Bool
  liftStored : Bool
  slotFaulted : Bool
  liftUnclaimed : Bool
  liftTaken : Bool
  handoverExpired : Bool
  modeChanged : Bool
  deriving DecidableEq, Repr

/-- What every request carries besides its named fields: the port it is taken on, its tag, and whether its
payload has the form of its kind, that is, its length agrees with the counts it carries and every coded field
(a width class, a YES or NO, a geometry parameter) names a value. The manual gives the byte layout of no
request but SHEET_REPORT, so a payload out of form is the flag `formed = false` (log entry 3). -/
structure Req where
  port : Port
  tag : Byte
  formed : Bool
  deriving DecidableEq, Repr

/-- The request fields of a SHEET_REPORT. Its payload is the command's operand whole, so it is never marked as
out of form: R2 reads it. -/
def reportReq (port : Port) (tag : Byte) : Req := ⟨port, tag, true⟩

/-- Which sheet of the belt a tracking entry is for: its entry number and its leading-edge position (Table 3-2).
R57 holds that the number alone tells the entries apart; the position does so where two entries come to carry one
number (DESIGN CHOICE, log entry 14). -/
structure EntryId where
  number : Byte
  lead : Travel
  deriving DecidableEq, Repr

/-- A byte as it arrives on a link: its value, and whether more than 20 ms passed since the byte before it
(R176). -/
structure RxByte where
  value : Byte
  late : Bool
  deriving DecidableEq, Repr

/-- What an unknown request names: a kind value that names no request (R177), or, in a QUERY, a subject value
that names no subject (R183; log entry 11). -/
inductive Unknown where
  | kind (code : Byte)
  | subject (code : Byte)
  deriving DecidableEq, Repr

/-- A link's rate (R175). -/
inductive Rate where
  | r57600
  | r115200
  deriving DecidableEq, Repr

/-- The input pins as they stand at the release of RESET_N (R171): the eyes (true is blocked) and the rate
straps. -/
structure Pins where
  entryEye : Bool
  landed : Vector Bool 16
  slotEyes : Vector Bool 24
  rates : Vector Rate 6
  deriving DecidableEq, Repr

/-- The kinds of request (R179). QUERY is one kind; its subject is a field. -/
inductive ReqKind where
  | sheetReport | scanResync
  | selectBank | writeClasses | writeWeights | writeLimits | writeGrade | deleteGrade | clearBank
  | readBank | readGrade | validate | activate
  | writeGeometry
  | clearBin | binOnline | binOffline | closeBin | forceClose
  | writeEjectTimeout | clearOutfeed | slotOnline | slotOffline | clearSlot
  | writeLine | writePassLimit | writeHandoverTimeout | pull | release | cancel
  | start | drain | stop | restart | tallyRead | tallyClear
  | writeEventMask | eventRead | query
  deriving DecidableEq, Repr

/-- The commands, one for each row of spec/opcode_table.json. -/
inductive Instr where
  /-- SHEET_REPORT (R6): the payload as the frame carries it (R185). -/
  | sheetReport (port : Port) (tag : Byte) (payload : List Byte)
  /-- SCAN_RESYNC (R70). -/
  | scanResync (r : Req)
  /-- SELECT_BANK (R32). -/
  | selectBank (r : Req) (bank : Nat)
  /-- WRITE_CLASSES (R34): the class places, class 0 first; absent is `none`. -/
  | writeClasses (r : Req) (places : List (Option ClassRange))
  /-- WRITE_WEIGHTS (R35): the weights in the order of Table 1-2. -/
  | writeWeights (r : Req) (weights : List Byte)
  /-- WRITE_LIMITS (R36). -/
  | writeLimits (r : Req) (redryLimit fullWidth : Nat)
  /-- WRITE_GRADE (R37). -/
  | writeGrade (r : Req) (pos : Nat) (rule : GradeRule)
  /-- DELETE_GRADE (R39). -/
  | deleteGrade (r : Req) (pos : Nat)
  /-- CLEAR_BANK (R40). -/
  | clearBank (r : Req)
  /-- READ_BANK (R41). -/
  | readBank (r : Req) (bank : Nat)
  /-- READ_GRADE (R41). -/
  | readGrade (r : Req) (bank pos : Nat)
  /-- VALIDATE (R44). -/
  | validate (r : Req) (bank : Nat)
  /-- ACTIVATE (R45). -/
  | activate (r : Req) (bank : Nat)
  /-- WRITE_GEOMETRY (R75): `none` is the value UNSET. -/
  | writeGeometry (r : Req) (param : GeomParam) (value : Option Nat)
  /-- CLEAR_BIN (R108, R109). -/
  | clearBin (r : Req) (bin : Nat)
  /-- BIN_ONLINE (R110). -/
  | binOnline (r : Req) (bin : Nat)
  /-- BIN_OFFLINE (R111). -/
  | binOffline (r : Req) (bin : Nat)
  /-- CLOSE_BIN (R112). -/
  | closeBin (r : Req) (bin : Nat)
  /-- FORCE_CLOSE (R125): a grade code and an optional class. -/
  | forceClose (r : Req) (code : Nat) (cls : Option Nat)
  /-- WRITE_EJECT_TIMEOUT (R136). -/
  | writeEjectTimeout (r : Req) (seconds : Nat)
  /-- CLEAR_OUTFEED (R139). -/
  | clearOutfeed (r : Req)
  /-- SLOT_ONLINE (R143). -/
  | slotOnline (r : Req) (slot : Nat)
  /-- SLOT_OFFLINE (R143). -/
  | slotOffline (r : Req) (slot : Nat)
  /-- CLEAR_SLOT (R143). -/
  | clearSlot (r : Req) (slot : Nat)
  /-- WRITE_LINE (R145). -/
  | writeLine (r : Req) (line : Nat) (access : AccessSet) (force : Bool) (rank : Nat)
  /-- WRITE_PASS_LIMIT (R146). -/
  | writePassLimit (r : Req) (limit : Nat)
  /-- WRITE_HANDOVER_TIMEOUT (R146). -/
  | writeHandoverTimeout (r : Req) (seconds : Nat)
  /-- PULL (R149). -/
  | pull (r : Req) (code : Nat) (bank cls : Option Nat) (nowait : Bool)
  /-- RELEASE (R158). -/
  | release (r : Req) (number : Nat)
  /-- CANCEL (R159). -/
  | cancel (r : Req) (number : Nat)
  /-- START (R165). -/
  | start (r : Req)
  /-- DRAIN (R166). -/
  | drain (r : Req)
  /-- STOP (R169). -/
  | stop (r : Req)
  /-- RESTART (R170). -/
  | restart (r : Req)
  /-- TALLY_READ (R173). -/
  | tallyRead (r : Req) (bank : Option Nat)
  /-- TALLY_CLEAR (R174). -/
  | tallyClear (r : Req)
  /-- WRITE_EVENT_MASK (R181). -/
  | writeEventMask (r : Req) (mask : EventMask)
  /-- EVENT_READ (R182). -/
  | eventRead (r : Req) (count : Nat)
  /-- QUERY of subject TRACKER (R72, R183), from item `first`. -/
  | queryTracker (r : Req) (first : Nat)
  /-- QUERY of subject BINS (R114). -/
  | queryBins (r : Req) (first : Nat)
  /-- QUERY of subject STORED_LIFTS (R130). -/
  | queryStoredLifts (r : Req) (first : Nat)
  /-- QUERY of subject PULLS (R163). -/
  | queryPulls (r : Req) (first : Nat)
  /-- QUERY of subject OUTFEED (R144). -/
  | queryOutfeed (r : Req) (first : Nat)
  /-- QUERY of subject SETTINGS (R74, R183). -/
  | querySettings (r : Req) (first : Nat)
  /-- QUERY of subject LINES (R163). -/
  | queryLines (r : Req) (first : Nat)
  /-- QUERY of subject REFUSALS (R179). -/
  | queryRefusals (r : Req) (first : Nat)
  /-- QUERY of subject PORTS (R176, R180). -/
  | queryPorts (r : Req) (first : Nat)
  /-- QUERY of subject MODE (R164). -/
  | queryMode (r : Req) (first : Nat)
  /-- UNKNOWN_REQUEST (R177, R183). -/
  | unknownRequest (port : Port) (tag : Byte) (what : Unknown)
  /-- FRAME_RECEIVED (R176): bytes arriving on a port. -/
  | frameReceived (port : Port) (bytes : List RxByte)
  /-- SEND_ITEM (R175, R180). -/
  | sendItem (port : Port)
  /-- TRAVEL_PULSE (R50). -/
  | travelPulse
  /-- ENTRY_EYE_LEADING_EDGE (R53 to R55). -/
  | entryEyeLeadingEdge
  /-- ENTRY_EYE_TRAILING_EDGE (R56). -/
  | entryEyeTrailingEdge
  /-- DECISION_POINT_PASSAGE of one tracking entry (R64). -/
  | decisionPointPassage (entry : EntryId)
  /-- GATE_OPEN_PASSAGE of one tracking entry (R88). -/
  | gateOpenPassage (entry : EntryId)
  /-- GATE_CLOSE_PASSAGE of one tracking entry (R89). -/
  | gateClosePassage (entry : EntryId)
  /-- LANDING_WINDOW_END of one tracking entry (R101). -/
  | landingWindowEnd (entry : EntryId)
  /-- REDRY_GATE_OPEN_PASSAGE of one tracking entry (R90). -/
  | redryGateOpenPassage (entry : EntryId)
  /-- REDRY_GATE_CLOSE_PASSAGE of one tracking entry (R67). -/
  | redryGateClosePassage (entry : EntryId)
  /-- BELT_END_PASSAGE of one tracking entry (R66). -/
  | beltEndPassage (entry : EntryId)
  /-- EYE_STUCK_PASSAGE of one bin (R104). -/
  | eyeStuckPassage (bin : BinNo)
  /-- LANDED_EYE_BLOCKED: a leading edge of LANDED_n (R97). -/
  | landedEyeBlocked (bin : BinNo)
  /-- LANDED_EYE_CLEARS: a trailing edge of LANDED_n (R97). -/
  | landedEyeClears (bin : BinNo)
  /-- DRAIN_COMPLETION of one bin (R121). -/
  | drainCompletion (bin : BinNo)
  /-- END_OF_DRAIN (R167). -/
  | endOfDrain
  /-- EJECTION_START (R135). -/
  | ejectionStart
  /-- SLOT_EYE_BLOCKED (R141). -/
  | slotEyeBlocked (slot : SlotNo)
  /-- SLOT_EYE_CLEARS (R141). -/
  | slotEyeClears (slot : SlotNo)
  /-- EJECT_TIMEOUT (R138). -/
  | ejectTimeout
  /-- HANDOVER_EXPIRED of one line's handover (R157). -/
  | handoverExpired (line : LineNo)
  /-- FULL_RESET (R171), with the pins as read at its release. -/
  | fullReset (pins : Pins)
  /-- INTER_BYTE_GAP_TIMEOUT on one port (R176). -/
  | interByteGapTimeout (port : Port)
  /-- PART_FRAME_ENDS on one port (R175). -/
  | partFrameEnds (port : Port)
  deriving DecidableEq, Repr

/-- The request a command is, with its kind; `none` for the commands that are no request of a known kind. -/
def Instr.request? : Instr → Option (Req × ReqKind)
  | .sheetReport p t _ => some (reportReq p t, .sheetReport)
  | .scanResync r => some (r, .scanResync)
  | .selectBank r _ => some (r, .selectBank)
  | .writeClasses r _ => some (r, .writeClasses)
  | .writeWeights r _ => some (r, .writeWeights)
  | .writeLimits r _ _ => some (r, .writeLimits)
  | .writeGrade r _ _ => some (r, .writeGrade)
  | .deleteGrade r _ => some (r, .deleteGrade)
  | .clearBank r => some (r, .clearBank)
  | .readBank r _ => some (r, .readBank)
  | .readGrade r _ _ => some (r, .readGrade)
  | .validate r _ => some (r, .validate)
  | .activate r _ => some (r, .activate)
  | .writeGeometry r _ _ => some (r, .writeGeometry)
  | .clearBin r _ => some (r, .clearBin)
  | .binOnline r _ => some (r, .binOnline)
  | .binOffline r _ => some (r, .binOffline)
  | .closeBin r _ => some (r, .closeBin)
  | .forceClose r _ _ => some (r, .forceClose)
  | .writeEjectTimeout r _ => some (r, .writeEjectTimeout)
  | .clearOutfeed r => some (r, .clearOutfeed)
  | .slotOnline r _ => some (r, .slotOnline)
  | .slotOffline r _ => some (r, .slotOffline)
  | .clearSlot r _ => some (r, .clearSlot)
  | .writeLine r _ _ _ _ => some (r, .writeLine)
  | .writePassLimit r _ => some (r, .writePassLimit)
  | .writeHandoverTimeout r _ => some (r, .writeHandoverTimeout)
  | .pull r _ _ _ _ => some (r, .pull)
  | .release r _ => some (r, .release)
  | .cancel r _ => some (r, .cancel)
  | .start r => some (r, .start)
  | .drain r => some (r, .drain)
  | .stop r => some (r, .stop)
  | .restart r => some (r, .restart)
  | .tallyRead r _ => some (r, .tallyRead)
  | .tallyClear r => some (r, .tallyClear)
  | .writeEventMask r _ => some (r, .writeEventMask)
  | .eventRead r _ => some (r, .eventRead)
  | .queryTracker r _ => some (r, .query)
  | .queryBins r _ => some (r, .query)
  | .queryStoredLifts r _ => some (r, .query)
  | .queryPulls r _ => some (r, .query)
  | .queryOutfeed r _ => some (r, .query)
  | .querySettings r _ => some (r, .query)
  | .queryLines r _ => some (r, .query)
  | .queryRefusals r _ => some (r, .query)
  | .queryPorts r _ => some (r, .query)
  | .queryMode r _ => some (r, .query)
  | .unknownRequest _ _ _ => none
  | .frameReceived _ _ => none
  | .sendItem _ => none
  | .travelPulse => none
  | .entryEyeLeadingEdge => none
  | .entryEyeTrailingEdge => none
  | .decisionPointPassage _ => none
  | .gateOpenPassage _ => none
  | .gateClosePassage _ => none
  | .landingWindowEnd _ => none
  | .redryGateOpenPassage _ => none
  | .redryGateClosePassage _ => none
  | .beltEndPassage _ => none
  | .eyeStuckPassage _ => none
  | .landedEyeBlocked _ => none
  | .landedEyeClears _ => none
  | .drainCompletion _ => none
  | .endOfDrain => none
  | .ejectionStart => none
  | .slotEyeBlocked _ => none
  | .slotEyeClears _ => none
  | .ejectTimeout => none
  | .handoverExpired _ => none
  | .fullReset _ => none
  | .interByteGapTimeout _ => none
  | .partFrameEnds _ => none

/-- The lengths of the lists a command carries on a link, each part of one frame's payload. -/
def Instr.listLengths : Instr → List Nat
  | .sheetReport _ _ payload => [payload.length]
  | .writeClasses _ places => [places.length]
  | .writeWeights _ weights => [weights.length]
  | .writeGrade _ _ rule => [rule.classes.length, rule.bins.length]
  | .writeLine _ _ (.codes l) _ _ => [l.length]
  | _ => []

end Sys2Proof
end

