-- ==== Sys2Proof/Machine/Data.lean ====
section
/-! DEFINITION. The records the machine's state is made of, and the replies, notices and events it answers
with: plain data, each type beside the table or rule of spec/ that gives its fields. -/

namespace Sys2Proof.Machine

/-! ### The sheet report and the verdict (chapter 1) -/

/-- A defect zone (R1). -/
inductive Zone where
  | centre | edge
  deriving DecidableEq, Repr

/-- One defect of a sheet report (R1). -/
structure Defect where
  kind : DefectKind
  size : Nat
  zone : Zone
  deriving DecidableEq, Repr

/-- A well-formed sheet report, as sent or as clamped (Table 1-1). -/
structure SheetData where
  length : Nat
  width : Nat
  thickness : Nat
  readings : List Nat
  defects : List Defect
  partialFlag : Bool
  deriving DecidableEq, Repr

/-- The REJECT reasons (Table 1-6), in the order of their codes (R186). -/
inductive RejectReason where
  | offGauge | noGrade | mismatch | ungraded | crowded | outOfStep | noBin | redryMissed | binLost | modeStop
  deriving DecidableEq, Repr

/-- The place of a REJECT reason's counter in the tallies. -/
def RejectReason.idx : RejectReason → Fin 10
  | .offGauge => 0
  | .noGrade => 1
  | .mismatch => 2
  | .ungraded => 3
  | .crowded => 4
  | .outOfStep => 5
  | .noBin => 6
  | .redryMissed => 7
  | .binLost => 8
  | .modeStop => 9

/-- The five computed values of a verdict record, present or absent as one group (R23). -/
structure Computed where
  area : Nat
  total : Nat
  density : Nat
  meanM : Nat
  maxM : Nat
  deriving DecidableEq, Repr

/-- A verdict record (Table 1-5): the fields present for each kind, and no others. -/
inductive Verdict where
  | graded (code cls : Nat) (values : Computed)
  | redry (values : Computed)
  | reject (reason : RejectReason) (values : Option Computed)
  deriving DecidableEq, Repr

/-- The routing outcome of a bound report (R27). -/
inductive SheetGoal where
  | bin (b : BinNo)
  | redryGate
  | beltEnd
  deriving DecidableEq, Repr

/-! ### Recipe banks (chapter 2) -/

/-- A bank's state (Table 2-2). -/
inductive BankState where
  | empty | edited | valid | active
  deriving DecidableEq, Repr

/-- One recipe bank (Figure 2-1). -/
structure Bank where
  state : BankState
  classes : Vector (Option ClassRange) 4
  weights : PerKind Nat
  redryLimit : Nat
  fullWidth : Nat
  rules : List GradeRule
  deriving DecidableEq, Repr

/-- The four banks, the active bank number and the edit bank (R30 to R32). -/
structure Banks where
  bank : Vector Bank 4
  active : Option BankNo
  edit : BankNo
  deriving DecidableEq, Repr

/-- What a failed validation names (Table 2-4, R43). -/
inductive ValidationFailure where
  /-- Item BANK, field RULE_COUNT. -/
  | ruleCount
  /-- Item CLASS, field RANGE, with the class number. -/
  | range (cls : Nat)
  /-- Item CLASS, field OVERLAP: the later class as the position, the earlier as the detail. -/
  | overlap (cls detail : Nat)
  /-- Item RULE, field MOISTURE, with the rank position. -/
  | moisture (pos : Nat)
  /-- Item RULE, field SPILL, with the rank position. -/
  | spill (pos : Nat)
  /-- Item RULE, field BIN, with the rank position and the bin whose position is unset. -/
  | bin (pos detail : Nat)
  deriving DecidableEq, Repr

/-! ### Sheet tracking (chapter 3) -/

/-- The entry eye state (R52). -/
inductive EntryEye where
  | clear | blockedTracked | blockedUntracked
  deriving DecidableEq, Repr

/-- The scan sync states (Table 3-4). -/
inductive SyncState where
  | inStep | doubtful | outOfStep
  deriving DecidableEq, Repr

/-- The state of a tracking entry with its target and its held gate points, present exactly with the target
(Table 3-2). `closed` and `opened` record that the entry's gate-close passage, or its redry gate-open passage,
has been taken (each is taken once, R51). -/
inductive EntryState where
  | awaitReport
  | routed (bin : BinNo) (openPoint closePoint : Travel)
  | landing (bin : BinNo) (openPoint closePoint : Travel) (closed : Bool)
  | toRedry (openPoint closePoint : Travel) (opened : Bool)
  | toReject
  deriving DecidableEq, Repr

/-- A tracking entry (Table 3-2). -/
structure Entry where
  number : Byte
  lead : Travel
  eyeLen : Option Nat
  state : EntryState
  verdict : Option Verdict
  bank : Option BankNo
  deriving DecidableEq, Repr

/-- Which sheet an entry is for. -/
def Entry.id (e : Entry) : EntryId := ⟨e.number, e.lead⟩

/-- The sheet tracker's state (Table 3-5). -/
structure Tracker where
  travel : Travel
  queue : List Entry
  nextNumber : Byte
  eye : EntryEye
  lastTrailing : Option Travel
  mismatches : Nat
  deriving DecidableEq, Repr

/-! ### Routing and gates (chapter 4) -/

/-- A lift's key (Table 6-1). -/
structure Key where
  bank : BankNo
  code : Nat
  cls : Nat
  deriving DecidableEq, Repr

/-- The line-wide geometry (Table 4-1); `none` is unset. -/
structure Geometry where
  decisionDistance : Nat
  gateLead : Nat
  gateHold : Nat
  landingAllowance : Nat
  eyeStuck : Nat
  minGap : Nat
  lengthTolerance : Nat
  binPosition : Vector (Option Nat) 16
  redryGate : Option Nat
  beltEnd : Option Nat
  deriving DecidableEq, Repr

/-- Where the router sends a verdict (R79): to a bin, with the lift key sought and the target of the rule whose
bin list was searched (R85); to the redry gate at its position (R87); or to the belt end, with the verdict it
leaves as a REJECT reason and computed values (R84, R87). -/
inductive RoutePlan where
  | bin (b : BinNo) (key : Key) (target : Nat)
  | redryGate (position : Nat)
  | beltEnd (reason : RejectReason) (values : Option Computed)
  deriving DecidableEq, Repr

/-- The relations of R76 that a geometry write must keep. -/
inductive GeomRelation where
  | binBeyondDecision
  | binBeforeBeltEnd
  | redryBeforeBeltEnd
  deriving DecidableEq, Repr

/-- The conflict report of a geometry write (R76): the relation, and what the table's column names. R76's prose
also has the belt end named, the table never: the model follows the table (DESIGN CHOICE, log entry 23). -/
inductive GeomConflict where
  | bin (rel : GeomRelation) (b : BinNo)
  | redryGate (rel : GeomRelation)
  deriving DecidableEq, Repr

/-! ### Lifts (chapter 6) -/

/-- A lift's state (Table 6-2). -/
inductive LiftState where
  | opened | closed | ejecting | stored | assigned
  deriving DecidableEq, Repr

/-- The close reasons (Table 6-1). A bin's close reason is one of the first four (Table 5-1). -/
inductive CloseReason where
  | full | short | recipe | shiftEnd | fault
  deriving DecidableEq, Repr

/-- The place of a close reason's counter in the tallies. -/
def CloseReason.idx : CloseReason → Fin 5
  | .full => 0
  | .short => 1
  | .recipe => 2
  | .shiftEnd => 3
  | .fault => 4

/-- A lift record in use (Table 6-1). The record is held where the lift is held: by its bin while OPEN, CLOSED
or EJECTING and by its slot while STORED or ASSIGNED, so the pool's 40 records are the 16 bins' and the 24
slots' places (R116). -/
structure Lift where
  id : Nat
  key : Key
  bin : BinNo
  state : LiftState
  target : Nat
  landed : Nat
  inFlight : Nat
  missed : Nat
  moistureSum : Nat
  moistureMax : Option Nat
  closeReason : Option CloseReason
  closeOrder : Option SeqNo
  slot : Option SlotNo
  pull : Option Nat
  deriving DecidableEq, Repr

/-- The lift store's own counters (R116, R123). -/
structure LiftStore where
  nextId : Nat
  closeCounter : SeqNo
  deriving DecidableEq, Repr

/-! ### Bins (chapter 5) -/

/-- The fault reasons of a bin (Table 5-1). -/
inductive BinFault where
  | landing | eyeStuck | ejectTimeout
  deriving DecidableEq, Repr

/-- A bin's state with the close reason, the fault reason and the lift, each present exactly where Table 5-1
says. -/
inductive BinState where
  | offline
  | ready
  | filling (lift : Lift)
  | drainClose (reason : CloseReason) (lift : Lift)
  | fullWait (lift : Lift)
  | ejecting (lift : Lift)
  | faulted (reason : BinFault) (lift : Option Lift)
  deriving DecidableEq, Repr

/-- A bin record (Table 5-1). The landed eye is BLOCKED while its eye-blocked mark is present, and CLEAR
otherwise. The bin's position is held with the geometry. `eject` is the EJECT_n output; GATE_n is asserted
exactly while `gate` says the gate is open (R89). -/
structure Bin where
  state : BinState
  suspicion : Nat
  eyeMark : Option Travel
  gate : Bool
  eject : Bool
  deriving DecidableEq, Repr

/-- What an anomaly was (R103). -/
inductive Anomaly where
  | missed | stray
  deriving DecidableEq, Repr

/-- A bin's state as it is reported: without the lift. -/
inductive BinTag where
  | offline | ready | filling
  | drainClose (reason : CloseReason)
  | fullWait | ejecting
  | faulted (reason : BinFault)
  deriving DecidableEq, Repr

/-- What became of the lift a bin request concerned (R109 to R112). -/
inductive LiftFate where
  | closed | kept | discarded | draining
  deriving DecidableEq, Repr

/-! ### Outfeed and slots (chapter 7) -/

/-- The outfeed state (R132); BUSY names the ejection in progress. -/
inductive OutfeedState where
  | free
  | busy (bin : BinNo) (slot : SlotNo)
  | blocked
  deriving DecidableEq, Repr

/-- The outfeed controller: state, ejection queue, the eject timer's remaining milliseconds while it runs, and
the eject timeout in seconds (Table 7-3). -/
structure Outfeed where
  state : OutfeedState
  queue : List BinNo
  timer : Option Nat
  timeout : Nat
  deriving DecidableEq, Repr

/-- A slot's state with its reserving bin or its lift (Table 7-1). The one fault reason is STRAY_LIFT. -/
inductive SlotState where
  | offline
  | empty
  | reserved (bin : BinNo)
  | holding (lift : Lift)
  | faulted
  deriving DecidableEq, Repr

/-- A slot record (Table 7-1); `eye` is true while the slot eye is BLOCKED. -/
structure Slot where
  state : SlotState
  eye : Bool
  deriving DecidableEq, Repr

/-- A slot's state as it is reported. -/
inductive SlotTag where
  | offline | empty
  | reserved (bin : BinNo)
  | holding (lift : Nat)
  | faulted
  deriving DecidableEq, Repr

/-! ### Pulls (chapter 8) -/

/-- A line's settings (Table 8-1). -/
structure LineSettings where
  access : AccessSet
  force : Bool
  rank : Nat
  deriving DecidableEq, Repr

/-- A pull's state; the lift and the handover timer's remaining milliseconds are present while ASSIGNED. -/
inductive PullState where
  | waiting
  | assigned (lift : Nat) (remaining : Nat)
  deriving DecidableEq, Repr

/-- A pull record (Table 8-2). -/
structure Pull where
  number : Nat
  line : LineNo
  code : Nat
  bank : Option Nat
  cls : Option Nat
  arrival : SeqNo
  passCount : Nat
  state : PullState
  deriving DecidableEq, Repr

/-- The pull arbiter's state (Table 8-5). The pulls stand in the order of their creation. -/
structure Arbiter where
  pulls : List Pull
  settings : Vector LineSettings 4
  passLimit : Nat
  handoverTimeout : Nat
  nextNumber : Nat
  arrivals : SeqNo
  expired : Vector (List Nat) 4
  deriving DecidableEq, Repr

/-! ### Mode and tallies (chapter 9) -/

/-- The sort mode (R164). -/
inductive SortMode where
  | idle | run | drain
  deriving DecidableEq, Repr

/-- The shift tallies (Table 9-3). `landed` holds the counter of grade code c at place c - 1. -/
structure Tallies where
  landed : Vector Nat 250
  landedTotal : Nat
  redry : Nat
  rejects : Vector Nat 10
  missed : Nat
  stray : Nat
  closed : Vector Nat 5
  taken : Nat
  unclaimed : Nat
  deriving DecidableEq, Repr

/-- What TALLY_READ and TALLY_CLEAR report (R173). -/
structure TallyReport where
  landedTotal : Nat
  landed : List (Nat × Nat)
  redry : Nat
  rejects : Vector Nat 10
  missed : Nat
  stray : Nat
  closed : Vector Nat 5
  taken : Nat
  unclaimed : Nat
  deriving DecidableEq, Repr

/-! ### Events, refusals, replies and notices (chapter 10) -/

/-- Why a lift was discarded: the bin's close reason, or the request that discarded it (R181). -/
inductive DiscardReason where
  | close (r : CloseReason)
  | clearBin
  | binOffline
  deriving DecidableEq, Repr

/-- An event record (Table 10-3). -/
inductive Event where
  | trackFull
  | syncChanged (s : SyncState)
  | binSuspect (b : BinNo) (why : Anomaly)
  | binFaulted (b : BinNo) (why : BinFault)
  | liftClosed (lift : Nat) (b : BinNo) (why : CloseReason) (landed : Nat) (mean max : Option Nat)
  | liftDiscarded (lift : Nat) (b : BinNo) (why : DiscardReason)
  | liftStored (lift : Nat) (slot : SlotNo)
  | slotFaulted (slot : SlotNo)
  | liftUnclaimed (lift : Nat) (slot : SlotNo)
  | liftTaken (lift : Nat) (slot : SlotNo) (line : LineNo)
  | handoverExpired (lift : Nat) (line : LineNo)
  | modeChanged (m : SortMode)
  deriving DecidableEq, Repr

/-- The event list, its overflow mark and the event mask (R181). -/
structure EventLog where
  list : List Event
  overflow : Bool
  mask : EventMask
  deriving DecidableEq, Repr

/-- The refusal reasons (Table 10-2). -/
inductive RefusalReason where
  | denied | protectedBank | invalid | full | unknown | notNow | late | assigned | notClear | noneReady
  | noSheet | outOfStep
  deriving DecidableEq, Repr

/-- The target of a refused request, as the request carried it (R179). -/
inductive Target where
  | bank (n : Nat)
  | bin (n : Nat)
  | slot (n : Nat)
  | line (n : Nat)
  | grade (n : Nat)
  deriving DecidableEq, Repr

/-- The refusal record (R179). -/
structure RefusalRecord where
  port : Port
  kind : ReqKind
  target : Option Target
  deriving DecidableEq, Repr

/-- A tracking entry's state as it is reported. -/
inductive EntryTag where
  | awaitReport | routed | landing | toRedry | toReject
  deriving DecidableEq, Repr

/-- A verdict's kind and reason as QUERY of TRACKER gives them (R72). -/
inductive VerdictTag where
  | graded | redry
  | reject (reason : RejectReason)
  deriving DecidableEq, Repr

/-- One tracking entry as QUERY of TRACKER gives it (R72); the target is a bin or the redry gate. -/
structure EntryView where
  number : Byte
  state : EntryTag
  lead : Travel
  eyeLen : Option Nat
  verdict : Option VerdictTag
  target : Option SheetGoal
  bank : Option BankNo
  deriving DecidableEq, Repr

/-- The lift of a bin as QUERY of BINS gives it (R114). -/
structure BinLiftView where
  id : Nat
  key : Key
  state : LiftState
  landed : Nat
  inFlight : Nat
  missed : Nat
  target : Nat
  deriving DecidableEq, Repr

/-- One bin as QUERY of BINS gives it (R114, R103, R91). -/
structure BinView where
  state : BinTag
  suspicion : Nat
  suspect : Bool
  eyeBlocked : Bool
  gate : Bool
  lift : Option BinLiftView
  deriving DecidableEq, Repr

/-- One stored lift as QUERY of STORED_LIFTS gives it (R130); the pull on the setup port only. -/
structure StoredLiftView where
  slot : SlotNo
  id : Nat
  key : Key
  bin : BinNo
  landed : Nat
  mean : Option Nat
  max : Option Nat
  closeReason : Option CloseReason
  closeOrder : Option SeqNo
  pull : Option Nat
  deriving DecidableEq, Repr

/-- One pull as QUERY of PULLS gives it (R163); the line on the setup port only. -/
structure PullView where
  number : Nat
  line : Option LineNo
  code : Nat
  bank : Option Nat
  cls : Option Nat
  arrival : SeqNo
  passCount : Nat
  state : PullState
  slot : Option SlotNo
  deriving DecidableEq, Repr

/-- One item of QUERY of OUTFEED: a bin of the ejection queue with its lift id and close order, or a slot
(R144). -/
inductive OutfeedItem where
  | waiting (b : BinNo) (lift : Option Nat) (order : Option SeqNo)
  | slot (n : SlotNo) (state : SlotTag) (eyeBlocked : Bool)
  deriving DecidableEq, Repr

/-- The setup parameters of Table 0-3 with the active bank and the edit bank, as QUERY of SETTINGS gives them
(R183). -/
structure SettingsView where
  geometry : Geometry
  handoverTimeout : Nat
  ejectTimeout : Nat
  passLimit : Nat
  ranks : Vector Nat 4
  active : Option BankNo
  edit : BankNo
  deriving DecidableEq, Repr

/-- One port as QUERY of PORTS gives it (R183). -/
structure PortView where
  errors : Nat
  occupancy : Nat
  lost : Bool
  deriving DecidableEq, Repr

/-- The subject-dependent part of a QUERY reply: the fixed fields and the items given (R183). -/
inductive QueryData where
  | tracker (travel : Travel) (sync : SyncState) (mismatches : Nat) (eye : EntryEye) (nextNumber : Byte)
      (redryGate : Bool) (items : List EntryView)
  | bins (items : List BinView)
  | storedLifts (items : List StoredLiftView)
  | pulls (expired : List (LineNo × List Nat)) (items : List PullView)
  | outfeed (state : OutfeedState) (timer : Option Nat) (timeout : Nat) (items : List OutfeedItem)
  | settings (v : SettingsView)
  | lines (passLimit handoverTimeout : Nat) (items : List LineSettings)
  | refusals (record : Option RefusalRecord)
  | ports (items : List PortView)
  | mode (m : SortMode) (events : Nat) (overflow : Bool)
  deriving DecidableEq, Repr

/-- The result fields of a DONE reply (R178), as the request's own rule names them. -/
inductive Result where
  /-- SHEET_REPORT (R26). -/
  | sheet (entry : Byte) (verdict : Verdict) (goal : SheetGoal) (clamped : Bool)
  /-- SCAN_RESYNC (R70). -/
  | resync (found : SyncState) (next : Byte)
  /-- SELECT_BANK (R32). -/
  | selected (bank : BankNo) (state : BankState)
  /-- An accepted write of a bank (R33). -/
  | written (bank : BankNo) (state : BankState) (rules : Nat)
  /-- READ_BANK (R41). -/
  | bankContents (state : BankState) (active : Bool) (classes : Vector (Option ClassRange) 4)
      (weights : PerKind Nat) (redryLimit fullWidth rules : Nat) (codes : List Nat)
  /-- READ_GRADE (R41). -/
  | gradeContents (rule : GradeRule)
  /-- VALIDATE (R44). -/
  | validated (bank : BankNo) (state : BankState)
  /-- ACTIVATE (R45, R47). -/
  | activated (bank : BankNo) (previous : Option BankNo) (drained : List BinNo)
  /-- WRITE_GEOMETRY (R75). -/
  | geometry (param : GeomParam) (value : Option Nat)
  /-- CLEAR_BIN, BIN_ONLINE, BIN_OFFLINE, CLOSE_BIN (section 5.7). -/
  | bin (b : BinNo) (state : BinTag) (lift : Option (Nat × LiftFate))
  /-- FORCE_CLOSE (R127). -/
  | forced (b : BinNo) (lift : Nat) (key : Key) (landed inFlight : Nat) (state : BinTag)
  /-- A parameter written: the value now held (R136, R146). -/
  | value (n : Nat)
  /-- DONE with no result fields (CLEAR_OUTFEED, R139). -/
  | plain
  /-- SLOT_ONLINE, SLOT_OFFLINE, CLEAR_SLOT (R143). -/
  | slot (n : SlotNo) (state : SlotTag)
  /-- WRITE_LINE (R145). -/
  | line (n : LineNo) (settings : LineSettings)
  /-- PULL (R150). -/
  | pulled (number : Nat) (arrival : SeqNo)
  /-- RELEASE (R158). -/
  | released (number lift : Nat)
  /-- CANCEL (R159). -/
  | cancelled (number : Nat)
  /-- START, DRAIN (R165, R166). -/
  | mode (m : SortMode)
  /-- STOP, RESTART (R169, R170). -/
  | stopped (m : SortMode) (discarded : Nat)
  /-- TALLY_READ, TALLY_CLEAR (R173, R174). -/
  | tallies (t : TallyReport)
  /-- WRITE_EVENT_MASK (R181). -/
  | mask (m : EventMask)
  /-- EVENT_READ (R182). -/
  | events (overflow : Bool) (list : List Event)
  /-- QUERY (R183): the subject's fields, the total item count and the first item number. -/
  | query (count first : Nat) (data : QueryData)
  deriving DecidableEq, Repr

/-- The report a refusal INVALID may carry (R178). -/
inductive FailureReport where
  | validation (f : ValidationFailure)
  | geometry (c : GeomConflict)
  deriving DecidableEq, Repr

/-- The kind value a reply echoes: a request's, or the value of a kind that names no request (R177, R178). -/
inductive EchoKind where
  | request (k : ReqKind)
  | unknown (code : Byte)
  deriving DecidableEq, Repr

/-- A reply's body (R178). -/
inductive ReplyBody where
  | done (r : Result)
  | refused (why : RefusalReason) (report : Option FailureReport)
  deriving DecidableEq, Repr

/-- The notices sent to the lines (R154, R156, R157, R187). -/
inductive Notice where
  | assigned (pull lift : Nat) (slot : SlotNo) (key : Key) (landed mean : Nat)
  | taken (pull lift : Nat) (slot : SlotNo)
  | expired (pull lift : Nat) (slot : SlotNo)
  deriving DecidableEq, Repr

/-- One item of an outgoing queue (R180). -/
inductive Item where
  | reply (kind : EchoKind) (tag : Byte) (body : ReplyBody)
  | notice (n : Notice)
  deriving DecidableEq, Repr

/-- An item being sent, with the notice-lost mark it carries (R180) and the bytes of its frame (R184). -/
structure Transmission where
  item : Item
  mark : Bool
  frame : List Byte
  deriving DecidableEq, Repr

/-- A complete frame as received: kind, tag and payload (Table 10-4). -/
structure Frame where
  kind : Byte
  tag : Byte
  payload : List Byte
  deriving DecidableEq, Repr

/-- A port's receiver with the bytes of the frame in progress (R176). -/
inductive Receiver where
  | hunt
  | header (got : List Byte)
  | payload (kind tag len : Byte) (got : List Byte)
  | check (kind tag : Byte) (payload got : List Byte)
  deriving DecidableEq, Repr

/-- One link port: the receiver, the whole milliseconds since the last byte received on the port (as the part's
timebase counts them, held at 21; 21 too while no byte has been received), the receive buffer, the frame error
count, the outgoing queue, the notice-lost mark, the item being sent and the rate read from the strap (R175 to
R180). -/
structure PortState where
  receiver : Receiver
  gapMs : Nat
  buffer : Option Frame
  errors : Nat
  queue : List Item
  lost : Bool
  sending : Option Transmission
  rate : Rate
  deriving DecidableEq, Repr

end Sys2Proof.Machine
end

