-- ==== Sys2Proof/Config.lean ====
section
/-! DEFINITION. What is fixed for the part: the capacities of Table 0-2, and the FREE VALUES, the byte values
the manual does not give (opaque constants: nothing can be proved of what they are; log entry 9). -/

namespace Sys2Proof

/-- Entries in the tracking queue, at most (R57). -/
def Config.maxEntries : Nat := 48
/-- Items in one port's outgoing queue, at most (R180). -/
def Config.maxItems : Nat := 16
/-- Events in the event list, at most (R181). -/
def Config.maxEvents : Nat := 32
/-- Grade rules per bank, at most (R28). -/
def Config.maxRules : Nat := 12
/-- Pulls held by one line, at most (R147). -/
def Config.maxPullsPerLine : Nat := 4
/-- Numbers in one line's expired-pull memory, at most (R157). -/
def Config.maxExpired : Nat := 4
/-- Where a 32-bit tally stops (R172). -/
def Config.tallyMax : Nat := 4294967295
/-- Payload bytes of a frame, at most (R176). -/
def Config.maxPayload : Nat := 240
/-- Milliseconds after which the gap between two bytes of a frame discards it (R176). -/
def Config.gapLimitMs : Nat := 20

/-- FREE VALUE: which of the 126 kind values 0x01 to 0x7F other than SHEET_REPORT's 0x21 each other kind of
request has; R184 says only that each has a value of its own there. -/
opaque Config.kindOrder : Equiv.Perm (Fin 126)
/-- FREE VALUE: the payload that carries the named fields of a request other than SHEET_REPORT, where they are in
form (section 10.8: "Every other message is known by its named fields"). -/
opaque Config.requestPayload : Instr → List Byte
/-- FREE VALUE: the reason byte of a REFUSED reply (R178 gives the byte's place, not its values). -/
opaque Config.reasonValue : Machine.RefusalReason → Byte
/-- FREE VALUE: the bytes of the failure report of a REFUSED reply (R178 gives its place, not its layout). -/
opaque Config.reportBytes : Machine.FailureReport → List Byte
/-- FREE VALUE: the bytes of the result fields of a DONE reply to a request other than SHEET_REPORT (section
10.8: "Every other message is known by its named fields"). -/
opaque Config.resultBytes : Machine.Result → List Byte

end Sys2Proof
end

