-- ==== Sys2Proof/Machine/State.lean ====
section
/-! DEFINITION. The machine's state: every piece of state the manual gives the part, grouped by the block that
owns it (Table 0-1), the queue of waiting commands, the two ways a step can stop, and the state after full
reset. -/

namespace Sys2Proof.Machine

/-- Why a step stops with a fault. -/
inductive Fault where
  /-- Raised by SHEET_REPORT alone, when a report would bind while no bank is active. R7 says that a bank is
  active whenever an entry waits for its report, so no run from reset raises it. Safe: the machine stops where
  the manual gives no bank to grade under (log entry 8). -/
  | noActiveBank
  deriving DecidableEq, Repr

/-- Why a step is refused. -/
inductive Refusal where
  /-- Raised by `exec` for a command that has no meaning yet. Safe: nothing is claimed of it. No arm answers
  so: every command has its meaning. -/
  | notModelled (mnemonic : String)
  deriving DecidableEq, Repr

/-- The state of the part, and the commands that wait to be taken, first in first out. -/
structure State where
  /-- Travel counter, tracking queue, entry eye and scan sync (Table 3-5). -/
  tracker : Tracker
  /-- The recipe banks, the active bank and the edit bank (R30 to R32). -/
  banks : Banks
  /-- The line-wide geometry, bin positions included (Table 4-1). -/
  geometry : Geometry
  /-- The bin table (Table 5-1). -/
  bins : Vector Bin 16
  /-- The REDRY_GATE output: true while the redry gate is open (R90). -/
  redryGate : Bool
  /-- The lift store's counters (R116, R123). -/
  store : LiftStore
  /-- The outfeed controller (Table 7-3). -/
  outfeed : Outfeed
  /-- The slot table (Table 7-1). -/
  slots : Vector Slot 24
  /-- The pull arbiter (Table 8-5). -/
  arbiter : Arbiter
  /-- The sort mode (R164). -/
  mode : SortMode
  /-- The shift tallies (Table 9-3). -/
  tallies : Tallies
  /-- The six link ports, in the order of Table 10-1. -/
  ports : Vector PortState 6
  /-- The event list, overflow mark and mask (R181). -/
  events : EventLog
  /-- The refusal record; absent after full reset (R179). -/
  refusal : Option RefusalRecord
  /-- The commands waiting to be taken: the model's own queue (log entry 1). -/
  pending : List Instr
  deriving DecidableEq, Repr

/-- The empty contents of a bank, in the state EMPTY (R31). -/
def Bank.empty : Bank where
  state := .empty
  classes := Vector.replicate 4 none
  weights := PerKind.all 0
  redryLimit := 300
  fullWidth := 100
  rules := []

/-- The geometry after full reset (Table 4-1). -/
def Geometry.reset : Geometry where
  decisionDistance := 1500
  gateLead := 100
  gateHold := 100
  landingAllowance := 400
  eyeStuck := 4000
  minGap := 50
  lengthTolerance := 30
  binPosition := Vector.replicate 16 none
  redryGate := none
  beltEnd := none

/-- A bin record after full reset, with LANDED_n blocked or clear (Table 5-1). -/
def Bin.reset (blocked : Bool) : Bin where
  state := .offline
  suspicion := 0
  eyeMark := if blocked then some 0 else none
  gate := false
  eject := false

/-- A port after full reset, with its rate as strapped (R175, R176, R180). -/
def PortState.reset (rate : Rate) : PortState where
  receiver := .hunt
  gapMs := Config.gapLimitMs + 1
  buffer := none
  errors := 0
  queue := []
  lost := false
  sending := none
  rate := rate

/-- Every tally at 0 (R171, R174). -/
def Tallies.zero : Tallies where
  landed := Vector.replicate 250 0
  landedTotal := 0
  redry := 0
  rejects := Vector.replicate 10 0
  missed := 0
  stray := 0
  closed := Vector.replicate 5 0
  taken := 0
  unclaimed := 0

/-- The twelve event kinds enabled (R181). -/
def allEvents : EventMask :=
  ⟨true, true, true, true, true, true, true, true, true, true, true, true⟩

/-- The part as full reset leaves it, with the pins as read at the release (R171, Table 9-2), and no command
waiting. -/
def State.resetWith (pins : Pins) : State where
  tracker :=
    { travel := 0, queue := [], nextNumber := 0
      eye := if pins.entryEye then .blockedUntracked else .clear
      lastTrailing := none, mismatches := 0 }
  banks := { bank := Vector.replicate 4 Bank.empty, active := none, edit := 0 }
  geometry := Geometry.reset
  bins := Vector.ofFn (fun b : BinNo => Bin.reset pins.landed[b])
  redryGate := false
  store := { nextId := 1, closeCounter := 0 }
  outfeed := { state := .free, queue := [], timer := none, timeout := 30 }
  slots := Vector.ofFn (fun n : SlotNo => { state := .offline, eye := pins.slotEyes[n] })
  arbiter :=
    { pulls := [], settings := Vector.replicate 4 ⟨.all, false, 0⟩, passLimit := 4
      handoverTimeout := 120, nextNumber := 1, arrivals := 0, expired := Vector.replicate 4 [] }
  mode := .idle
  tallies := Tallies.zero
  ports := Vector.ofFn (fun p : Fin 6 => PortState.reset pins.rates[p])
  events := { list := [], overflow := false, mask := allEvents }
  refusal := none
  pending := []

/-- The pins with every eye clear and every strap at 57,600 bit/s (DESIGN CHOICE, log entry 5). -/
def clearPins : Pins where
  entryEye := false
  landed := Vector.replicate 16 false
  slotEyes := Vector.replicate 24 false
  rates := Vector.replicate 6 .r57600

/-- The machine right after full reset, with every eye clear. -/
def State.reset : State := State.resetWith clearPins

end Sys2Proof.Machine
end

