-- ==== Sys2Proof/Machine/Operands.lean ====
section
/-! DEFINITION. Operands: distances and sequence numbers, the fields of a request and their checks, the bytes
of a sheet report, and the check of a frame. -/

namespace Sys2Proof.Machine

/-! ### Distances and sequence numbers -/

/-- The belt travel from position `start` to position `here`, modulo 2^32 (R50, "Positions and distances"). -/
def travelled (here start : Travel) : Nat := (here - start).toNat

/-- Sequence number `a` is earlier than `b` (R123; also R147 for arrivals). -/
def seqEarlier (a b : SeqNo) : Bool :=
  decide (1 ≤ (b - a).toNat) && decide ((b - a).toNat ≤ 2 ^ 31 - 1)

/-- A distance in millimetres as a step of the travel counter. -/
def mm (n : Nat) : Travel := BitVec.ofNat 32 n

/-! ### Numbers a request names -/

/-- `x` lies in `lo` to `hi`, bounds included. -/
def inRange (lo hi x : Nat) : Bool := decide (lo ≤ x) && decide (x ≤ hi)

/-- The bin a number names, if it names one. -/
def asBin (n : Nat) : Option BinNo := if h : n < 16 then some ⟨n, h⟩ else none

/-- The slot a number names, if it names one. -/
def asSlot (n : Nat) : Option SlotNo := if h : n < 24 then some ⟨n, h⟩ else none

/-- The bank or line a number names, if it names one. -/
def asFour (n : Nat) : Option (Fin 4) := if h : n < 4 then some ⟨n, h⟩ else none

/-- An optional field, when present, lies in `lo` to `hi`. -/
def optInRange (lo hi : Nat) : Option Nat → Bool
  | none => true
  | some x => inRange lo hi x

/-- The items of a reply to QUERY: up to 8 from item `first` (R183). -/
def page {α : Type} (first : Nat) (items : List α) : List α := (items.drop first).take 8

/-- A QUERY's first item number is accepted for a subject of `count` items (R183). -/
def firstAccepted (first count : Nat) : Bool := decide (first < count) || (first == 0 && count == 0)

/-! ### Bank writes (R34 to R37) -/

/-- Four class places, each present one with min and max in 500 to 6000 (R34). -/
def classesOf : List (Option ClassRange) → Option (Vector (Option ClassRange) 4)
  | [a, b, c, d] =>
    if [a, b, c, d].all (fun p => match p with
        | none => true
        | some r => inRange 500 6000 r.lo && inRange 500 6000 r.hi)
    then some #v[a, b, c, d] else none
  | _ => none

/-- Exactly eight weights, in the order of Table 1-2 (R35). -/
def weightsOf : List Byte → Option (PerKind Nat)
  | [a, b, c, d, e, f, g, h] =>
    some ⟨a.toNat, b.toNat, c.toNat, d.toNat, e.toNat, f.toNat, g.toNat, h.toNat⟩
  | _ => none

/-- The field checks 1 to 9 of WRITE_GRADE against the edit bank's rules (R37). -/
def gradeWriteFormed (rules : List GradeRule) (pos : Nat) (g : GradeRule) : Bool :=
  inRange 0 11 pos && decide (pos ≤ rules.length)
    && inRange 1 250 g.code && (rules.eraseIdx pos).all (fun r => r.code != g.code)
    && inRange 1 4 g.classes.length && decide g.classes.Nodup && g.classes.all (inRange 0 3)
    && inRange 0 300 g.moistureMin && inRange 0 300 g.moistureMax && inRange 0 65535 g.densityLimit
    && allKinds.all (fun k => optInRange 0 32 (g.countLimit.get k) && inRange 1 999 (g.sizeLimit.get k))
    && optInRange 1 250 g.spill
    && inRange 1 4 g.bins.length && decide g.bins.Nodup && g.bins.all (inRange 0 15)
    && inRange 20 600 g.target && inRange 1 g.target g.shortMin

/-- The rule list after an accepted WRITE_GRADE at `pos` (R38). -/
def placeRule (rules : List GradeRule) (pos : Nat) (g : GradeRule) : List GradeRule :=
  if pos < rules.length then rules.set pos g else rules ++ [g]

/-- The rule of a bank that carries a code (R48). -/
def lookupRule (b : Bank) (code : Nat) : Option GradeRule := b.rules.find? (fun r => r.code == code)

/-- A line's access set is ALL or 1 to 8 distinct codes of 1 to 250 (R145). -/
def accessFormed : AccessSet → Bool
  | .all => true
  | .codes l => inRange 1 8 l.length && decide l.Nodup && l.all (inRange 1 250)

/-- An access set admits a grade code (R149). -/
def accessAdmits : AccessSet → Nat → Bool
  | .all, _ => true
  | .codes l, c => l.contains c

/-! ### Validation of a bank (Table 2-4) -/

/-- The position set for a bin number, if it names a bin and the bin's position is set. -/
def Geometry.positionOf (g : Geometry) (n : Nat) : Option Nat :=
  match asBin n with
  | some b => g.binPosition[b]
  | none => none

/-- Check 2: a present class with min greater than max. -/
def rangeFailure (classes : Vector (Option ClassRange) 4) : Option ValidationFailure :=
  allFour.findSome? (fun i =>
    match classes[i] with
    | some r => if r.hi < r.lo then some (.range i.val) else none
    | none => none)

/-- The class pairs in the order check 3 takes them (R42). -/
def classPairs : List (Fin 4 × Fin 4) := [(0, 1), (0, 2), (0, 3), (1, 2), (1, 3), (2, 3)]

/-- Check 3: two present classes that share a thickness. -/
def overlapFailure (classes : Vector (Option ClassRange) 4) : Option ValidationFailure :=
  classPairs.findSome? (fun p =>
    match classes[p.1], classes[p.2] with
    | some r, some q => if r.lo ≤ q.hi ∧ q.lo ≤ r.hi then some (.overlap p.2.val p.1.val) else none
    | _, _ => none)

/-- Check 4, for the rules from rank position `i` on. -/
def rulesFailure (g : Geometry) : Nat → List GradeRule → Option ValidationFailure
  | _, [] => none
  | i, r :: later =>
    if r.moistureMax < r.moistureMin then some (.moisture i)
    else if (match r.spill with
        | none => false
        | some c => later.all (fun x => x.code != c)) then some (.spill i)
    else match r.bins.find? (fun n => (g.positionOf n).isNone) with
      | some n => some (.bin i n)
      | none => rulesFailure g (i + 1) later

/-- Validation of a bank: the first check of Table 2-4 that fails, or none (R42). -/
def validationOf (g : Geometry) (b : Bank) : Option ValidationFailure :=
  if b.rules = [] then some .ruleCount
  else ((rangeFailure b.classes).or (overlapFailure b.classes)).or (rulesFailure g 0 b.rules)

/-! ### Geometry writes (R75, R76) -/

/-- The range of a geometry parameter (Table 4-1). -/
def geomRange : GeomParam → Nat × Nat
  | .decisionDistance => (500, 6000)
  | .gateLead => (0, 500)
  | .gateHold => (0, 500)
  | .landingAllowance => (100, 2000)
  | .eyeStuck => (1000, 20000)
  | .minGap => (0, 500)
  | .lengthTolerance => (5, 200)
  | .binPosition _ => (1000, 40000)
  | .redryGate => (1000, 40000)
  | .beltEnd => (2000, 60000)

/-- The form check of WRITE_GEOMETRY (R75, step 2). -/
def geomFormed (p : GeomParam) (v : Option Nat) : Bool :=
  (match p with
    | .binPosition n => (asBin n).isSome
    | _ => true)
  && (match v with
    | none => p == .redryGate
    | some x => inRange (geomRange p).1 (geomRange p).2 x)

/-- The value of a geometry parameter; `none` is unset. -/
def Geometry.value (g : Geometry) : GeomParam → Option Nat
  | .decisionDistance => some g.decisionDistance
  | .gateLead => some g.gateLead
  | .gateHold => some g.gateHold
  | .landingAllowance => some g.landingAllowance
  | .eyeStuck => some g.eyeStuck
  | .minGap => some g.minGap
  | .lengthTolerance => some g.lengthTolerance
  | .binPosition n => g.positionOf n
  | .redryGate => g.redryGate
  | .beltEnd => g.beltEnd

/-- The geometry with one parameter replaced. Only the redry gate takes the value UNSET. -/
def Geometry.put (g : Geometry) (p : GeomParam) (v : Option Nat) : Geometry :=
  match p, v with
  | .redryGate, v => { g with redryGate := v }
  | _, none => g
  | .decisionDistance, some x => { g with decisionDistance := x }
  | .gateLead, some x => { g with gateLead := x }
  | .gateHold, some x => { g with gateHold := x }
  | .landingAllowance, some x => { g with landingAllowance := x }
  | .eyeStuck, some x => { g with eyeStuck := x }
  | .minGap, some x => { g with minGap := x }
  | .lengthTolerance, some x => { g with lengthTolerance := x }
  | .binPosition n, some x =>
    match asBin n with
    | some b => { g with binPosition := vset g.binPosition b (some x) }
    | none => g
  | .beltEnd, some x => { g with beltEnd := some x }

/-- The first bin, by bin number, whose position less the gate lead is not beyond the decision distance. -/
def decisionConflict (g : Geometry) : Option GeomConflict :=
  (allBins.find? (fun b =>
    match g.binPosition[b] with
    | some p => decide (p ≤ g.decisionDistance + g.gateLead)
    | none => false)).map (GeomConflict.bin .binBeyondDecision)

/-- The first bin, by bin number, whose position is not short of the belt end, when the belt end is set. The bin is
named whichever of the two was written, as the table of R76 has it (DESIGN CHOICE, log entry 23). -/
def beltEndConflict (g : Geometry) : Option GeomConflict :=
  (allBins.find? (fun b =>
    match g.binPosition[b], g.beltEnd with
    | some p, some e => decide (e ≤ p)
    | _, _ => false)).map (GeomConflict.bin .binBeforeBeltEnd)

/-- The redry gate, when it is not short of the belt end and both are set; named whichever of the two was written,
as the table of R76 has it (DESIGN CHOICE, log entry 23). -/
def redryConflict (g : Geometry) : Option GeomConflict :=
  match g.redryGate, g.beltEnd with
  | some p, some e => if e ≤ p then some (.redryGate .redryBeforeBeltEnd) else none
  | _, _ => none

/-- The consistency check of a write of `p` on the geometry it would leave (R76). -/
def geomConflict (g : Geometry) : GeomParam → Option GeomConflict
  | .decisionDistance => decisionConflict g
  | .gateLead => decisionConflict g
  | .binPosition _ => (decisionConflict g).or (beltEndConflict g)
  | .beltEnd => (beltEndConflict g).or (redryConflict g)
  | .redryGate => redryConflict g
  | _ => none

/-! ### The bytes of a sheet report (R2, R185) -/

/-- A two-byte field, most significant byte first. -/
def be16 (hi lo : Byte) : Nat := hi.toNat * 256 + lo.toNat

/-- The two bytes of a number, most significant byte first. -/
def toBe16 (n : Nat) : List Byte := [BitVec.ofNat 8 (n / 256), BitVec.ofNat 8 n]

/-- The defect kind a code names (R185). -/
def kindOfCode (c : Byte) : Option DefectKind := allKinds[c.toNat]?

/-- The zone a code names (R185). -/
def zoneOfCode (c : Byte) : Option Zone :=
  match c.toNat with
  | 0 => some .centre
  | 1 => some .edge
  | _ => none

/-- The first `n` two-byte fields of `l`, and the bytes left. -/
def readWords : Nat → List Byte → Option (List Nat × List Byte)
  | 0, l => some ([], l)
  | n + 1, hi :: lo :: rest =>
    match readWords n rest with
    | some (ws, left) => some (be16 hi lo :: ws, left)
    | none => none
  | _ + 1, _ => none

/-- The first `n` defects of `l`, and the bytes left; none when a code names nothing. -/
def readDefects : Nat → List Byte → Option (List Defect × List Byte)
  | 0, l => some ([], l)
  | n + 1, k :: hi :: lo :: z :: rest =>
    match kindOfCode k, zoneOfCode z, readDefects n rest with
    | some kind, some zone, some (ds, left) => some (⟨kind, be16 hi lo, zone⟩ :: ds, left)
    | _, _, _ => none
  | _ + 1, _ => none

/-- The sheet report a payload carries; none when it is malformed (R2, Table 10-5). -/
def parseReport : List Byte → Option SheetData
  | l1 :: l0 :: w1 :: w0 :: t1 :: t0 :: r :: d :: flags :: rest =>
    if r.toNat = 0 ∨ 8 < r.toNat ∨ 32 < d.toNat then none
    else match readWords r.toNat rest with
      | none => none
      | some (readings, tail) =>
        match readDefects d.toNat tail with
        | some (defects, []) =>
          some
            { length := be16 l1 l0, width := be16 w1 w0, thickness := be16 t1 t0
              readings := readings, defects := defects, partialFlag := flags.getLsbD 0 }
        | _ => none
  | _ => none

/-! ### Clamping (R3, R4, R5) -/

/-- `x` moved to the nearest end of `lo` to `hi`. -/
def clampTo (lo hi x : Nat) : Nat := max lo (min hi x)

/-- The report with every field clamped to its accepted range (R3, R4). -/
def clampReport (r : SheetData) : SheetData :=
  { r with
    length := clampTo 300 2700 r.length
    width := clampTo 100 1400 r.width
    thickness := clampTo 500 6000 r.thickness
    readings := r.readings.map (clampTo 0 300)
    defects := r.defects.map (fun d => { d with size := clampTo 1 999 d.size }) }

/-- The clamped mark: some field was moved (R5). -/
def clampedMark (r : SheetData) : Bool := decide (clampReport r ≠ r)

/-! ### The check of a frame (R184) -/

/-- One bit of the CRC: polynomial x^16 + x^12 + x^5 + 1, not reflected. -/
def crcBit (c : BitVec 16) : BitVec 16 := if c.msb then (c <<< 1) ^^^ 0x1021#16 else c <<< 1

/-- The CRC taken over one more byte. -/
def crcByte (c : BitVec 16) (b : Byte) : BitVec 16 :=
  crcBit (crcBit (crcBit (crcBit (crcBit (crcBit (crcBit (crcBit
    (c ^^^ (b.setWidth 16 <<< 8)))))))))

/-- The check of a run of bytes, preset 0xFFFF. -/
def crc16 (l : List Byte) : BitVec 16 := l.foldl crcByte 0xFFFF#16

/-- The two check bytes sent after the kind, tag, length and payload bytes, high byte first. -/
def checkBytes (l : List Byte) : List Byte := toBe16 (crc16 l).toNat

/-! ### The frame of a request (R177, R184) -/

/-- A kind's number among the kinds of request, for the free choice of its value; SHEET_REPORT's is not used. -/
def kindPlace : ReqKind → Fin 126
  | .sheetReport => 125
  | .scanResync => 0
  | .selectBank => 1
  | .writeClasses => 2
  | .writeWeights => 3
  | .writeLimits => 4
  | .writeGrade => 5
  | .deleteGrade => 6
  | .clearBank => 7
  | .readBank => 8
  | .readGrade => 9
  | .validate => 10
  | .activate => 11
  | .writeGeometry => 12
  | .clearBin => 13
  | .binOnline => 14
  | .binOffline => 15
  | .closeBin => 16
  | .forceClose => 17
  | .writeEjectTimeout => 18
  | .clearOutfeed => 19
  | .slotOnline => 20
  | .slotOffline => 21
  | .clearSlot => 22
  | .writeLine => 23
  | .writePassLimit => 24
  | .writeHandoverTimeout => 25
  | .pull => 26
  | .release => 27
  | .cancel => 28
  | .start => 29
  | .drain => 30
  | .stop => 31
  | .restart => 32
  | .tallyRead => 33
  | .tallyClear => 34
  | .writeEventMask => 35
  | .eventRead => 36
  | .query => 37

/-- The kind value of a request (R184): SHEET_REPORT's is 0x21, and any other's is a free value of its own in 0x01
to 0x7F (log entry 9). -/
def kindByte : ReqKind → Byte
  | .sheetReport => 0x21#8
  | k =>
    let n := (Config.kindOrder (kindPlace k)).val + 1
    BitVec.ofNat 8 (if n < 0x21 then n else n + 1)

/-- Every kind of request. -/
def allReqKinds : List ReqKind :=
  [.sheetReport, .scanResync, .selectBank, .writeClasses, .writeWeights, .writeLimits, .writeGrade, .deleteGrade,
    .clearBank, .readBank, .readGrade, .validate, .activate, .writeGeometry, .clearBin, .binOnline, .binOffline,
    .closeBin, .forceClose, .writeEjectTimeout, .clearOutfeed, .slotOnline, .slotOffline, .clearSlot, .writeLine,
    .writePassLimit, .writeHandoverTimeout, .pull, .release, .cancel, .start, .drain, .stop, .restart, .tallyRead,
    .tallyClear, .writeEventMask, .eventRead, .query]

/-- A kind value names a request (R177). -/
def namesRequest (code : Byte) : Bool := allReqKinds.any (fun k => kindByte k == code)

/-- The payload of a request in form: SHEET_REPORT's is its operand (R185), and any other's is a free value of the
request, cut to what a payload holds (R176; log entry 9). -/
def payloadOf : Instr → List Byte
  | .sheetReport _ _ payload => payload
  | c => (Config.requestPayload c).take Config.maxPayload

/-- A frame is the request `c`: its kind and its tag, and its payload where the request is in form (R177; log
entries 2 and 3). -/
def requestFrame (r : Req) (k : ReqKind) (c : Instr) (f : Frame) : Bool :=
  f.kind == kindByte k && f.tag == r.tag && (!r.formed || f.payload == payloadOf c)

/-- A frame is a request that names nothing: of a kind value that is no request's (R177), or a QUERY, whose subject
value names none (R183; log entry 11). -/
def unknownFrame (what : Unknown) (tag : Byte) (f : Frame) : Bool :=
  f.tag == tag
  && (match what with
    | .kind code => f.kind == code && !namesRequest code
    | .subject _ => f.kind == kindByte .query)

end Sys2Proof.Machine
end

