-- ==== Sys2Proof/Machine/Flags.lean ====
section
/-! DEFINITION. Flags: what the part raises and counts for the outside to see: events and the overflow mark,
the shift tallies, the refusal record, replies, notices and the notice-lost mark, and the scan sync state. -/

namespace Sys2Proof.Machine

/-! ### The event list (R181) -/

/-- The event mask enables an event's kind. -/
def maskEnables (m : EventMask) : Event → Bool
  | .trackFull => m.trackFull
  | .syncChanged _ => m.syncChanged
  | .binSuspect _ _ => m.binSuspect
  | .binFaulted _ _ => m.binFaulted
  | .liftClosed _ _ _ _ _ _ => m.liftClosed
  | .liftDiscarded _ _ _ => m.liftDiscarded
  | .liftStored _ _ => m.liftStored
  | .slotFaulted _ => m.slotFaulted
  | .liftUnclaimed _ _ => m.liftUnclaimed
  | .liftTaken _ _ _ => m.liftTaken
  | .handoverExpired _ _ => m.handoverExpired
  | .modeChanged _ => m.modeChanged

/-- The event list after an event is raised (R181): a disabled kind is not entered; an enabled event that
finds the list full is dropped and sets the overflow mark. -/
def EventLog.append (l : EventLog) (e : Event) : EventLog :=
  if maskEnables l.mask e then
    if l.list.length < Config.maxEvents then { l with list := l.list ++ [e] }
    else { l with overflow := true }
  else l

/-- Raises an event. -/
def raise (e : Event) (s : State) : State := { s with events := s.events.append e }

/-! ### The shift tallies (R172) -/

/-- A tally raised by `n`, stopping at its maximum. -/
def tallyAdd (n x : Nat) : Nat := min Config.tallyMax (x + n)

/-- Counts a landing on a lift of a grade code, and the total. -/
def Tallies.countLanding (t : Tallies) (code : Nat) : Tallies :=
  { t with
    landedTotal := tallyAdd 1 t.landedTotal
    landed := vmap (fun i x => if i.val + 1 = code then tallyAdd 1 x else x) t.landed }

/-- Counts `n` rejects under a reason. -/
def Tallies.countReject (t : Tallies) (r : RejectReason) (n : Nat) : Tallies :=
  { t with rejects := vset t.rejects r.idx (tallyAdd n t.rejects[r.idx]) }

/-- Counts a closed lift under its close reason. -/
def Tallies.countClosed (t : Tallies) (r : CloseReason) : Tallies :=
  { t with closed := vset t.closed r.idx (tallyAdd 1 t.closed[r.idx]) }

/-- The state with its tallies changed. -/
def tally (f : Tallies → Tallies) (s : State) : State := { s with tallies := f s.tallies }

/-! ### Ports, replies and notices (R177 to R180) -/

/-- The state of one port. -/
def State.port (s : State) (p : Port) : PortState := s.ports[p.idx]

/-- The state with one port changed. -/
def setPort (p : Port) (f : PortState → PortState) (s : State) : State :=
  { s with ports := vset s.ports p.idx (f s.ports[p.idx]) }

/-- The port's outgoing queue has a free place (R177). -/
def State.hasPlace (s : State) (p : Port) : Bool := decide ((s.port p).queue.length < Config.maxItems)

/-- Taking a frame frees the port's receive buffer (R177). -/
def freeBuffer (p : Port) (s : State) : State := setPort p (fun q => { q with buffer := none }) s

/-- Queues a reply on a port; the free place that let the request in is there for it (R177). -/
def queueReply (p : Port) (kind : EchoKind) (tag : Byte) (body : ReplyBody) (s : State) : State :=
  setPort p (fun q => { q with queue := q.queue ++ [.reply kind tag body] }) s

/-- Queues a notice on a line's port, or drops it and sets the notice-lost mark (R180). -/
def queueNotice (line : LineNo) (n : Notice) (s : State) : State :=
  setPort (.line line)
    (fun q =>
      if q.queue.length < Config.maxItems then { q with queue := q.queue ++ [.notice n] }
      else { q with lost := true }) s

/-- Answers a request DONE. -/
def done (r : Req) (k : ReqKind) (x : Result) (s : State) : State :=
  queueReply r.port (.request k) r.tag (.done x) s

/-- Answers a request REFUSED, without a failure report. -/
def refuse (r : Req) (k : ReqKind) (why : RefusalReason) (s : State) : State :=
  queueReply r.port (.request k) r.tag (.refused why none) s

/-- Answers a request REFUSED INVALID with a failure report (R43, R76). -/
def refuseWith (r : Req) (k : ReqKind) (f : FailureReport) (s : State) : State :=
  queueReply r.port (.request k) r.tag (.refused .invalid (some f)) s

/-- Answers a request REFUSED DENIED or PROTECTED, overwriting the refusal record (R179). -/
def refuseRecorded (r : Req) (k : ReqKind) (why : RefusalReason) (target : Option Target) (s : State) : State :=
  refuse r k why { s with refusal := some ⟨r.port, k, target⟩ }

/-- The rights of the port classes (Table of R179). QUERY's subjects are checked by `mayQuery`. -/
def mayMake : Port → ReqKind → Bool
  | .scan, .sheetReport => true
  | .scan, .scanResync => true
  | .scan, _ => false
  | .line _, .pull => true
  | .line _, .cancel => true
  | .line _, .release => true
  | .line _, .forceClose => true
  | .line _, _ => false
  | .setup, .sheetReport => false
  | .setup, .scanResync => false
  | .setup, .pull => false
  | .setup, .cancel => false
  | .setup, .release => false
  | .setup, .forceClose => false
  | .setup, _ => true

/-- A frame that a test picks stands in the port's receive buffer (R177). -/
def State.holdsFrame (s : State) (p : Port) (test : Frame → Bool) : Bool :=
  match (s.port p).buffer with
  | some f => test f
  | none => false

/-- Takes the frame in a port's receive buffer as a request: the buffer is freed and the request is handled. While
the port's outgoing queue has no free place the frame waits, and where no frame of this request stands in the buffer
there is nothing to take (R177; log entry 2). -/
def takeFrame (p : Port) (test : Frame → Bool) (handle : State → State) (s : State) : State :=
  if s.hasPlace p && s.holdsFrame p test then handle (freeBuffer p s) else s

/-- Takes the request `c` of a known kind. -/
def take (r : Req) (k : ReqKind) (c : Instr) (handle : State → State) (s : State) : State :=
  takeFrame r.port (requestFrame r k c) handle s

/-- Takes a request of a kind whose rights are the port class's alone: DENIED with the target it names when
the port may not make it, INVALID when its payload is out of form, and otherwise handled (R179). A DENIED request
records its target whether or not its payload is in form (DESIGN CHOICE, log entry 27). -/
def serve (r : Req) (k : ReqKind) (c : Instr) (target : Option Target) (handle : State → State) (s : State) :
    State :=
  take r k c
    (fun s =>
      if mayMake r.port k then
        if r.formed then handle s else refuse r k .invalid s
      else refuseRecorded r k .denied target s) s

/-! ### Scan sync (Table 3-4) -/

/-- The scan sync state a mismatch count decides. -/
def syncOf (mismatches : Nat) : SyncState :=
  if mismatches = 0 then .inStep else if mismatches < 3 then .doubtful else .outOfStep

/-- The scan sync state. -/
def State.sync (s : State) : SyncState := syncOf s.tracker.mismatches

end Sys2Proof.Machine
end

