-- ==== Sys2Proof/Machine/Grading.lean ====
section
/-! DEFINITION. The grade evaluator: the eleven stages of Table 1-3 on a clamped report and a bank. -/

namespace Sys2Proof.Machine

/-- Stage 1: the area in square decimetres (R9). -/
def sheetArea (r : SheetData) : Nat := r.length * r.width / 10000

/-- Stage 2: the largest reading (R10). -/
def moistureMaxOf (l : List Nat) : Nat := l.foldl max 0

/-- Stage 2: the mean reading, rounded down (R10). -/
def moistureMeanOf (l : List Nat) : Nat := l.sum / l.length

/-- The zone factor of stage 6 (R14). -/
def Zone.factor : Zone → Nat
  | .centre => 2
  | .edge => 1

/-- Stage 6: the points of one defect, the division rounded up (R14). -/
def defectPoints (weights : PerKind Nat) (d : Defect) : Nat :=
  (d.size * weights.get d.kind + 15) / 16 * d.zone.factor

/-- Stage 7: the total points, held at 65,535 (R15). -/
def totalPoints (weights : PerKind Nat) (ds : List Defect) : Nat :=
  ds.foldl (fun acc d => min 65535 (acc + defectPoints weights d)) 0

/-- Stage 8: the density, rounded down and held at 65,535 (R16). -/
def densityOf (total area : Nat) : Nat := min 65535 (total * 100 / area)

/-- Stage 9: how many defects of a kind (R17). -/
def kindCount (ds : List Defect) (k : DefectKind) : Nat := (ds.filter (fun d => d.kind == k)).length

/-- Stage 9: the largest size of a kind, where there is one (R17). -/
def kindLargest (ds : List Defect) (k : DefectKind) : Nat :=
  ((ds.filter (fun d => d.kind == k)).map (fun d => d.size)).foldl max 0

/-- The computing stages: the five computed values (R8). -/
def computedOf (bank : Bank) (r : SheetData) : Computed :=
  let area := sheetArea r
  let total := totalPoints bank.weights r.defects
  { area := area, total := total, density := densityOf total area
    meanM := moistureMeanOf r.readings, maxM := moistureMaxOf r.readings }

/-- Stage 4: the first present class that contains the thickness (R12). -/
def thicknessClass (classes : Vector (Option ClassRange) 4) (t : Nat) : Option (Fin 4) :=
  allFour.find? (fun i =>
    match classes[i] with
    | some r => inRange r.lo r.hi t
    | none => false)

/-- Stage 5: the width class, FULL or STRIP (R13). -/
def widthClassOf (bank : Bank) (width : Nat) : WidthClass :=
  if bank.fullWidth ≤ width then .full else .strip

/-- The count and size tests of one kind (R20). -/
def kindPasses (g : GradeRule) (ds : List Defect) (k : DefectKind) : Bool :=
  (match g.countLimit.get k with
    | none => true
    | some n => decide (kindCount ds k ≤ n))
  && (kindCount ds k == 0 || decide (kindLargest ds k ≤ g.sizeLimit.get k))

/-- Every test of a rule passes (R19, R20, R21). -/
def rulePasses (g : GradeRule) (width : WidthClass) (cls : Nat) (v : Computed) (r : SheetData) : Bool :=
  (g.width == .any || g.width == width)
  && g.classes.contains cls
  && inRange g.moistureMin g.moistureMax v.meanM
  && decide (v.density ≤ g.densityLimit)
  && allKinds.all (kindPasses g r.defects)
  && (!r.partialFlag || g.acceptPartial)

/-- The evaluator: the verdict of a clamped report under a bank (R8 to R22). -/
def evaluate (bank : Bank) (r : SheetData) : Verdict :=
  let v := computedOf bank r
  if bank.redryLimit < v.maxM then .redry v
  else match thicknessClass bank.classes r.thickness with
    | none => .reject .offGauge (some v)
    | some cls =>
      match bank.rules.find? (fun g => rulePasses g (widthClassOf bank r.width) cls.val v r) with
      | some g => .graded g.code cls.val v
      | none => .reject .noGrade (some v)

/-- The computed values of a verdict, where it has them (Table 1-5). -/
def Verdict.values : Verdict → Option Computed
  | .graded _ _ v => some v
  | .redry v => some v
  | .reject _ v => v

/-- The verdict an entry takes from an evaluation: a CROWDED preset stands and takes the computed values
(R24). -/
def overPreset (preset : Option Verdict) (found : Verdict) : Verdict :=
  match preset with
  | some (.reject .crowded _) => .reject .crowded found.values
  | _ => found

end Sys2Proof.Machine
end

