-- ==== Sys2Proof/Machine/Ops.lean ====
section
/-! DEFINITION. The shared operations over tracking entries, bins, lifts, gates and the ejection queue, and the
ends of an event: the drain's end and the ejection start test. -/

namespace Sys2Proof.Machine

/-! ### Tracking entries (chapter 3) -/

/-- The state with its tracker changed. -/
def setTracker (f : Tracker → Tracker) (s : State) : State := { s with tracker := f s.tracker }

/-- The tracking entry of a sheet. -/
def findEntry (n : EntryId) (s : State) : Option Entry := s.tracker.queue.find? (fun e => e.id == n)

/-- The list with the first item that a test picks replaced. -/
def updFirst {α : Type} (p : α → Bool) (f : α → α) : List α → List α
  | [] => []
  | x :: xs => if p x then f x :: xs else x :: updFirst p f xs

/-- The state with the tracking entry of a sheet changed (R57; log entry 14). -/
def setEntry (n : EntryId) (f : Entry → Entry) (s : State) : State :=
  setTracker (fun t => { t with queue := updFirst (fun e => e.id == n) f t.queue }) s

/-- How far an entry's leading edge has travelled (R51). -/
def travelOf (e : Entry) (s : State) : Nat := travelled s.tracker.travel e.lead

/-- The tracker without the entry of a sheet. If the sheet under the entry eye was its sheet, the newest of the
queue, that sheet is untracked from now on (R52). -/
def Tracker.drop (n : EntryId) (t : Tracker) : Tracker :=
  let left := t.queue.eraseP (fun e => e.id == n)
  { t with
    queue := left
    eye := if t.eye == .blockedTracked && left.getLast? != t.queue.getLast? then .blockedUntracked else t.eye }

/-- Removes an entry from the queue (R52, R57). -/
def removeEntry (n : EntryId) (s : State) : State := setTracker (Tracker.drop n) s

/-- The leading edge of an entry lies at or beyond the belt end in force (R66). -/
def atBeltEnd (e : Entry) (s : State) : Bool :=
  match s.geometry.beltEnd with
  | some d => decide (d ≤ travelOf e s)
  | none => false

/-- Hands a verdict's REJECT reason to the REJECT tallies (R66). -/
def countVerdict (v : Option Verdict) (t : Tallies) : Tallies :=
  match v with
  | some (.reject r _) => t.countReject r 1
  | _ => t

/-- A TO_REJECT entry at or beyond the belt end is removed and counted under its reason (R66). -/
def dropAtBeltEnd (n : EntryId) (s : State) : State :=
  match findEntry n s with
  | some e =>
    if e.state == .toReject && atBeltEnd e s then tally (countVerdict e.verdict) (removeEntry n s) else s
  | none => s

/-- An entry becomes TO_REJECT with a REJECT verdict, its target and gate points absent; it is removed at once
if its leading edge is already at the belt end (R66). -/
def rejectEntry (n : EntryId) (why : RejectReason) (values : Option Computed) (s : State) : State :=
  dropAtBeltEnd n
    (setEntry n (fun e => { e with state := .toReject, verdict := some (.reject why values) }) s)

/-- The sheets whose entries a test picks, oldest first. -/
def entriesWhere (p : Entry → Bool) (s : State) : List EntryId :=
  (s.tracker.queue.filter p).map Entry.id

/-- An entry that waits for its report becomes TO_REJECT OUT_OF_STEP (R69). -/
def sweepEntry (s : State) (n : EntryId) : State :=
  match findEntry n s with
  | some e => if e.state = .awaitReport then rejectEntry n .outOfStep none s else s
  | none => s

/-- On entry into OUT_OF_STEP every AWAIT_REPORT entry becomes TO_REJECT OUT_OF_STEP (R69). -/
def sweepAwaiting (s : State) : State :=
  (entriesWhere (fun e => e.state == .awaitReport) s).foldl sweepEntry s

/-- Sets the mismatch count; a change of sync state raises SYNC_CHANGED, and entry into OUT_OF_STEP sweeps the
waiting entries (R68, R69). -/
def setMismatches (m : Nat) (s : State) : State :=
  let t := setTracker (fun t => { t with mismatches := m }) s
  if syncOf m = s.sync then t
  else
    let u := raise (.syncChanged (syncOf m)) t
    if syncOf m = .outOfStep then sweepAwaiting u else u

/-- Counts one mismatch; an addition at 3 leaves the count at 3 (R68). -/
def countMismatch (s : State) : State := setMismatches (min 3 (s.tracker.mismatches + 1)) s

/-! ### Bins and their lifts (chapters 5 and 6) -/

/-- One bin's record. -/
def State.bin (s : State) (b : BinNo) : Bin := s.bins[b]

/-- The state with one bin's record changed. -/
def setBin (b : BinNo) (f : Bin → Bin) (s : State) : State := { s with bins := vset s.bins b (f s.bins[b]) }

/-- The lift a bin's state holds. -/
def BinState.lift? : BinState → Option Lift
  | .offline => none
  | .ready => none
  | .filling l => some l
  | .drainClose _ l => some l
  | .fullWait l => some l
  | .ejecting l => some l
  | .faulted _ l => l

/-- A bin state with its lift changed. -/
def BinState.mapLift (f : Lift → Lift) : BinState → BinState
  | .offline => .offline
  | .ready => .ready
  | .filling l => .filling (f l)
  | .drainClose r l => .drainClose r (f l)
  | .fullWait l => .fullWait (f l)
  | .ejecting l => .ejecting (f l)
  | .faulted r l => .faulted r (l.map f)

/-- A bin state without its lift, as it is reported. -/
def BinState.tag : BinState → BinTag
  | .offline => .offline
  | .ready => .ready
  | .filling _ => .filling
  | .drainClose r _ => .drainClose r
  | .fullWait _ => .fullWait
  | .ejecting _ => .ejecting
  | .faulted r _ => .faulted r

/-- FILLING or DRAIN_CLOSE: the states in which a bin's gate may be open (R89). -/
def BinState.takesSheets : BinState → Bool
  | .filling _ => true
  | .drainClose _ _ => true
  | _ => false

/-- The state with the lift a bin holds changed. -/
def mapBinLift (b : BinNo) (f : Lift → Lift) (s : State) : State :=
  setBin b (fun x => { x with state := x.state.mapLift f }) s

/-- A bin is suspect: its suspicion count is 1 or 2 and it is not FAULTED (R103). -/
def Bin.suspect (x : Bin) : Bool :=
  (x.suspicion == 1 || x.suspicion == 2)
  && (match x.state with
    | .faulted _ _ => false
    | _ => true)

/-- A lift's mean moisture (R120). -/
def Lift.mean (l : Lift) : Option Nat := if l.landed = 0 then none else some (l.moistureSum / l.landed)

/-- The ids of the lift records in use. -/
def liftIds (s : State) : List Nat :=
  s.bins.toList.filterMap (fun x => x.state.lift?.map (fun l => l.id))
  ++ s.slots.toList.filterMap (fun x =>
    match x.state with
    | .holding l => some l.id
    | _ => none)

/-- The number after `n` in a sequence that goes from 65,535 back to 1 (R116, R147). -/
def nextNumberAfter (n : Nat) : Nat := if 65535 ≤ n then 1 else n + 1

/-- The first number from `n` on that is not in use, looking at most `fuel` numbers further. -/
def firstFree (used : List Nat) : Nat → Nat → Nat
  | 0, n => n
  | fuel + 1, n => if used.contains n then firstFree used fuel (nextNumberAfter n) else n

/-- The id the next lift to open takes (R116): at most 40 ids are in use, so 40 are passed over at most. -/
def freshLiftId (s : State) : Nat := firstFree (liftIds s) 40 s.store.nextId

/-! ### Gates (R89, R90) -/

/-- The entry is LANDING for bin `b` and lies between its gate points. -/
def Entry.underGate (b : BinNo) (e : Entry) : Bool :=
  match e.state with
  | .landing t _ _ closed => t == b && !closed
  | _ => false

/-- The entry is TO_REDRY and lies between its redry gate points. -/
def Entry.underRedry (e : Entry) : Bool :=
  match e.state with
  | .toRedry _ _ opened => opened
  | _ => false

/-- Bin `b`'s gate is to be open (R89). -/
def gateDue (s : State) (b : BinNo) : Bool :=
  (s.bin b).state.takesSheets && s.tracker.queue.any (Entry.underGate b)

/-- The redry gate is to be open (R90). -/
def redryDue (s : State) : Bool := s.tracker.queue.any Entry.underRedry

/-- Brings every gate up to date. -/
def syncGates (s : State) : State :=
  { s with
    bins := vmap (fun b x => { x with gate := gateDue s b }) s.bins
    redryGate := redryDue s }

/-! ### Closing and ejecting (chapters 6 and 7) -/

/-- The close order of the lift a bin holds; a bin of the ejection queue holds a CLOSED lift, which has one. -/
def closeOrderOf (s : State) (b : BinNo) : SeqNo :=
  match (s.bin b).state.lift? with
  | some l => l.closeOrder.getD 0
  | none => 0

/-- `a` placed before the first item that `before` says it precedes. -/
def insertBefore {α : Type} (before : α → Bool) (a : α) : List α → List α
  | [] => [a]
  | x :: xs => if before x then a :: x :: xs else x :: insertBefore before a xs

/-- A bin joins the ejection queue at the place its lift's close order gives (R131). -/
def joinEjection (b : BinNo) (s : State) : State :=
  { s with
    outfeed :=
      { s.outfeed with
        queue := insertBefore (fun c => seqEarlier (closeOrderOf s b) (closeOrderOf s c)) b s.outfeed.queue } }

/-- A bin becomes FULL_WAIT with its lift and joins the ejection queue (R131). -/
def waitForOutfeed (b : BinNo) (l : Lift) (s : State) : State :=
  joinEjection b (setBin b (fun x => { x with state := .fullWait l }) s)

/-- A lift record as its close leaves it (R121, case 2). -/
def Lift.closeAs (why : CloseReason) (order : SeqNo) (l : Lift) : Lift :=
  { l with state := .closed, closeReason := some why, closeOrder := some order }

/-- Closes the lift `l` of bin `b`: the next close order, the tally, LIFT_CLOSED, FULL_WAIT and the ejection
queue (R121 case 2, R122, R123). -/
def closeLift (b : BinNo) (why : CloseReason) (l : Lift) (s : State) : State :=
  let order := s.store.closeCounter + 1
  waitForOutfeed b (l.closeAs why order)
    (raise (.liftClosed l.id b why l.landed l.mean l.moistureMax)
      (tally (fun t => t.countClosed why)
        { s with store := { s.store with closeCounter := order } }))

/-- Discards the lift of a bin, which goes to `next`: the record is freed and LIFT_DISCARDED raised. -/
def discardLift (b : BinNo) (why : DiscardReason) (l : Lift) (next : BinState) (s : State) : State :=
  raise (.liftDiscarded l.id b why) (setBin b (fun x => { x with state := next }) s)

/-- Completes the drain of a DRAIN_CLOSE bin whose lift has in-flight 0 (R121). -/
def completeDrain (b : BinNo) (s : State) : State :=
  match (s.bin b).state with
  | .drainClose why l =>
    if l.inFlight = 0 then
      if l.landed = 0 then discardLift b (.close why) l .ready s else closeLift b why l s
    else s
  | _ => s

/-- Completes every drain that is due, in bin number order (R124). -/
def completeDrains (s : State) : State := allBins.foldl (fun s b => completeDrain b s) s

/-- The state with one slot's record changed. -/
def setSlot (n : SlotNo) (f : Slot → Slot) (s : State) : State :=
  { s with slots := vset s.slots n (f s.slots[n]) }

/-- The lowest-numbered EMPTY slot. -/
def lowestEmpty (s : State) : Option SlotNo := allSlots.find? (fun n => s.slots[n].state == .empty)

/-- Starts the ejection of the lift `l` of bin `b` into slot `n` (R135, steps 1 to 5). -/
def startEjection (b : BinNo) (l : Lift) (n : SlotNo) (s : State) : State :=
  setSlot n (fun x => { x with state := .reserved b })
    (setBin b
      (fun x => { x with state := .ejecting { l with state := .ejecting, slot := some n }, eject := true })
      { s with
        outfeed :=
          { s.outfeed with
            state := .busy b n, queue := s.outfeed.queue.tail
            timer := some (s.outfeed.timeout * 1000) } })

/-- The test of R135: an ejection starts when the outfeed is FREE, a bin is queued and a slot is EMPTY. -/
def ejectionTest (s : State) : State :=
  match s.outfeed.state, s.outfeed.queue, lowestEmpty s with
  | .free, b :: _, some n =>
    match (s.bin b).state with
    | .fullWait l => startEjection b l n s
    | _ => s
  | _, _, _ => s

/-! ### The ends of an event -/

/-- Sets the sort mode; a change raises MODE_CHANGED (R164). -/
def setMode (m : SortMode) (s : State) : State :=
  if s.mode = m then s else raise (.modeChanged m) { s with mode := m }

/-- Sends every FILLING bin that a test picks to DRAIN_CLOSE. -/
def drainBins (why : CloseReason) (p : BinNo → Lift → Bool) (s : State) : State :=
  { s with
    bins :=
      vmap
        (fun b x =>
          { x with
            state :=
              match x.state with
              | .filling l => if p b l then .drainClose why l else .filling l
              | y => y }) s.bins }

/-- The end of a drain: every FILLING bin closes SHIFT_END, and the mode becomes IDLE (R167). -/
def endDrain (s : State) : State :=
  setMode .idle (completeDrains (drainBins .shiftEnd (fun _ _ => true) s))

/-- The end of a drain is taken when the tracking queue is empty in DRAIN (R167). -/
def endDrainIfDue (s : State) : State :=
  if s.mode = .drain ∧ s.tracker.queue = [] then endDrain s else s

/-- The end of an event that may have moved bins or slots: the gates are brought up to date (R89) and the
ejection start test is made (R135). -/
def closeEvent (s : State) : State := ejectionTest (syncGates s)

/-- The end of an event that may have removed entries: an empty queue ends a drain (R73, R167), and then as
`closeEvent`. -/
def finish (s : State) : State := closeEvent (endDrainIfDue s)

/-- Discards the tracking queue as STOP and RESTART do, steps 1 to 4 of R169 but for the test of R135. -/
def discardQueue (s : State) : State :=
  let counted := tally (fun t => t.countReject .modeStop s.tracker.queue.length) s
  let emptied :=
    setMismatches 0
      (setTracker
        (fun t =>
          { t with
            queue := []
            eye := if t.eye == .blockedTracked then .blockedUntracked else t.eye }) counted)
  let cleared :=
    { emptied with
      bins :=
        vmap
          (fun _ x =>
            { x with
              suspicion := 0
              state := x.state.mapLift (fun l => { l with inFlight := 0 }) }) emptied.bins }
  completeDrains (syncGates cleared)

end Sys2Proof.Machine
end

