-- ==== Sys2Proof/Machine/Router.lean ====
section
/-! DEFINITION. The router (chapter 4) and the bin supervisor (chapter 5): the bin search, the commit, what
becomes of a verdict, landings, missed and stray landings, and the fault of a bin. -/

namespace Sys2Proof.Machine

/-! ### The bin search (R80 to R83) -/

/-- A lookup of a grade code in a bank, as the bank is held now (R48). -/
def ruleIn (s : State) (k : BankNo) (code : Nat) : Option GradeRule := lookupRule s.banks.bank[k] code

/-- The bins of a rule's bin list, in list order. -/
def binsOf (g : GradeRule) : List BinNo := g.bins.filterMap asBin

/-- A bin's gate-open distance is greater than the travel: the bin can be reached (R81). -/
def reaches (s : State) (travel : Nat) (b : BinNo) : Bool :=
  match s.geometry.binPosition[b] with
  | some p => decide (travel + s.geometry.gateLead < p)
  | none => false

/-- A bin is FILLING with the key sought and has room (R81). -/
def fillingRoom (s : State) (key : Key) (b : BinNo) : Bool :=
  match (s.bin b).state with
  | .filling l => l.key == key && decide (l.landed + l.inFlight < l.target)
  | _ => false

/-- A bin is READY. -/
def isReady (s : State) (b : BinNo) : Bool := (s.bin b).state == .ready

/-- A bin is eligible for a key: room and reach, and it is not the bin excluded (R81). -/
def eligible (s : State) (key : Key) (travel : Nat) (excluded : Option BinNo) (b : BinNo) : Bool :=
  (fillingRoom s key b || isReady s b) && reaches s travel b && excluded != some b

/-- The four-pass search of a bin list (Table of R82). -/
def searchBins (s : State) (key : Key) (travel : Nat) (excluded : Option BinNo) (l : List BinNo) :
    Option BinNo :=
  let ok := eligible s key travel excluded
  (((l.find? (fun b => ok b && fillingRoom s key b && !(s.bin b).suspect)).or
    (l.find? (fun b => ok b && isReady s b && !(s.bin b).suspect))).or
    (l.find? (fun b => ok b && fillingRoom s key b && (s.bin b).suspect))).or
    (l.find? (fun b => ok b && isReady s b && (s.bin b).suspect))

/-- The search for one grade code of a bank: the bin found, the key sought and the rule's target. -/
def searchRule (s : State) (k : BankNo) (g : GradeRule) (code cls travel : Nat) (excluded : Option BinNo) :
    Option RoutePlan :=
  (searchBins s ⟨k, code, cls⟩ travel excluded (binsOf g)).map
    (fun b => RoutePlan.bin b ⟨k, code, cls⟩ g.target)

/-- The search for a graded sheet: the grade's bin list, then its spill grade's, once (R82, R83). -/
def searchGrade (s : State) (k : BankNo) (code cls travel : Nat) (excluded : Option BinNo) :
    Option RoutePlan :=
  match ruleIn s k code with
  | none => none
  | some g =>
    (searchRule s k g code cls travel excluded).or
      (match g.spill with
        | none => none
        | some c =>
          match ruleIn s k c with
          | none => none
          | some h => searchRule s k h c cls travel excluded)

/-- Where a verdict goes, at binding (`excluded = none`) or at re-routing (R79, R84, R87). -/
def planRoute (s : State) (bank : Option BankNo) (v : Verdict) (travel : Nat) (excluded : Option BinNo) :
    RoutePlan :=
  match v with
  | .graded code cls x =>
    match bank with
    | some k => (searchGrade s k code cls travel excluded).getD (.beltEnd .noBin (some x))
    | none => .beltEnd .noBin (some x)
  | .redry x =>
    match s.geometry.redryGate with
    | some p =>
      if travel + s.geometry.gateLead < p then .redryGate p else .beltEnd .redryMissed (some x)
    | none => .beltEnd .redryMissed (some x)
  | .reject r x => .beltEnd r x

/-! ### The commit (R85, R86, R117) -/

/-- A lift record as its opening sets it (R117), before the commit counts its first sheet. -/
def newLift (id : Nat) (key : Key) (b : BinNo) (target : Nat) : Lift where
  id := id
  key := key
  bin := b
  state := .opened
  target := target
  landed := 0
  inFlight := 0
  missed := 0
  moistureSum := 0
  moistureMax := none
  closeReason := none
  closeOrder := none
  slot := none
  pull := none

/-- A READY bin opens a lift (R117); any other bin is left as it is. -/
def openLift (b : BinNo) (key : Key) (target : Nat) (s : State) : State :=
  if isReady s b then
    let id := freshLiftId s
    setBin b (fun x => { x with state := .filling (newLift id key b target) })
      { s with store := { s.store with nextId := nextNumberAfter id } }
  else s

/-- A FILLING bin takes one more sheet in flight; the commit that reaches the target drains it FULL (R86). -/
def BinState.commit : BinState → BinState
  | .filling l =>
    let m := { l with inFlight := l.inFlight + 1 }
    if m.landed + m.inFlight = m.target then .drainClose .full m else .filling m
  | x => x

/-- The commit of an entry to a bin, in one act (R85). -/
def commitTo (n : EntryId) (b : BinNo) (key : Key) (target : Nat) (s : State) : State :=
  let p := s.geometry.binPosition[b].getD 0
  setEntry n
    (fun e =>
      { e with
        state :=
          .routed b (e.lead + mm (p - s.geometry.gateLead)) (e.lead + mm (p + s.geometry.gateHold)) })
    (setBin b (fun x => { x with state := x.state.commit }) (openLift b key target s))

/-- Carries out a route plan for an entry (R79). -/
def applyRoute (n : EntryId) (plan : RoutePlan) (s : State) : State :=
  match plan with
  | .bin b key target => commitTo n b key target s
  | .redryGate p =>
    setEntry n
      (fun e =>
        { e with
          state :=
            .toRedry (e.lead + mm (p - s.geometry.gateLead)) (e.lead + mm (p + s.geometry.gateHold)) false })
      s
  | .beltEnd r x => rejectEntry n r x s

/-! ### The fault of a bin (R92, R93, R105, R106, R138, R140) -/

/-- The entry is ROUTED to bin `b`. -/
def Entry.routedTo (b : BinNo) (e : Entry) : Bool :=
  match e.state with
  | .routed t _ _ => t == b
  | _ => false

/-- The entry is LANDING for bin `b`. -/
def Entry.landingAt (b : BinNo) (e : Entry) : Bool :=
  match e.state with
  | .landing t _ _ _ => t == b
  | _ => false

/-- A lift with one sheet fewer in flight. -/
def Lift.loseSheet (l : Lift) : Lift := { l with inFlight := l.inFlight - 1 }

/-- Re-routes one ROUTED entry of the lost bin (R92). -/
def rerouteEntry (b : BinNo) (s : State) (n : EntryId) : State :=
  match findEntry n s with
  | some e =>
    match e.verdict, e.routedTo b with
    | some v, true =>
      let t := mapBinLift b Lift.loseSheet s
      applyRoute n (planRoute t e.bank v (travelOf e t) (some b)) t
    | _, _ => s
  | none => s

/-- Turns one LANDING entry of the lost bin away: REJECT BIN_LOST (R93). -/
def turnAwayEntry (b : BinNo) (s : State) (n : EntryId) : State :=
  match findEntry n s with
  | some e =>
    if e.landingAt b then rejectEntry n .binLost (e.verdict.bind Verdict.values) (mapBinLift b Lift.loseSheet s)
    else s
  | none => s

/-- The loss of a bin's entries: the ROUTED ones re-routed oldest first, then the LANDING ones turned away
(R92, R93). -/
def loseEntries (b : BinNo) (s : State) : State :=
  let rerouted := (entriesWhere (Entry.routedTo b) s).foldl (rerouteEntry b) s
  (entriesWhere (Entry.landingAt b) rerouted).foldl (turnAwayEntry b) rerouted

/-- What a bin's lift becomes on entry to FAULTED (R106): an EJECTING lift returns to CLOSED with its slot
absent, and any other lift stays as it is. -/
def BinState.faultLift : BinState → Option Lift
  | .ejecting l => some { l with state := .closed, slot := none }
  | x => x.lift?

/-- A bin that faults while EJECTING gives up its ejection: the slot reserved for it returns to EMPTY, the
timer stops, and the outfeed becomes FREE, or BLOCKED when the timer ran out (R138, R140). -/
def loseEjection (b : BinNo) (why : BinFault) (s : State) : State :=
  { s with
    slots := vmap (fun _ x => if x.state == .reserved b then { x with state := .empty } else x) s.slots
    outfeed :=
      { s.outfeed with
        state := if why = .ejectTimeout then .blocked else .free
        timer := none } }

/-- A bin enters FAULTED (R105): nothing happens when it is OFFLINE or FAULTED already. -/
def faultBin (b : BinNo) (why : BinFault) (s : State) : State :=
  match (s.bin b).state with
  | .offline => s
  | .faulted _ _ => s
  | old =>
    let faulted := setBin b (fun x => { x with state := .faulted why old.faultLift, eject := false }) s
    let announced := raise (.binFaulted b why) faulted
    let unqueued :=
      { announced with
        outfeed := { announced.outfeed with queue := announced.outfeed.queue.filter (fun c => c != b) } }
    let freed :=
      match old with
      | .ejecting _ => loseEjection b why unqueued
      | _ => unqueued
    syncGates (loseEntries b freed)

/-! ### Landings and anomalies (R98 to R103) -/

/-- One anomaly more on a bin. -/
def bumpSuspicion (b : BinNo) (s : State) : State :=
  setBin b (fun x => { x with suspicion := min 3 (x.suspicion + 1) }) s

/-- The test of the suspicion count after an anomaly (R103). -/
def anomalyTest (b : BinNo) (what : Anomaly) (s : State) : State :=
  if (s.bin b).suspicion = 1 then raise (.binSuspect b what) s
  else if (s.bin b).suspicion = 3 then faultBin b .landing s
  else s

/-- A lift after one landing of a sheet of a mean moisture (R98, R119). -/
def Lift.land (mean : Option Nat) (l : Lift) : Lift :=
  { l with
    landed := l.landed + 1
    inFlight := l.inFlight - 1
    moistureSum := l.moistureSum + mean.getD 0
    moistureMax :=
      match mean, l.moistureMax with
      | some m, some x => some (max m x)
      | some m, none => some m
      | none, x => x }

/-- A lift after one missed landing (R101); the missed count stops at 65,535 (R115). -/
def Lift.miss (l : Lift) : Lift :=
  { l with inFlight := l.inFlight - 1, missed := min 65535 (l.missed + 1) }

/-- The oldest LANDING entry of a bin (R98). -/
def oldestLanding (b : BinNo) (s : State) : Option Entry := s.tracker.queue.find? (Entry.landingAt b)

/-- The landing of an entry on the lift of its bin (R98, R99), but for the end of the event. -/
def landEntry (b : BinNo) (e : Entry) (s : State) : State :=
  let mean := (e.verdict.bind Verdict.values).map (fun v => v.meanM)
  let counted :=
    setBin b (fun x => { x with state := x.state.mapLift (Lift.land mean), suspicion := 0 }) s
  let removed := removeEntry e.id counted
  let tallied :=
    match (s.bin b).state.lift? with
    | some l => tally (fun t => t.countLanding l.key.code) removed
    | none => removed
  completeDrain b (syncGates tallied)

/-- A stray landing (R100). -/
def strayLanding (b : BinNo) (s : State) : State :=
  anomalyTest b .stray (tally (fun t => { t with stray := tallyAdd 1 t.stray }) (bumpSuspicion b s))

/-- What a landed-eye leading edge does besides the eye fields (Table of R97). -/
def landedEdge (b : BinNo) (s : State) : State :=
  if s.mode = .idle then s
  else match (s.bin b).state with
    | .offline => s
    | .faulted _ _ => s
    | .filling _ =>
      match oldestLanding b s with
      | some e => landEntry b e s
      | none => strayLanding b s
    | .drainClose _ _ =>
      match oldestLanding b s with
      | some e => landEntry b e s
      | none => strayLanding b s
    | _ => strayLanding b s

/-- A missed landing (R101), but for the end of the event. -/
def missEntry (b : BinNo) (n : EntryId) (s : State) : State :=
  let counted := bumpSuspicion b (mapBinLift b Lift.miss s)
  let tallied := tally (fun t => { t with missed := tallyAdd 1 t.missed }) (removeEntry n counted)
  completeDrain b (anomalyTest b .missed (syncGates tallied))

/-! ### Point passages (R51, Table 3-1) -/

/-- An AWAIT_REPORT entry has reached the decision point in force (R64). -/
def decisionDue (s : State) (n : EntryId) : Bool :=
  match findEntry n s with
  | some e => e.state == .awaitReport && decide (s.geometry.decisionDistance ≤ travelOf e s)
  | none => false

/-- An entry's decision expiry: REJECT UNGRADED, one mismatch (R64). -/
def expireDecision (s : State) (n : EntryId) : State :=
  if decisionDue s n then countMismatch (rejectEntry n .ungraded none s) else s

/-- A ROUTED entry has reached its held gate-open point (R88). -/
def gateOpenDue (s : State) (n : EntryId) : Bool :=
  match findEntry n s with
  | some e =>
    match e.state with
    | .routed _ p _ => decide (travelled p e.lead ≤ travelOf e s)
    | _ => false
  | none => false

/-- A ROUTED entry becomes LANDING, with its target and gate points kept (R88). -/
def EntryState.beginLanding : EntryState → EntryState
  | .routed b p q => .landing b p q false
  | x => x

/-- The trailing edge of an entry has travelled to a held point (R51). -/
def trailingPast (e : Entry) (p : Travel) (s : State) : Bool :=
  match e.eyeLen with
  | some l => decide (travelled p e.lead + l ≤ travelOf e s)
  | none => false

/-- A LANDING entry's trailing edge has reached its held gate-close point, for the first time (R89). -/
def gateCloseDue (s : State) (n : EntryId) : Bool :=
  match findEntry n s with
  | some e =>
    match e.state with
    | .landing _ _ q closed => !closed && trailingPast e q s
    | _ => false
  | none => false

/-- A LANDING entry's gate-close passage has been taken (R89). -/
def EntryState.passClose : EntryState → EntryState
  | .landing b p q _ => .landing b p q true
  | x => x

/-- The bin whose landing window end a LANDING entry has reached (R101). -/
def windowEndDue (s : State) (n : EntryId) : Option BinNo :=
  match findEntry n s with
  | some e =>
    match e.state with
    | .landing b _ _ _ =>
      match s.geometry.binPosition[b] with
      | some p => if p + s.geometry.landingAllowance ≤ travelOf e s then some b else none
      | none => none
    | _ => none
  | none => none

/-- The missed landing of an entry whose landing window has ended (R101). -/
def expireWindow (s : State) (n : EntryId) : State :=
  match windowEndDue s n with
  | some b => missEntry b n s
  | none => s

/-- A TO_REDRY entry has reached its held redry gate-open point, for the first time (R90). -/
def redryOpenDue (s : State) (n : EntryId) : Bool :=
  match findEntry n s with
  | some e =>
    match e.state with
    | .toRedry p _ opened => !opened && decide (travelled p e.lead ≤ travelOf e s)
    | _ => false
  | none => false

/-- A TO_REDRY entry's gate-open passage has been taken (R90). -/
def EntryState.passRedryOpen : EntryState → EntryState
  | .toRedry p q _ => .toRedry p q true
  | x => x

/-- A TO_REDRY entry's trailing edge has reached its held redry gate-close point (R67). -/
def redryCloseDue (s : State) (n : EntryId) : Bool :=
  match findEntry n s with
  | some e =>
    match e.state with
    | .toRedry _ q _ => trailingPast e q s
    | _ => false
  | none => false

/-- A TO_REJECT entry has reached the belt end in force (R66). -/
def beltEndDue (s : State) (n : EntryId) : Bool :=
  match findEntry n s with
  | some e => e.state == .toReject && atBeltEnd e s
  | none => false

/-- A landed eye that counts has been blocked for the eye stuck distance (R104). -/
def eyeStuckDue (s : State) (b : BinNo) : Bool :=
  (match (s.bin b).state with
    | .offline => false
    | .faulted _ _ => false
    | _ => true)
  && (match (s.bin b).eyeMark with
    | some m => decide (s.geometry.eyeStuck ≤ travelled s.tracker.travel m)
    | none => false)

/-- The fault of a bin whose eye is stuck (R104). -/
def expireEye (s : State) (b : BinNo) : State := if eyeStuckDue s b then faultBin b .eyeStuck s else s

/-! Each passage is an event of its own: it is taken when it is due, and otherwise has no effect (R51). The
passages that a pulse or a write takes together are events that follow one another, each with its own end of a
drain and its own ejection start test (R94; log entry 25). -/

/-- DECISION_POINT_PASSAGE as an event. -/
def passDecision (s : State) (n : EntryId) : State :=
  if decisionDue s n then finish (expireDecision s n) else s

/-- GATE_OPEN_PASSAGE as an event. -/
def passGateOpen (s : State) (n : EntryId) : State :=
  if gateOpenDue s n then syncGates (setEntry n (fun e => { e with state := e.state.beginLanding }) s) else s

/-- GATE_CLOSE_PASSAGE as an event. -/
def passGateClose (s : State) (n : EntryId) : State :=
  if gateCloseDue s n then syncGates (setEntry n (fun e => { e with state := e.state.passClose }) s) else s

/-- LANDING_WINDOW_END as an event. -/
def passWindowEnd (s : State) (n : EntryId) : State :=
  if (windowEndDue s n).isSome then finish (expireWindow s n) else s

/-- REDRY_GATE_OPEN_PASSAGE as an event. -/
def passRedryOpen (s : State) (n : EntryId) : State :=
  if redryOpenDue s n then syncGates (setEntry n (fun e => { e with state := e.state.passRedryOpen }) s) else s

/-- REDRY_GATE_CLOSE_PASSAGE as an event. -/
def passRedryClose (s : State) (n : EntryId) : State :=
  if redryCloseDue s n then
    finish (tally (fun t => { t with redry := tallyAdd 1 t.redry }) (removeEntry n s))
  else s

/-- BELT_END_PASSAGE as an event. -/
def passBeltEnd (s : State) (n : EntryId) : State :=
  if beltEndDue s n then finish (dropAtBeltEnd n s) else s

/-- EYE_STUCK_PASSAGE as an event. -/
def passEyeStuck (s : State) (b : BinNo) : State :=
  if eyeStuckDue s b then finish (expireEye s b) else s

/-- The passages of one entry that are due, in increasing order of distance (R51). -/
def passesOf (s : State) (n : EntryId) : State :=
  passBeltEnd (passRedryClose (passWindowEnd (passGateClose (passRedryOpen (passGateOpen
    (passDecision s n) n) n) n) n) n) n

/-- Every passage that is due: the entries' oldest first, then the bins' in bin number order (DESIGN CHOICE, log
entry 4). -/
def duePassages (s : State) : State :=
  allBins.foldl passEyeStuck ((entriesWhere (fun _ => true) s).foldl passesOf s)

end Sys2Proof.Machine
end

