-- ==== Sys2Proof/Machine/Matching.lean ====
section
/-! DEFINITION. The pull arbiter's shared operations (chapter 8): matching, the matching pass, and the ends of
a handover. -/

namespace Sys2Proof.Machine

/-- The state with its arbiter changed. -/
def setArbiter (f : Arbiter → Arbiter) (s : State) : State := { s with arbiter := f s.arbiter }

/-- An optional field of a pull, when present, equals a lift's. -/
def optMatches : Option Nat → Nat → Bool
  | none, _ => true
  | some x, y => x == y

/-- A request for a grade code, with an optional bank and class, matches a lift key (R148). -/
def keyMatches (code : Nat) (bank cls : Option Nat) (key : Key) : Bool :=
  code == key.code && optMatches bank key.bank.val && optMatches cls key.cls

/-- A pull is ASSIGNED. -/
def Pull.isAssigned (p : Pull) : Bool :=
  match p.state with
  | .assigned _ _ => true
  | .waiting => false

/-- A line holds an ASSIGNED pull. -/
def lineBusy (s : State) (line : LineNo) : Bool :=
  s.arbiter.pulls.any (fun p => p.line == line && p.isAssigned)

/-- The lift a slot holds, if it is STORED. -/
def Slot.stored? (x : Slot) : Option Lift :=
  match x.state with
  | .holding l => if l.state == .stored then some l else none
  | _ => none

/-- Slot `n` placed into a list of slots kept in the order of their lifts' close orders, earliest first. -/
def insertByOrder (s : State) (n : SlotNo) (l : List SlotNo) : List SlotNo :=
  let order := fun (m : SlotNo) =>
    match s.slots[m].stored? with
    | some x => x.closeOrder.getD 0
    | none => 0
  insertBefore (fun m => seqEarlier (order n) (order m)) n l

/-- The slots that hold a STORED lift, earliest close order first (R152). -/
def storedSlots (s : State) : List SlotNo :=
  (allSlots.filter (fun n => s.slots[n].stored?.isSome)).foldl (fun l n => insertByOrder s n l) []

/-- A pull is a candidate for a lift: WAITING, matching, its line with no ASSIGNED pull (R152). -/
def isCandidate (s : State) (l : Lift) (p : Pull) : Bool :=
  p.state == .waiting && keyMatches p.code p.bank p.cls l.key && !lineBusy s p.line

/-- The effective rank of a candidate (R152). -/
def effectiveRank (s : State) (p : Pull) : Nat :=
  if p.passCount = s.arbiter.passLimit then 4 else s.arbiter.settings[p.line].rank

/-- Candidate `p` is preferred to candidate `q` (R152). -/
def preferred (s : State) (p q : Pull) : Bool :=
  decide (effectiveRank s q < effectiveRank s p)
  || (effectiveRank s p == effectiveRank s q && seqEarlier p.arrival q.arrival)

/-- The winner among the candidates (R152). -/
def winnerOf (s : State) : List Pull → Option Pull
  | [] => none
  | p :: rest =>
    match winnerOf s rest with
    | none => some p
    | some q => if preferred s q p then some q else some p

/-- The assignment of the lift `l` in slot `n` to the winner `w` (R153, steps 1 to 4). -/
def assignLift (n : SlotNo) (l : Lift) (w : Pull) (s : State) : State :=
  let marked :=
    setArbiter
      (fun a =>
        { a with
          pulls := a.pulls.map (fun p =>
            if p.number == w.number then { p with state := .assigned l.id (a.handoverTimeout * 1000) }
            else if isCandidate s l p then { p with passCount := min a.passLimit (p.passCount + 1) }
            else p) }) s
  queueNotice w.line (.assigned w.number l.id n l.key l.landed (l.mean.getD 0))
    (setSlot n (fun x => { x with state := .holding { l with state := .assigned, pull := some w.number } })
      marked)

/-- One lift of a matching pass: assigned to its winner, or left STORED when it has no candidate (R152). -/
def matchSlot (s : State) (n : SlotNo) : State :=
  match s.slots[n].stored? with
  | some l =>
    match winnerOf s (s.arbiter.pulls.filter (isCandidate s l)) with
    | some w => assignLift n l w s
    | none => s
  | none => s

/-- A matching pass over the STORED lifts, earliest close order first (R152, R153). The repetition that R153
adds assigns nothing, as that rule says. -/
def matchingPass (s : State) : State := (storedSlots s).foldl matchSlot s

/-- The slot and the lift assigned to a pull number. -/
def slotOfPull (s : State) (number : Nat) : Option (SlotNo × Lift) :=
  allSlots.findSome? (fun n =>
    match s.slots[n].state with
    | .holding l => if l.pull = some number then some (n, l) else none
    | _ => none)

/-- The pull of a line and number ends: its record leaves the table (R148). -/
def endPull (line : LineNo) (number : Nat) (s : State) : State :=
  setArbiter
    (fun a => { a with pulls := a.pulls.eraseP (fun p => p.number == number && p.line == line) }) s

/-- An ASSIGNED lift returned to STORED, its pull field absent (R157, R158, R162). -/
def Lift.giveBack (l : Lift) : Lift := { l with state := .stored, pull := none }

/-- The lift in a slot returns to STORED (R157, R158). -/
def returnLift (n : SlotNo) (l : Lift) (s : State) : State :=
  setSlot n (fun x => { x with state := .holding l.giveBack }) s

/-- A number appended to an expired-pull memory of at most 4, the oldest dropped (R157). -/
def rememberExpired (number : Nat) (l : List Nat) : List Nat :=
  if l.length < Config.maxExpired then l ++ [number] else l.tail ++ [number]

/-- The ASSIGNED pull of a line, with the slot and the lift that name it. -/
def handoverOf (s : State) (line : LineNo) : Option (Pull × SlotNo × Lift) :=
  match s.arbiter.pulls.find? (fun p => p.line == line && p.isAssigned) with
  | some p => (slotOfPull s p.number).map (fun x => (p, x.1, x.2))
  | none => none

/-- The handover of a line expires (R157). -/
def expireHandover (line : LineNo) (s : State) : State :=
  match handoverOf s line with
  | some (p, n, l) =>
    let ended := returnLift n l (endPull line p.number s)
    let remembered :=
      setArbiter
        (fun a => { a with expired := vset a.expired line (rememberExpired p.number a.expired[line]) }) ended
    matchingPass
      (raise (.handoverExpired l.id line) (queueNotice line (.expired p.number l.id n) remembered))
  | none => s

/-- The pull numbers that may not be given out: those in use and those remembered (R147). -/
def pullNumbers (s : State) : List Nat :=
  s.arbiter.pulls.map (fun p => p.number) ++ (allFour.map (fun i => s.arbiter.expired[i])).flatten

/-- The number the next pull takes (R147): at most 16 pulls and 16 remembered numbers are passed over. -/
def freshPullNumber (s : State) : Nat := firstFree (pullNumbers s) 32 s.arbiter.nextNumber

end Sys2Proof.Machine
end

