-- ==== Sys2Proof/Machine/Link.lean ====
section
/-! DEFINITION. The links (chapter 10): the receiver, byte by byte, the frames the part sends, and the commands
of a link. -/

namespace Sys2Proof.Machine

/-! ### Receiving (R176) -/

/-- The start mark of a frame (R176). -/
def startMark : Byte := 0xC3#8

/-- A frame discarded: the receiver hunts, and the error count rises to 65,535 at most (R176). -/
def discardFrame (q : PortState) : PortState :=
  { q with receiver := .hunt, errors := min 65535 (q.errors + 1) }

/-- A complete frame: placed in the receive buffer, or discarded and counted when the buffer holds one
(R176). -/
def completeFrame (f : Frame) (q : PortState) : PortState :=
  match q.buffer with
  | none => { q with receiver := .hunt, buffer := some f }
  | some _ => discardFrame q

/-- The check of a frame is good (R176, R184). -/
def checkGood (kind tag : Byte) (payload got : List Byte) : Bool :=
  got == checkBytes ([kind, tag, BitVec.ofNat 8 payload.length] ++ payload)

/-- The receiver after the length byte of a header (R176). -/
def afterHeader (kind tag len : Byte) (q : PortState) : PortState :=
  if Config.maxPayload < len.toNat then discardFrame q
  else if len.toNat = 0 then { q with receiver := .check kind tag [] [] }
  else { q with receiver := .payload kind tag len [] }

/-- A port takes one byte in the state its receiver is in (R176). -/
def acceptByte (b : Byte) (q : PortState) : PortState :=
  match q.receiver with
  | .hunt => if b = startMark then { q with receiver := .header [] } else q
  | .header got =>
    match got with
    | [kind, tag] => afterHeader kind tag b q
    | _ => { q with receiver := .header (got ++ [b]) }
  | .payload kind tag len got =>
    let all := got ++ [b]
    if len.toNat ≤ all.length then { q with receiver := .check kind tag all [] }
    else { q with receiver := .payload kind tag len all }
  | .check kind tag payload got =>
    let all := got ++ [b]
    if all.length < 2 then { q with receiver := .check kind tag payload all }
    else if checkGood kind tag payload all then completeFrame ⟨kind, tag, payload⟩ q
    else discardFrame q

/-- A byte arrives on a port: discarded while the part sends on it; a byte that ends a gap over 20 ms discards
the frame in progress and is taken in HUNT (R175, R176). A byte discarded because the part sends is a byte received
all the same for the 1 ms of silence of R175 (DESIGN CHOICE, log entry 26). -/
def receiveByte (x : RxByte) (q : PortState) : PortState :=
  let heard := { q with gapMs := 0 }
  if q.sending.isSome then heard
  else if x.late && q.receiver != .hunt then acceptByte x.value (discardFrame heard)
  else acceptByte x.value heard

/-- FRAME_RECEIVED (R176). -/
def execFrameReceived (port : Port) (bytes : List RxByte) (s : State) : Host.Outcome State Fault Refusal :=
  .next (setPort port (fun q => bytes.foldl (fun q x => receiveByte x q) q) s)

/-- A gap of more than 20 ms inside a frame in progress discards it (R176). -/
def gapDiscard (q : PortState) : PortState := if q.receiver = .hunt then q else discardFrame q

/-- INTER_BYTE_GAP_TIMEOUT (R176): a frame in progress on the port is discarded. -/
def execInterByteGapTimeout (port : Port) (s : State) : Host.Outcome State Fault Refusal :=
  .next (setPort port gapDiscard s)

/-! ### The frames the part sends (R178, R184, R186, R187) -/

/-- The kind value a reply echoes (R178). -/
def echoByte : EchoKind → Byte
  | .request k => kindByte k
  | .unknown code => code

/-- The status byte: its least significant bit is the notice-lost mark (R178). -/
def statusByte (mark : Bool) : Byte := if mark then 1#8 else 0#8

/-- A number as one byte. -/
def byteOf (n : Nat) : Byte := BitVec.ofNat 8 n

/-- The reason code of a REJECT (R186). -/
def RejectReason.code (r : RejectReason) : Nat := r.idx.val + 1

/-- The routing outcome byte (Table 10-6). -/
def SheetGoal.byte : SheetGoal → Byte
  | .bin b => byteOf b.val
  | .redryGate => 0x10#8
  | .beltEnd => 0x11#8

/-- Verdict kind, grade code, thickness class and reason of a verdict (Table 10-6). -/
def Verdict.bytes : Verdict → List Byte
  | .graded code cls _ => [0#8, byteOf code, byteOf cls, 0#8]
  | .redry _ => [1#8, 0#8, 0xFF#8, 0#8]
  | .reject r _ => [2#8, 0#8, 0xFF#8, byteOf r.code]

/-- The five computed values as sent; 0 when absent (R186). -/
def computedBytes : Option Computed → List Byte
  | some v => toBe16 v.area ++ toBe16 v.total ++ toBe16 v.density ++ toBe16 v.meanM ++ toBe16 v.maxM
  | none => toBe16 0 ++ toBe16 0 ++ toBe16 0 ++ toBe16 0 ++ toBe16 0

/-- The marks byte: bit 0 computed values present, bit 1 clamped (R186). -/
def marksByte (v : Verdict) (clamped : Bool) : Byte :=
  byteOf ((if v.values.isSome then 1 else 0) + (if clamped then 2 else 0))

/-- The result bytes of a DONE reply: Table 10-6 for a SHEET_REPORT, a free value for any other request, cut to
what a payload holds (R176; log entry 9). -/
def Result.bytes : Result → List Byte
  | .sheet entry v goal clamped =>
    [entry] ++ v.bytes ++ [marksByte v clamped, goal.byte] ++ computedBytes v.values
  | x => (Config.resultBytes x).take (Config.maxPayload - 2)

/-- The failure report of a refusal, where it has one: a free value, cut to what a payload holds (R178; log
entry 9). -/
def reportPart : Option FailureReport → List Byte
  | some f => (Config.reportBytes f).take (Config.maxPayload - 3)
  | none => []

/-- The frame kind of an item (R184). -/
def Item.kind : Item → Byte
  | .reply _ _ (.done _) => 0x80#8
  | .reply _ _ (.refused _ _) => 0x81#8
  | .notice (.assigned _ _ _ _ _ _) => 0x90#8
  | .notice (.taken _ _ _) => 0x91#8
  | .notice (.expired _ _ _) => 0x92#8

/-- The tag of an item: the request's in a reply, 0 in a notice (R184). -/
def Item.tag : Item → Byte
  | .reply _ t _ => t
  | .notice _ => 0#8

/-- Pull number, lift id and slot of a notice (Table 10-7). -/
def noticeHead (pull lift : Nat) (slot : SlotNo) : List Byte :=
  toBe16 pull ++ toBe16 lift ++ [byteOf slot.val]

/-- The payload of an item after its status byte (R178, R186, R187). -/
def Item.body : Item → List Byte
  | .reply k _ (.done x) => echoByte k :: x.bytes
  | .reply k _ (.refused why report) => echoByte k :: Config.reasonValue why :: reportPart report
  | .notice (.assigned p l n key landed mean) =>
    noticeHead p l n ++ [byteOf key.bank.val, byteOf key.code, byteOf key.cls] ++ toBe16 landed ++ toBe16 mean
  | .notice (.taken p l n) => noticeHead p l n
  | .notice (.expired p l n) => noticeHead p l n

/-- A frame on the wire: start mark, kind, tag, length, payload and check (Table 10-4). -/
def frameBytes (kind tag : Byte) (payload : List Byte) : List Byte :=
  let body := [kind, tag, byteOf payload.length] ++ payload
  startMark :: body ++ checkBytes body

/-- The frame of an item sent with a mark (R178, R180, R184). -/
def Item.frame (mark : Bool) (x : Item) : List Byte := frameBytes x.kind x.tag (statusByte mark :: x.body)

/-! ### Sending (R175, R180) -/

/-- The item is a reply. -/
def Item.isReply : Item → Bool
  | .reply _ _ _ => true
  | .notice _ => false

/-- The part may begin to send on a port: it is not sending there, the receiver hunts, and 1 ms has passed
since the last byte (R175). -/
def PortState.maySend (q : PortState) : Bool :=
  q.sending.isNone && q.receiver == .hunt && decide (1 ≤ q.gapMs)

/-- The part begins to send the oldest item of a port's queue (R180): a reply clears the mark after taking
it. -/
def beginSending (q : PortState) : PortState :=
  match q.queue with
  | x :: rest =>
    if q.maySend then
      { q with
        queue := rest
        sending := some ⟨x, q.lost, x.frame q.lost⟩
        lost := if x.isReply then false else q.lost }
    else q
  | [] => q

/-- SEND_ITEM (R175, R180). -/
def execSendItem (port : Port) (s : State) : Host.Outcome State Fault Refusal :=
  .next (setPort port beginSending s)

/-- The part's frame ends on a port: the receiver is hunting (R175). -/
def endSending (q : PortState) : PortState :=
  if q.sending.isSome then { q with sending := none, receiver := .hunt } else q

/-- PART_FRAME_ENDS (R175). -/
def execPartFrameEnds (port : Port) (s : State) : Host.Outcome State Fault Refusal :=
  .next (setPort port endSending s)

end Sys2Proof.Machine
end

