-- ==== Sys2Proof/Machine/OutfeedSlots.lean ====
section
/-! DEFINITION. The outfeed, the slots and their eyes (chapter 7), and the TAKEN removal (R156). -/

namespace Sys2Proof.Machine

/-- WRITE_EJECT_TIMEOUT (R136). -/
def execWriteEjectTimeout (r : Req) (seconds : Nat) (s : State) : Host.Outcome State Fault Refusal :=
  .next (serve r .writeEjectTimeout (.writeEjectTimeout r seconds) none
    (fun s =>
      if inRange 5 120 seconds then
        done r .writeEjectTimeout (.value seconds) { s with outfeed := { s.outfeed with timeout := seconds } }
      else refuse r .writeEjectTimeout .invalid s) s)

/-- CLEAR_OUTFEED (R139). -/
def execClearOutfeed (r : Req) (s : State) : Host.Outcome State Fault Refusal :=
  .next (serve r .clearOutfeed (.clearOutfeed r) none
    (fun s =>
      if s.outfeed.state = .blocked then
        closeEvent (done r .clearOutfeed .plain { s with outfeed := { s.outfeed with state := .free } })
      else refuse r .clearOutfeed .notNow s) s)

/-- SLOT_ONLINE (R143). -/
def execSlotOnline (r : Req) (slot : Nat) (s : State) : Host.Outcome State Fault Refusal :=
  .next (serve r .slotOnline (.slotOnline r slot) (some (.slot slot))
    (fun s =>
      match asSlot slot with
      | none => refuse r .slotOnline .invalid s
      | some n =>
        if s.slots[n].state ≠ .offline then refuse r .slotOnline .notNow s
        else if s.slots[n].eye then refuse r .slotOnline .notClear s
        else closeEvent (done r .slotOnline (.slot n .empty) (setSlot n (fun x => { x with state := .empty }) s)))
    s)

/-- SLOT_OFFLINE (R143). -/
def execSlotOffline (r : Req) (slot : Nat) (s : State) : Host.Outcome State Fault Refusal :=
  .next (serve r .slotOffline (.slotOffline r slot) (some (.slot slot))
    (fun s =>
      match asSlot slot with
      | none => refuse r .slotOffline .invalid s
      | some n =>
        if s.slots[n].state = .empty ∨ s.slots[n].state = .faulted then
          done r .slotOffline (.slot n .offline) (setSlot n (fun x => { x with state := .offline }) s)
        else refuse r .slotOffline .notNow s) s)

/-- CLEAR_SLOT (R143). -/
def execClearSlot (r : Req) (slot : Nat) (s : State) : Host.Outcome State Fault Refusal :=
  .next (serve r .clearSlot (.clearSlot r slot) (some (.slot slot))
    (fun s =>
      match asSlot slot with
      | none => refuse r .clearSlot .invalid s
      | some n =>
        if s.slots[n].state ≠ .faulted then refuse r .clearSlot .notNow s
        else if s.slots[n].eye then refuse r .clearSlot .notClear s
        else closeEvent (done r .clearSlot (.slot n .empty) (setSlot n (fun x => { x with state := .empty }) s)))
    s)

/-- EJECTION_START (R135): the test; the events that can make its conditions hold make it themselves (log
entry 6). -/
def execEjectionStart (s : State) : Host.Outcome State Fault Refusal := .next (ejectionTest s)

/-- The completion of the ejection of bin `b` into slot `n`, in one act (R137, steps 1 to 4). -/
def storeLift (b : BinNo) (n : SlotNo) (l : Lift) (s : State) : State :=
  setSlot n (fun x => { x with state := .holding { l with state := .stored } })
    (setBin b (fun x => { x with state := .ready, eject := false })
      { s with outfeed := { s.outfeed with state := .free, timer := none } })

/-- The completion of an ejection with what follows it (R137). -/
def completeEjection (b : BinNo) (n : SlotNo) (s : State) : State :=
  match (s.bin b).state with
  | .ejecting l => closeEvent (matchingPass (raise (.liftStored l.id n) (storeLift b n l s)))
  | _ => s

/-- SLOT_EYE_BLOCKED (R141). An eye that is BLOCKED already has no such edge. -/
def execSlotEyeBlocked (n : SlotNo) (s : State) : Host.Outcome State Fault Refusal :=
  .next
    (if s.slots[n].eye then s
    else
      let t := setSlot n (fun x => { x with eye := true }) s
      match s.slots[n].state with
      | .empty => raise (.slotFaulted n) (setSlot n (fun x => { x with state := .faulted }) t)
      | .reserved b => completeEjection b n t
      | _ => t)

/-- A HOLDING slot gives up its lift and becomes EMPTY; the record is freed (R142, R156). -/
def vacate (n : SlotNo) (s : State) : State := setSlot n (fun x => { x with state := .empty }) s

/-- The TAKEN removal of lift `l` by the line of pull `p` (R156). -/
def takenRemoval (n : SlotNo) (l : Lift) (p : Pull) (s : State) : State :=
  closeEvent
    (matchingPass
      (tally (fun t => { t with taken := tallyAdd 1 t.taken })
        (raise (.liftTaken l.id n p.line)
          (queueNotice p.line (.taken p.number l.id n) (vacate n (endPull p.line p.number s))))))

/-- The unclaimed removal of lift `l` (R142). -/
def unclaimedRemoval (n : SlotNo) (l : Lift) (s : State) : State :=
  closeEvent
    (tally (fun t => { t with unclaimed := tallyAdd 1 t.unclaimed })
      (raise (.liftUnclaimed l.id n) (vacate n s)))

/-- The pull that a lift names while it is ASSIGNED. -/
def takerOf (s : State) (l : Lift) : Option Pull :=
  if l.state = .assigned then s.arbiter.pulls.find? (fun p => l.pull == some p.number) else none

/-- SLOT_EYE_CLEARS (R141, R142, R156). An eye that is CLEAR already has no such edge. -/
def execSlotEyeClears (n : SlotNo) (s : State) : Host.Outcome State Fault Refusal :=
  .next
    (if !s.slots[n].eye then s
    else
      let t := setSlot n (fun x => { x with eye := false }) s
      match s.slots[n].state with
      | .holding l =>
        match takerOf s l with
        | some p => takenRemoval n l p t
        | none => unclaimedRemoval n l t
      | _ => t)

/-- The eject timer runs out (R138). -/
def timeOutEjection (s : State) : State :=
  match s.outfeed.state with
  | .busy b _ => finish (faultBin b .ejectTimeout s)
  | _ => s

/-- EJECT_TIMEOUT (R138): the running out of the timer of the ejection in progress. -/
def execEjectTimeout (s : State) : Host.Outcome State Fault Refusal := .next (timeOutEjection s)

end Sys2Proof.Machine
end

