-- ==== Sys2Proof/Machine/Clock.lean ====
section
/-! DEFINITION. The millisecond timebase (Table 0-5): what passes in the part when one millisecond goes by with
no command waiting (DESIGN CHOICE, log entry 1). -/

namespace Sys2Proof.Machine

/-- One millisecond of a port: its gap is counted up to 21 ms, and a gap over 20 ms discards a frame in progress
(R176). -/
def tickPort (q : PortState) : PortState :=
  let gap := min (Config.gapLimitMs + 1) (q.gapMs + 1)
  let r := { q with gapMs := gap }
  if Config.gapLimitMs < gap then gapDiscard r else r

/-- One millisecond of a pull: the handover timer of an ASSIGNED pull runs down (R155). -/
def tickPull (p : Pull) : Pull :=
  match p.state with
  | .assigned lift remaining => { p with state := .assigned lift (remaining - 1) }
  | .waiting => p

/-- The ports and the timers after one millisecond. -/
def tickTimers (s : State) : State :=
  { s with
    ports := vmap (fun _ q => tickPort q) s.ports
    outfeed := { s.outfeed with timer := s.outfeed.timer.map (fun t => t - 1) }
    arbiter := { s.arbiter with pulls := s.arbiter.pulls.map tickPull } }

/-- The eject timer has run out. -/
def ejectOver (s : State) : Bool := s.outfeed.timer == some 0

/-- The handover timer of a line has run out. -/
def handoverOver (s : State) (line : LineNo) : Bool :=
  s.arbiter.pulls.any (fun p =>
    p.line == line &&
      (match p.state with
        | .assigned _ remaining => remaining == 0
        | .waiting => false))

/-- A line's handover expires if its timer has run out (R157). -/
def settleHandover (s : State) (line : LineNo) : State :=
  if handoverOver s line then expireHandover line s else s

/-- One millisecond of the timebase: the ports and timers, then the eject timer's running out, then the
handovers that have run out, line 0 first (R136, R138, R155, R157, R176). -/
def tick (s : State) : State :=
  let t := tickTimers s
  allFour.foldl settleHandover (if ejectOver t then timeOutEjection t else t)

end Sys2Proof.Machine
end

