-- ==== Sys2Proof/Machine/Banks.lean ====
section
/-! DEFINITION. The commands on the recipe banks (chapter 2). -/

namespace Sys2Proof.Machine

/-- The edit bank. -/
def State.editBank (s : State) : Bank := s.banks.bank[s.banks.edit]

/-- Takes a bank write (R33): rights, protection, form, then the write's own checks. -/
def serveWrite (r : Req) (k : ReqKind) (c : Instr) (handle : State → State) (s : State) : State :=
  take r k c
    (fun s =>
      let target := some (Target.bank s.banks.edit.val)
      if mayMake r.port k then
        if s.banks.active = some s.banks.edit then refuseRecorded r k .protectedBank target s
        else if r.formed then handle s
        else refuse r k .invalid s
      else refuseRecorded r k .denied target s) s

/-- The edit bank replaced, and the DONE reply of an accepted write (R33). -/
def storeBank (r : Req) (k : ReqKind) (b : Bank) (s : State) : State :=
  done r k (.written s.banks.edit b.state b.rules.length)
    { s with banks := { s.banks with bank := vset s.banks.bank s.banks.edit b } }

/-- SELECT_BANK (R32). -/
def execSelectBank (r : Req) (bank : Nat) (s : State) : Host.Outcome State Fault Refusal :=
  .next (serve r .selectBank (.selectBank r bank) (some (.bank bank))
    (fun s =>
      match asFour bank with
      | some k =>
        done r .selectBank (.selected k s.banks.bank[k].state) { s with banks := { s.banks with edit := k } }
      | none => refuse r .selectBank .invalid s) s)

/-- WRITE_CLASSES (R34). -/
def execWriteClasses (r : Req) (places : List (Option ClassRange)) (s : State) :
    Host.Outcome State Fault Refusal :=
  .next (serveWrite r .writeClasses (.writeClasses r places)
    (fun s =>
      match classesOf places with
      | some c => storeBank r .writeClasses { s.editBank with classes := c, state := .edited } s
      | none => refuse r .writeClasses .invalid s) s)

/-- WRITE_WEIGHTS (R35). -/
def execWriteWeights (r : Req) (weights : List Byte) (s : State) : Host.Outcome State Fault Refusal :=
  .next (serveWrite r .writeWeights (.writeWeights r weights)
    (fun s =>
      match weightsOf weights with
      | some w => storeBank r .writeWeights { s.editBank with weights := w, state := .edited } s
      | none => refuse r .writeWeights .invalid s) s)

/-- WRITE_LIMITS (R36). -/
def execWriteLimits (r : Req) (redryLimit fullWidth : Nat) (s : State) : Host.Outcome State Fault Refusal :=
  .next (serveWrite r .writeLimits (.writeLimits r redryLimit fullWidth)
    (fun s =>
      if inRange 0 300 redryLimit && inRange 100 1400 fullWidth then
        storeBank r .writeLimits
          { s.editBank with redryLimit := redryLimit, fullWidth := fullWidth, state := .edited } s
      else refuse r .writeLimits .invalid s) s)

/-- WRITE_GRADE (R37, R38). -/
def execWriteGrade (r : Req) (pos : Nat) (rule : GradeRule) (s : State) : Host.Outcome State Fault Refusal :=
  .next (serveWrite r .writeGrade (.writeGrade r pos rule)
    (fun s =>
      if gradeWriteFormed s.editBank.rules pos rule then
        storeBank r .writeGrade
          { s.editBank with rules := placeRule s.editBank.rules pos rule, state := .edited } s
      else refuse r .writeGrade .invalid s) s)

/-- DELETE_GRADE (R39). -/
def execDeleteGrade (r : Req) (pos : Nat) (s : State) : Host.Outcome State Fault Refusal :=
  .next (serveWrite r .deleteGrade (.deleteGrade r pos)
    (fun s =>
      if inRange 0 11 pos && decide (pos < s.editBank.rules.length) then
        storeBank r .deleteGrade { s.editBank with rules := s.editBank.rules.eraseIdx pos, state := .edited } s
      else refuse r .deleteGrade .invalid s) s)

/-- CLEAR_BANK (R40). -/
def execClearBank (r : Req) (s : State) : Host.Outcome State Fault Refusal :=
  .next (serveWrite r .clearBank (.clearBank r) (fun s => storeBank r .clearBank Bank.empty s) s)

/-- READ_BANK (R41). -/
def execReadBank (r : Req) (bank : Nat) (s : State) : Host.Outcome State Fault Refusal :=
  .next (serve r .readBank (.readBank r bank) (some (.bank bank))
    (fun s =>
      match asFour bank with
      | some k =>
        let b := s.banks.bank[k]
        done r .readBank
          (.bankContents b.state (s.banks.active == some k) b.classes b.weights b.redryLimit b.fullWidth
            b.rules.length (b.rules.map (fun g => g.code))) s
      | none => refuse r .readBank .invalid s) s)

/-- READ_GRADE (R41). -/
def execReadGrade (r : Req) (bank pos : Nat) (s : State) : Host.Outcome State Fault Refusal :=
  .next (serve r .readGrade (.readGrade r bank pos) (some (.bank bank))
    (fun s =>
      match asFour bank with
      | some k =>
        match s.banks.bank[k].rules[pos]? with
        | some g => if pos ≤ 11 then done r .readGrade (.gradeContents g) s else refuse r .readGrade .invalid s
        | none => refuse r .readGrade .invalid s
      | none => refuse r .readGrade .invalid s) s)

/-- The bank with its state set. -/
def setBankState (k : BankNo) (x : BankState) (s : State) : State :=
  { s with banks := { s.banks with bank := vset s.banks.bank k { s.banks.bank[k] with state := x } } }

/-- The state of a bank that has passed VALIDATE (R44). -/
def BankState.afterPass : BankState → BankState
  | .active => .active
  | _ => .valid

/-- VALIDATE (R44). -/
def execValidate (r : Req) (bank : Nat) (s : State) : Host.Outcome State Fault Refusal :=
  .next (serve r .validate (.validate r bank) (some (.bank bank))
    (fun s =>
      match asFour bank with
      | some k =>
        match validationOf s.geometry s.banks.bank[k] with
        | some f => refuseWith r .validate (.validation f) s
        | none =>
          let x := s.banks.bank[k].state.afterPass
          done r .validate (.validated k x) (setBankState k x s)
      | none => refuse r .validate .invalid s) s)

/-- The bank that was active, if any, becomes VALID (R46). -/
def retireActive (s : State) : State :=
  match s.banks.active with
  | some j => setBankState j .valid s
  | none => s

/-- The switch of R46: the active bank becomes VALID, bank `k` becomes ACTIVE. -/
def switchBank (k : BankNo) (s : State) : State :=
  let t := setBankState k .active (retireActive s)
  { t with banks := { t.banks with active := some k } }

/-- A FILLING bin whose lift names a bank other than `k` (R47). -/
def otherBank (k : BankNo) (l : Lift) : Bool := l.key.bank != k

/-- The bins that ACTIVATE of bank `k` drains, in bin number order (R47). -/
def drainedBins (k : BankNo) (s : State) : List BinNo :=
  allBins.filter (fun b =>
    match (s.bin b).state with
    | .filling l => otherBank k l
    | _ => false)

/-- ACTIVATE (R45 to R47). -/
def execActivate (r : Req) (bank : Nat) (s : State) : Host.Outcome State Fault Refusal :=
  .next (serve r .activate (.activate r bank) (some (.bank bank))
    (fun s =>
      match asFour bank with
      | some k =>
        if s.banks.active = some k then done r .activate (.activated k none []) s
        else match validationOf s.geometry s.banks.bank[k] with
          | some f => refuseWith r .activate (.validation f) s
          | none =>
            closeEvent
              (done r .activate (.activated k s.banks.active (drainedBins k s))
                (completeDrains (drainBins .recipe (fun _ l => otherBank k l) (switchBank k s))))
      | none => refuse r .activate .invalid s) s)

end Sys2Proof.Machine
end

