-- ==== Sys2Proof/Machine/Bins.lean ====
section
/-! DEFINITION. The landed eyes, the stuck eye, the bin service requests and FORCE_CLOSE (chapters 5 and 6). -/

namespace Sys2Proof.Machine

/-- EYE_STUCK_PASSAGE (R104). -/
def execEyeStuckPassage (b : BinNo) (s : State) : Host.Outcome State Fault Refusal :=
  .next (passEyeStuck s b)

/-- LANDED_EYE_BLOCKED (R97). An eye that is BLOCKED already has no leading edge. -/
def execLandedEyeBlocked (b : BinNo) (s : State) : Host.Outcome State Fault Refusal :=
  .next
    (if (s.bin b).eyeMark.isSome then s
    else finish (landedEdge b (setBin b (fun x => { x with eyeMark := some s.tracker.travel }) s)))

/-- LANDED_EYE_CLEARS (R97). -/
def execLandedEyeClears (b : BinNo) (s : State) : Host.Outcome State Fault Refusal :=
  .next (setBin b (fun x => { x with eyeMark := none }) s)

/-- DRAIN_COMPLETION (R121): taken when bin `b`'s drain is due; the events that make it due take it themselves
(log entry 6). -/
def execDrainCompletion (b : BinNo) (s : State) : Host.Outcome State Fault Refusal :=
  .next (closeEvent (completeDrain b s))

/-- What CLEAR_BIN does with a FAULTED bin whose eye is clear, and its reply (Table of R109). -/
def clearFaulted (r : Req) (b : BinNo) (lift : Option Lift) (s : State) : State :=
  let t := setBin b (fun x => { x with suspicion := 0 }) s
  match lift with
  | none =>
    done r .clearBin (.bin b .ready none) (setBin b (fun x => { x with state := .ready }) t)
  | some l =>
    if l.state = .opened then
      if l.landed = 0 then
        done r .clearBin (.bin b .ready (some (l.id, .discarded))) (discardLift b .clearBin l .ready t)
      else
        done r .clearBin (.bin b .fullWait (some (l.id, .closed))) (closeLift b .fault l t)
    else
      done r .clearBin (.bin b .fullWait (some (l.id, .kept))) (waitForOutfeed b l t)

/-- CLEAR_BIN (R108, R109). -/
def execClearBin (r : Req) (bin : Nat) (s : State) : Host.Outcome State Fault Refusal :=
  .next (serve r .clearBin (.clearBin r bin) (some (.bin bin))
    (fun s =>
      match asBin bin with
      | none => refuse r .clearBin .invalid s
      | some b =>
        match (s.bin b).state with
        | .faulted _ lift =>
          if (s.bin b).eyeMark.isSome then refuse r .clearBin .notClear s
          else closeEvent (clearFaulted r b lift s)
        | _ => refuse r .clearBin .notNow s) s)

/-- BIN_ONLINE (R110). -/
def execBinOnline (r : Req) (bin : Nat) (s : State) : Host.Outcome State Fault Refusal :=
  .next (serve r .binOnline (.binOnline r bin) (some (.bin bin))
    (fun s =>
      match asBin bin with
      | none => refuse r .binOnline .invalid s
      | some b =>
        if (s.bin b).state ≠ .offline ∨ s.geometry.binPosition[b] = none then refuse r .binOnline .notNow s
        else if (s.bin b).eyeMark.isSome then refuse r .binOnline .notClear s
        else
          done r .binOnline (.bin b .ready none)
            (setBin b (fun x => { x with state := .ready, suspicion := 0, gate := false }) s)) s)

/-- A bin becomes OFFLINE (R111). -/
def takeOffline (b : BinNo) (s : State) : State :=
  setBin b (fun x => { x with state := .offline, suspicion := 0 }) s

/-- BIN_OFFLINE (R111). -/
def execBinOffline (r : Req) (bin : Nat) (s : State) : Host.Outcome State Fault Refusal :=
  .next (serve r .binOffline (.binOffline r bin) (some (.bin bin))
    (fun s =>
      match asBin bin with
      | none => refuse r .binOffline .invalid s
      | some b =>
        match (s.bin b).state with
        | .ready => done r .binOffline (.bin b .offline none) (takeOffline b s)
        | .faulted _ none => done r .binOffline (.bin b .offline none) (takeOffline b s)
        | .faulted _ (some l) =>
          done r .binOffline (.bin b .offline (some (l.id, .discarded)))
            (discardLift b .binOffline l .offline (takeOffline b s))
        | _ => refuse r .binOffline .notNow s) s)

/-- What became of a lift whose bin was sent to DRAIN_CLOSE, by the state the bin is in afterwards. -/
def BinState.drainFate : BinState → LiftFate
  | .fullWait _ => .closed
  | .ready => .discarded
  | _ => .draining

/-- A FILLING bin is sent to DRAIN_CLOSE SHORT, and its drain completed if nothing is in flight (R112,
R127). -/
def closeShort (b : BinNo) (l : Lift) (s : State) : State :=
  completeDrain b (setBin b (fun x => { x with state := .drainClose .short l }) s)

/-- CLOSE_BIN (R112). -/
def execCloseBin (r : Req) (bin : Nat) (s : State) : Host.Outcome State Fault Refusal :=
  .next (serve r .closeBin (.closeBin r bin) (some (.bin bin))
    (fun s =>
      match asBin bin with
      | none => refuse r .closeBin .invalid s
      | some b =>
        match (s.bin b).state with
        | .filling l =>
          let t := closeShort b l s
          closeEvent
            (done r .closeBin (.bin b (t.bin b).state.tag (some (l.id, (t.bin b).state.drainFate))) t)
        | _ => refuse r .closeBin .notNow s) s)

/-- The lift of a bin that FORCE_CLOSE may choose (R126). -/
def forceCandidate (s : State) (k : BankNo) (code : Nat) (cls : Option Nat) (least : Nat) (b : BinNo) :
    Option (BinNo × Lift) :=
  match (s.bin b).state with
  | .filling l =>
    if l.key.bank = k ∧ l.key.code = code ∧ optMatches cls l.key.cls = true ∧ least ≤ l.landed then some (b, l)
    else none
  | _ => none

/-- The candidate of the largest landed count, the first of those that are equal (R126). -/
def mostLanded : List (BinNo × Lift) → Option (BinNo × Lift)
  | [] => none
  | x :: rest =>
    match mostLanded rest with
    | none => some x
    | some y => if x.2.landed < y.2.landed then some y else some x

/-- The choice of FORCE_CLOSE (R126). -/
def forceChoice (s : State) (code : Nat) (cls : Option Nat) : Option (BinNo × Lift) :=
  match s.banks.active with
  | none => none
  | some k =>
    match ruleIn s k code with
    | none => none
    | some g => mostLanded (allBins.filterMap (forceCandidate s k code cls g.shortMin))

/-- FORCE_CLOSE (R125 to R127). -/
def execForceClose (r : Req) (code : Nat) (cls : Option Nat) (s : State) : Host.Outcome State Fault Refusal :=
  .next (take r .forceClose (.forceClose r code cls)
    (fun s =>
      match r.port with
      | .line i =>
        if !s.arbiter.settings[i].force then refuseRecorded r .forceClose .denied (some (.grade code)) s
        else if !(r.formed && inRange 1 250 code && optInRange 0 3 cls) then refuse r .forceClose .invalid s
        else match forceChoice s code cls with
          | none => refuse r .forceClose .noneReady s
          | some (b, l) =>
            let t := closeShort b l s
            closeEvent (done r .forceClose (.forced b l.id l.key l.landed l.inFlight (t.bin b).state.tag) t)
      | _ => refuseRecorded r .forceClose .denied (some (.grade code)) s) s)

end Sys2Proof.Machine
end

