-- ==== Sys2Proof/Machine/Geometry.lean ====
section
/-! DEFINITION. WRITE_GEOMETRY (R75 to R78). -/

namespace Sys2Proof.Machine

/-- The target a refused geometry write records (R179). -/
def geomTarget : GeomParam → Option Target
  | .binPosition n => some (.bin n)
  | _ => none

/-- A bin position is named whose bin is not OFFLINE (R77). -/
def geomBinBusy (s : State) : GeomParam → Bool
  | .binPosition n =>
    match asBin n with
    | some b => (s.bin b).state != .offline
    | none => false
  | _ => false

/-- A distance is nearer than before; an unset one is beyond every distance (R78). -/
def nearer : Option Nat → Option Nat → Bool
  | some old, some new => decide (new < old)
  | none, some _ => true
  | _, none => false

/-- The passages that a geometry write takes at once, when it has brought a point nearer: the write is taken as
the passage for every item that has gone the new distance (R64, R66, R78). `old` is the geometry before the write.
Each is a passage event taken whole, its end of a drain before the next item (DEDUCED, log entry 25). -/
def nearerPassages (p : GeomParam) (old : Geometry) (s : State) : State :=
  if nearer (old.value p) (s.geometry.value p) then
    match p with
    | .decisionDistance => (entriesWhere (fun _ => true) s).foldl passDecision s
    | .beltEnd => (entriesWhere (fun _ => true) s).foldl passBeltEnd s
    | .landingAllowance => (entriesWhere (fun _ => true) s).foldl passWindowEnd s
    | .eyeStuck => allBins.foldl passEyeStuck s
    | _ => s
  else s

/-- WRITE_GEOMETRY (R75). -/
def execWriteGeometry (r : Req) (p : GeomParam) (v : Option Nat) (s : State) :
    Host.Outcome State Fault Refusal :=
  .next (serve r .writeGeometry (.writeGeometry r p v) (geomTarget p)
    (fun s =>
      if !geomFormed p v then refuse r .writeGeometry .invalid s
      else if geomBinBusy s p then refuse r .writeGeometry .notNow s
      else
        let g := s.geometry.put p v
        match geomConflict g p with
        | some c => refuseWith r .writeGeometry (.geometry c) s
        | none =>
          nearerPassages p s.geometry
            (done r .writeGeometry (.geometry p (g.value p)) { s with geometry := g })) s)

end Sys2Proof.Machine
end

