-- ==== Sys2Proof/Machine/Modes.lean ====
section
/-! DEFINITION. The sort mode and the shift tallies (chapter 9), RESTART and full reset. -/

namespace Sys2Proof.Machine

/-- START (R165). -/
def execStart (r : Req) (s : State) : Host.Outcome State Fault Refusal :=
  .next (serve r .start (.start r) none
    (fun s =>
      match s.mode with
      | .run => refuse r .start .notNow s
      | .drain => done r .start (.mode .run) (setMode .run s)
      | .idle =>
        if s.banks.active = none ∨ s.geometry.beltEnd = none then refuse r .start .notNow s
        else done r .start (.mode .run) (setMode .run s)) s)

/-- DRAIN (R166). -/
def execDrain (r : Req) (s : State) : Host.Outcome State Fault Refusal :=
  .next (serve r .drain (.drain r) none
    (fun s =>
      if s.mode = .run then
        let t := endDrainIfDue (setMode .drain s)
        closeEvent (done r .drain (.mode t.mode) t)
      else refuse r .drain .notNow s) s)

/-- END_OF_DRAIN (R167): taken when it is due; the removals that make it due take it themselves (log entry
6). -/
def execEndOfDrain (s : State) : Host.Outcome State Fault Refusal := .next (finish s)

/-- STOP (R169). -/
def execStop (r : Req) (s : State) : Host.Outcome State Fault Refusal :=
  .next (serve r .stop (.stop r) none
    (fun s =>
      if s.mode = .idle then refuse r .stop .notNow s
      else
        closeEvent
          (done r .stop (.stopped .idle s.tracker.queue.length) (setMode .idle (discardQueue s)))) s)

/-- RESTART's discard of the pulls: every ASSIGNED lift returns to STORED (R162). -/
def discardPulls (s : State) : State :=
  setArbiter (fun a => { a with pulls := [], expired := Vector.replicate 4 [] })
    { s with
      slots :=
        vmap
          (fun _ x =>
            match x.state with
            | .holding l => if l.state = .assigned then { x with state := .holding l.giveBack } else x
            | _ => x) s.slots }

/-- RESTART's emptying of the outgoing queues, with the notice-lost marks it leaves (R180). -/
def emptyQueues (s : State) : State :=
  { s with ports := vmap (fun i q => { q with queue := [], lost := i != Port.setup.idx }) s.ports }

/-- RESTART (R170). -/
def execRestart (r : Req) (s : State) : Host.Outcome State Fault Refusal :=
  .next (serve r .restart (.restart r) none
    (fun s =>
      closeEvent
        (done r .restart (.stopped .idle s.tracker.queue.length)
          (emptyQueues (setMode .idle (discardPulls (discardQueue s)))))) s)

/-- The sheets-landed counter of a grade code. -/
def Tallies.landedOf (t : Tallies) (code : Nat) : Nat := (t.landed.toList[code - 1]?).getD 0

/-- The report of the tallies with the landed counters of a bank's grade codes, in rank order (R173). -/
def tallyReport (s : State) (bank : Option BankNo) : TallyReport where
  landedTotal := s.tallies.landedTotal
  landed :=
    match bank with
    | some k => s.banks.bank[k].rules.map (fun g => (g.code, s.tallies.landedOf g.code))
    | none => []
  redry := s.tallies.redry
  rejects := s.tallies.rejects
  missed := s.tallies.missed
  stray := s.tallies.stray
  closed := s.tallies.closed
  taken := s.tallies.taken
  unclaimed := s.tallies.unclaimed

/-- TALLY_READ (R173). -/
def execTallyRead (r : Req) (bank : Option Nat) (s : State) : Host.Outcome State Fault Refusal :=
  .next (serve r .tallyRead (.tallyRead r bank) (bank.map Target.bank)
    (fun s =>
      match bank with
      | none => done r .tallyRead (.tallies (tallyReport s s.banks.active)) s
      | some n =>
        match asFour n with
        | some k => done r .tallyRead (.tallies (tallyReport s (some k))) s
        | none => refuse r .tallyRead .invalid s) s)

/-- TALLY_CLEAR (R174). -/
def execTallyClear (r : Req) (s : State) : Host.Outcome State Fault Refusal :=
  .next (serve r .tallyClear (.tallyClear r) none
    (fun s =>
      done r .tallyClear (.tallies (tallyReport s s.banks.active)) { s with tallies := Tallies.zero }) s)

/-- FULL_RESET (R171): the assertion of RESET_N and its release, with the pins as read at the release. -/
def execFullReset (pins : Pins) (s : State) : Host.Outcome State Fault Refusal :=
  .next { State.resetWith pins with pending := s.pending }

end Sys2Proof.Machine
end

