-- ==== Sys2Proof/Machine/Pulls.lean ====
section
/-! DEFINITION. Line settings, PULL, RELEASE, CANCEL and the handover expiry (chapter 8). -/

namespace Sys2Proof.Machine

/-- WRITE_LINE (R145). -/
def execWriteLine (r : Req) (line : Nat) (access : AccessSet) (force : Bool) (rank : Nat) (s : State) :
    Host.Outcome State Fault Refusal :=
  .next (serve r .writeLine (.writeLine r line access force rank) (some (.line line))
    (fun s =>
      match asFour line with
      | some i =>
        if accessFormed access && inRange 0 3 rank then
          done r .writeLine (.line i ⟨access, force, rank⟩)
            (setArbiter (fun a => { a with settings := vset a.settings i ⟨access, force, rank⟩ }) s)
        else refuse r .writeLine .invalid s
      | none => refuse r .writeLine .invalid s) s)

/-- The arbiter under a new pass limit: a lowered limit cuts the pass counts above it (R146). -/
def Arbiter.limitTo (n : Nat) (a : Arbiter) : Arbiter :=
  { a with
    passLimit := n
    pulls :=
      if n < a.passLimit then a.pulls.map (fun p => { p with passCount := min n p.passCount }) else a.pulls }

/-- WRITE_PASS_LIMIT (R146). -/
def execWritePassLimit (r : Req) (limit : Nat) (s : State) : Host.Outcome State Fault Refusal :=
  .next (serve r .writePassLimit (.writePassLimit r limit) none
    (fun s =>
      if inRange 1 15 limit then done r .writePassLimit (.value limit) (setArbiter (Arbiter.limitTo limit) s)
      else refuse r .writePassLimit .invalid s) s)

/-- WRITE_HANDOVER_TIMEOUT (R146). -/
def execWriteHandoverTimeout (r : Req) (seconds : Nat) (s : State) : Host.Outcome State Fault Refusal :=
  .next (serve r .writeHandoverTimeout (.writeHandoverTimeout r seconds) none
    (fun s =>
      if inRange 10 600 seconds then
        done r .writeHandoverTimeout (.value seconds)
          (setArbiter (fun a => { a with handoverTimeout := seconds }) s)
      else refuse r .writeHandoverTimeout .invalid s) s)

/-- The pulls a line holds (R147). -/
def pullsOf (s : State) (line : LineNo) : List Pull := s.arbiter.pulls.filter (fun p => p.line == line)

/-- Some STORED lift held in a slot matches a request (R149, check 5). -/
def someStoredMatches (s : State) (code : Nat) (bank cls : Option Nat) : Bool :=
  allSlots.any (fun n =>
    match s.slots[n].stored? with
    | some l => keyMatches code bank cls l.key
    | none => false)

/-- The pull a PULL creates (R147, R150). -/
def newPull (s : State) (line : LineNo) (code : Nat) (bank cls : Option Nat) : Pull where
  number := freshPullNumber s
  line := line
  code := code
  bank := bank
  cls := cls
  arrival := s.arbiter.arrivals + 1
  passCount := 0
  state := .waiting

/-- The pull table with a new pull (R147). -/
def addPull (p : Pull) (s : State) : State :=
  setArbiter
    (fun a =>
      { a with pulls := a.pulls ++ [p], nextNumber := nextNumberAfter p.number, arrivals := p.arrival }) s

/-- PULL (R149, R150): the reply is queued before the matching pass. -/
def execPull (r : Req) (code : Nat) (bank cls : Option Nat) (nowait : Bool) (s : State) :
    Host.Outcome State Fault Refusal :=
  .next (take r .pull (.pull r code bank cls nowait)
    (fun s =>
      match r.port with
      | .line i =>
        if !(r.formed && inRange 1 250 code && optInRange 0 3 bank && optInRange 0 3 cls) then
          refuse r .pull .invalid s
        else if !accessAdmits s.arbiter.settings[i].access code then
          refuseRecorded r .pull .denied (some (.grade code)) s
        else if Config.maxPullsPerLine ≤ (pullsOf s i).length then refuse r .pull .full s
        else if nowait && !someStoredMatches s code bank cls then refuse r .pull .noneReady s
        else
          let p := newPull s i code bank cls
          matchingPass (done r .pull (.pulled p.number p.arrival) (addPull p s))
      | _ => refuseRecorded r .pull .denied (some (.grade code)) s) s)

/-- The pull of a number among a line's own (R158). -/
def ownPull (s : State) (line : LineNo) (number : Nat) : Option Pull :=
  s.arbiter.pulls.find? (fun p => p.number == number && p.line == line)

/-- The lift assigned to a pull number goes back to STORED, if a slot holds one (R158). -/
def giveBackLift (number : Nat) (s : State) : State :=
  match slotOfPull s number with
  | some (n, l) => returnLift n l s
  | none => s

/-- RELEASE (R158): the matching pass is run after the reply. -/
def execRelease (r : Req) (number : Nat) (s : State) : Host.Outcome State Fault Refusal :=
  .next (take r .release (.release r number)
    (fun s =>
      match r.port with
      | .line i =>
        if !(r.formed && inRange 1 65535 number) then refuse r .release .invalid s
        else match ownPull s i number with
          | some p =>
            match p.state with
            | .assigned lift _ =>
              matchingPass
                (done r .release (.released number lift) (endPull i number (giveBackLift number s)))
            | .waiting => refuse r .release .notNow s
          | none =>
            if s.arbiter.expired[i].contains number then refuse r .release .late s
            else refuse r .release .unknown s
      | _ => refuseRecorded r .release .denied none s) s)

/-- CANCEL (R159). -/
def execCancel (r : Req) (number : Nat) (s : State) : Host.Outcome State Fault Refusal :=
  .next (take r .cancel (.cancel r number)
    (fun s =>
      match r.port with
      | .line i =>
        if !(r.formed && inRange 1 65535 number) then refuse r .cancel .invalid s
        else match ownPull s i number with
          | some p =>
            match p.state with
            | .assigned _ _ => refuse r .cancel .assigned s
            | .waiting => done r .cancel (.cancelled number) (endPull i number s)
          | none => refuse r .cancel .unknown s
      | _ => refuseRecorded r .cancel .denied none s) s)

/-- HANDOVER_EXPIRED (R157): the running out of the handover timer of a line's ASSIGNED pull. -/
def execHandoverExpired (line : LineNo) (s : State) : Host.Outcome State Fault Refusal :=
  .next (expireHandover line s)

end Sys2Proof.Machine
end

