-- ==== Sys2Proof/Machine/Report.lean ====
section
/-! DEFINITION. The scan port's requests: SHEET_REPORT (Figure 1-1, R59 to R62) and SCAN_RESYNC (R70). -/

namespace Sys2Proof.Machine

/-- The oldest AWAIT_REPORT entry (R59). -/
def oldestAwaiting (s : State) : Option Entry := s.tracker.queue.find? (fun e => e.state == .awaitReport)

/-- The refusal NO_SHEET, counted as one mismatch in RUN (R59). -/
def refuseNoSheet (r : Req) (s : State) : State :=
  refuse r .sheetReport .noSheet (if s.mode = .run then finish (countMismatch s) else s)

/-- The reported length before clamping and the eye length differ by more than the tolerance (R60). -/
def lengthsDiffer (s : State) (reported eye : Nat) : Bool :=
  decide (s.geometry.lengthTolerance < (max reported eye) - (min reported eye))

/-- The verdict a route plan leaves: the plan's REJECT, or the verdict it was made for (R79, R84, R87). -/
def RoutePlan.verdict (v : Verdict) : RoutePlan → Verdict
  | .bin _ _ _ => v
  | .redryGate _ => v
  | .beltEnd r x => .reject r x

/-- The routing outcome a route plan gives (R27). -/
def RoutePlan.goal : RoutePlan → SheetGoal
  | .bin b _ _ => .bin b
  | .redryGate _ => .redryGate
  | .beltEnd _ _ => .beltEnd

/-- Binding with lengths that differ: REJECT MISMATCH and one mismatch (R60). -/
def bindMismatch (r : Req) (k : BankNo) (e : Entry) (raw : SheetData) (s : State) : State :=
  let banked := setEntry e.id (fun x => { x with bank := some k }) s
  let counted := countMismatch (rejectEntry e.id .mismatch none banked)
  finish (done r .sheetReport (.sheet e.number (.reject .mismatch none) .beltEnd (clampedMark raw)) counted)

/-- Binding with lengths that agree: the count is cleared, the evaluator runs and the router places the
verdict (R62). -/
def bindGood (r : Req) (k : BankNo) (e : Entry) (raw : SheetData) (s : State) : State :=
  let v := overPreset e.verdict (evaluate s.banks.bank[k] (clampReport raw))
  let bound :=
    setEntry e.id (fun x => { x with bank := some k, verdict := some v }) (setMismatches 0 s)
  let plan := planRoute bound (some k) v (travelOf e s) none
  finish
    (done r .sheetReport (.sheet e.number (plan.verdict v) plan.goal (clampedMark raw))
      (applyRoute e.id plan bound))

/-- SHEET_REPORT (R6). -/
def execSheetReport (port : Port) (tag : Byte) (payload : List Byte) (s : State) :
    Host.Outcome State Fault Refusal :=
  let r := reportReq port tag
  let c : Instr := .sheetReport port tag payload
  if !(s.hasPlace port && s.holdsFrame port (requestFrame r .sheetReport c)) then .next s
  else
    let t := freeBuffer port s
    if !mayMake port .sheetReport then .next (refuseRecorded r .sheetReport .denied none t)
    else match parseReport payload with
      | none => .next (refuse r .sheetReport .invalid t)
      | some raw =>
        if t.sync = .outOfStep then .next (refuse r .sheetReport .outOfStep t)
        else match oldestAwaiting t with
          | none => .next (refuseNoSheet r t)
          | some e =>
            match e.eyeLen, t.banks.active with
            | none, _ => .next (refuseNoSheet r t)
            | some _, none => .fault .noActiveBank
            | some eye, some k =>
              if lengthsDiffer t raw.length eye then .next (bindMismatch r k e raw t)
              else .next (bindGood r k e raw t)

/-- SCAN_RESYNC (R70). -/
def execScanResync (r : Req) (s : State) : Host.Outcome State Fault Refusal :=
  .next (serve r .scanResync (.scanResync r) none
    (fun s => done r .scanResync (.resync s.sync s.tracker.nextNumber) (setMismatches 0 s)) s)

end Sys2Proof.Machine
end

