-- ==== Sys2Proof/Machine/Reporting.lean ====
section
/-! DEFINITION. The event mask, EVENT_READ, QUERY and its views, and requests that name nothing (chapter
10). -/

namespace Sys2Proof.Machine

/-! ### The event list (R181, R182) -/

/-- WRITE_EVENT_MASK (R181). -/
def execWriteEventMask (r : Req) (mask : EventMask) (s : State) : Host.Outcome State Fault Refusal :=
  .next (serve r .writeEventMask (.writeEventMask r mask) none
    (fun s => done r .writeEventMask (.mask mask) { s with events := { s.events with mask := mask } }) s)

/-- The event list after `n` of its oldest events are read: a read that takes something and leaves nothing
clears the overflow mark (R182). -/
def EventLog.readOut (l : EventLog) (n : Nat) : EventLog :=
  { l with list := l.list.drop n
           overflow := if l.list.drop n = [] ∧ l.list ≠ [] then false else l.overflow }

/-- EVENT_READ (R182). -/
def execEventRead (r : Req) (count : Nat) (s : State) : Host.Outcome State Fault Refusal :=
  .next (serve r .eventRead (.eventRead r count) none
    (fun s =>
      if inRange 1 8 count then
        done r .eventRead (.events s.events.overflow (s.events.list.take count))
          { s with events := s.events.readOut count }
      else refuse r .eventRead .invalid s) s)

/-! ### QUERY (R183) -/

/-- The subjects of QUERY (R183). -/
inductive Subject where
  | tracker | bins | storedLifts | pulls | outfeed | settings | lines | refusals | ports | mode
  deriving DecidableEq, Repr

/-- The subjects a port class may query (Table of R179). -/
def mayQuery : Port → Subject → Bool
  | .setup, _ => true
  | .scan, .tracker => true
  | .scan, _ => false
  | .line _, .bins => true
  | .line _, .storedLifts => true
  | .line _, .pulls => true
  | .line _, _ => false

/-- Takes a QUERY of a subject: the rights, the form, the first item number against the item count, and the
reply with the fields and items of `data` (R183). -/
def serveQuery (r : Req) (c : Instr) (subject : Subject) (first : Nat) (count : State → Nat)
    (data : State → QueryData) (s : State) : State :=
  take r .query c
    (fun s =>
      if mayQuery r.port subject then
        if r.formed && firstAccepted first (count s) then
          done r .query (.query (count s) first (data s)) s
        else refuse r .query .invalid s
      else refuseRecorded r .query .denied none s) s

/-- A tracking entry's state as it is reported. -/
def EntryState.tag : EntryState → EntryTag
  | .awaitReport => .awaitReport
  | .routed _ _ _ => .routed
  | .landing _ _ _ _ => .landing
  | .toRedry _ _ _ => .toRedry
  | .toReject => .toReject

/-- A tracking entry's target (Table 3-2). -/
def EntryState.target : EntryState → Option SheetGoal
  | .awaitReport => none
  | .routed b _ _ => some (.bin b)
  | .landing b _ _ _ => some (.bin b)
  | .toRedry _ _ _ => some .redryGate
  | .toReject => none

/-- A verdict's kind and reason. -/
def Verdict.tag : Verdict → VerdictTag
  | .graded _ _ _ => .graded
  | .redry _ => .redry
  | .reject r _ => .reject r

/-- A tracking entry as QUERY of TRACKER gives it (R72). -/
def Entry.view (e : Entry) : EntryView where
  number := e.number
  state := e.state.tag
  lead := e.lead
  eyeLen := e.eyeLen
  verdict := e.verdict.map Verdict.tag
  target := e.state.target
  bank := e.bank

/-- QUERY of TRACKER (R72). -/
def execQueryTracker (r : Req) (first : Nat) (s : State) : Host.Outcome State Fault Refusal :=
  .next (serveQuery r (.queryTracker r first) .tracker first (fun s => s.tracker.queue.length)
    (fun s =>
      .tracker s.tracker.travel s.sync s.tracker.mismatches s.tracker.eye s.tracker.nextNumber s.redryGate
        ((page first s.tracker.queue).map Entry.view)) s)

/-- The lift of a bin as QUERY of BINS gives it (R114). -/
def Lift.binView (l : Lift) : BinLiftView where
  id := l.id
  key := l.key
  state := l.state
  landed := l.landed
  inFlight := l.inFlight
  missed := l.missed
  target := l.target

/-- A bin as QUERY of BINS gives it (R114). -/
def Bin.view (x : Bin) : BinView where
  state := x.state.tag
  suspicion := x.suspicion
  suspect := x.suspect
  eyeBlocked := x.eyeMark.isSome
  gate := x.gate
  lift := x.state.lift?.map Lift.binView

/-- QUERY of BINS (R114). -/
def execQueryBins (r : Req) (first : Nat) (s : State) : Host.Outcome State Fault Refusal :=
  .next (serveQuery r (.queryBins r first) .bins first (fun _ => 16)
    (fun s => .bins ((page first s.bins.toList).map Bin.view)) s)

/-- A HOLDING slot's lift as QUERY of STORED_LIFTS gives it; the pull is given on the setup port only
(R130). -/
def storedView (port : Port) (n : SlotNo) (l : Lift) : StoredLiftView where
  slot := n
  id := l.id
  key := l.key
  bin := l.bin
  landed := l.landed
  mean := l.mean
  max := l.moistureMax
  closeReason := l.closeReason
  closeOrder := l.closeOrder
  pull := if port = .setup then l.pull else none

/-- The HOLDING slots with their lifts, by slot number. -/
def holdingSlots (s : State) : List (SlotNo × Lift) :=
  allSlots.filterMap (fun n =>
    match s.slots[n].state with
    | .holding l => some (n, l)
    | _ => none)

/-- QUERY of STORED_LIFTS (R130). -/
def execQueryStoredLifts (r : Req) (first : Nat) (s : State) : Host.Outcome State Fault Refusal :=
  .next (serveQuery r (.queryStoredLifts r first) .storedLifts first (fun s => (holdingSlots s).length)
    (fun s => .storedLifts ((page first (holdingSlots s)).map (fun x => storedView r.port x.1 x.2))) s)

/-- A pull as QUERY of PULLS gives it: its line on the setup port only, and the slot of its lift while it is
ASSIGNED (R163). -/
def pullView (port : Port) (s : State) (p : Pull) : PullView where
  number := p.number
  line := if port = .setup then some p.line else none
  code := p.code
  bank := p.bank
  cls := p.cls
  arrival := p.arrival
  passCount := p.passCount
  state := p.state
  slot := if p.isAssigned then (slotOfPull s p.number).map (fun x => x.1) else none

/-- The pulls a port is told of, earliest arrival first (R163). -/
def shownPulls (port : Port) (s : State) : List Pull :=
  match port with
  | .line i => s.arbiter.pulls.filter (fun p => p.line == i)
  | _ => s.arbiter.pulls

/-- The expired-pull memories a port is told of (R163). -/
def shownExpired (port : Port) (s : State) : List (LineNo × List Nat) :=
  match port with
  | .line i => [(i, s.arbiter.expired[i])]
  | _ => allFour.map (fun i => (i, s.arbiter.expired[i]))

/-- QUERY of PULLS (R163). -/
def execQueryPulls (r : Req) (first : Nat) (s : State) : Host.Outcome State Fault Refusal :=
  .next (serveQuery r (.queryPulls r first) .pulls first (fun s => (shownPulls r.port s).length)
    (fun s => .pulls (shownExpired r.port s) ((page first (shownPulls r.port s)).map (pullView r.port s))) s)

/-- A slot's state as it is reported (R144). -/
def SlotState.tag : SlotState → SlotTag
  | .offline => .offline
  | .empty => .empty
  | .reserved b => .reserved b
  | .holding l => .holding l.id
  | .faulted => .faulted

/-- The items of QUERY of OUTFEED: the ejection queue in order, then slots 0 to 23 (R144). -/
def outfeedItems (s : State) : List OutfeedItem :=
  s.outfeed.queue.map (fun b =>
    .waiting b ((s.bin b).state.lift?.map (fun l => l.id)) ((s.bin b).state.lift?.bind (fun l => l.closeOrder)))
  ++ allSlots.map (fun n => .slot n s.slots[n].state.tag s.slots[n].eye)

/-- QUERY of OUTFEED (R144). -/
def execQueryOutfeed (r : Req) (first : Nat) (s : State) : Host.Outcome State Fault Refusal :=
  .next (serveQuery r (.queryOutfeed r first) .outfeed first (fun s => (outfeedItems s).length)
    (fun s => .outfeed s.outfeed.state s.outfeed.timer s.outfeed.timeout (page first (outfeedItems s))) s)

/-- The parameters of Table 0-3 with the active bank number and the edit bank (R183). -/
def settingsView (s : State) : SettingsView where
  geometry := s.geometry
  handoverTimeout := s.arbiter.handoverTimeout
  ejectTimeout := s.outfeed.timeout
  passLimit := s.arbiter.passLimit
  ranks := vmap (fun _ x => x.rank) s.arbiter.settings
  active := s.banks.active
  edit := s.banks.edit

/-- QUERY of SETTINGS (R74, R183). -/
def execQuerySettings (r : Req) (first : Nat) (s : State) : Host.Outcome State Fault Refusal :=
  .next (serveQuery r (.querySettings r first) .settings first (fun _ => 0)
    (fun s => .settings (settingsView s)) s)

/-- QUERY of LINES (R163, R183). -/
def execQueryLines (r : Req) (first : Nat) (s : State) : Host.Outcome State Fault Refusal :=
  .next (serveQuery r (.queryLines r first) .lines first (fun _ => 4)
    (fun s =>
      .lines s.arbiter.passLimit s.arbiter.handoverTimeout (page first s.arbiter.settings.toList)) s)

/-- QUERY of REFUSALS (R179). -/
def execQueryRefusals (r : Req) (first : Nat) (s : State) : Host.Outcome State Fault Refusal :=
  .next (serveQuery r (.queryRefusals r first) .refusals first (fun _ => 0) (fun s => .refusals s.refusal) s)

/-- A port as QUERY of PORTS gives it (R183). -/
def PortState.view (q : PortState) : PortView where
  errors := q.errors
  occupancy := q.queue.length
  lost := q.lost

/-- QUERY of PORTS (R176, R180). The ports are given in the order of Table 10-1: scan, line 0 to line 3, setup
(DESIGN CHOICE, log entry 28). -/
def execQueryPorts (r : Req) (first : Nat) (s : State) : Host.Outcome State Fault Refusal :=
  .next (serveQuery r (.queryPorts r first) .ports first (fun _ => 6)
    (fun s => .ports ((page first s.ports.toList).map PortState.view)) s)

/-- QUERY of MODE (R164). -/
def execQueryMode (r : Req) (first : Nat) (s : State) : Host.Outcome State Fault Refusal :=
  .next (serveQuery r (.queryMode r first) .mode first (fun _ => 0)
    (fun s => .mode s.mode s.events.list.length s.events.overflow) s)

/-! ### Requests that name nothing (R177, R183) -/

/-- The answer to a request of a kind value that names no request: INVALID, the refusal record unchanged
(R177). -/
def refuseUnknownKind (port : Port) (tag code : Byte) (s : State) : State :=
  queueReply port (.unknown code) tag (.refused .invalid none) s

/-- The answer to a QUERY of a subject value that names no subject: INVALID on the setup port, DENIED on every
other (R183; log entry 11). -/
def refuseUnknownSubject (port : Port) (tag : Byte) (s : State) : State :=
  if port = .setup then refuse ⟨port, tag, true⟩ .query .invalid s
  else refuseRecorded ⟨port, tag, true⟩ .query .denied none s

/-- UNKNOWN_REQUEST (R177, R183). -/
def execUnknownRequest (port : Port) (tag : Byte) (what : Unknown) (s : State) :
    Host.Outcome State Fault Refusal :=
  .next (takeFrame port (unknownFrame what tag)
    (match what with
      | .kind code => refuseUnknownKind port tag code
      | .subject _ => refuseUnknownSubject port tag) s)

end Sys2Proof.Machine
end

