-- ==== Sys2Proof/Machine/Tracking.lean ====
section
/-! DEFINITION. The travel pulse, the entry eye and the point passages (chapter 3, R50 to R67, R88 to R101). -/

namespace Sys2Proof.Machine

/-- The travel counter after one more millimetre (R50). -/
def countTravel (s : State) : State := setTracker (fun t => { t with travel := t.travel + 1 }) s

/-- TRAVEL_PULSE (R50): the count, and at that pulse every passage it brings (R51). The order between sheets, and
between sheets and bins, is the model's (DESIGN CHOICE, log entry 4). -/
def execTravelPulse (s : State) : Host.Outcome State Fault Refusal := .next (duePassages (countTravel s))

/-- A leading edge is closer behind the last trailing edge than the minimum gap (R55, case 2). -/
def crowds (s : State) : Bool :=
  match s.tracker.lastTrailing with
  | some m => decide (travelled s.tracker.travel m < s.geometry.minGap)
  | none => false

/-- The tracking entry a leading edge opens (R55). -/
def newEntry (s : State) : Entry where
  number := s.tracker.nextNumber
  lead := s.tracker.travel
  eyeLen := none
  state := if s.sync = .outOfStep then .toReject else .awaitReport
  verdict :=
    if s.sync = .outOfStep then some (.reject .outOfStep none)
    else if crowds s then some (.reject .crowded none)
    else none
  bank := none

/-- ENTRY_EYE_LEADING_EDGE (R53, R54, R55). An eye that is blocked already has no leading edge (section
3.2). -/
def execEntryEyeLeadingEdge (s : State) : Host.Outcome State Fault Refusal :=
  .next
    (if s.tracker.eye ≠ .clear then s
    else if s.mode ≠ .run then setTracker (fun t => { t with eye := .blockedUntracked }) s
    else if Config.maxEntries ≤ s.tracker.queue.length then
      finish
        (setMismatches 3 (raise .trackFull (setTracker (fun t => { t with eye := .blockedUntracked }) s)))
    else
      setTracker
        (fun t =>
          { t with
            eye := .blockedTracked, queue := t.queue ++ [newEntry s], nextNumber := t.nextNumber + 1 }) s)

/-- The eye length of a sheet: held at 65,535, and 1 for a difference of 0 (R56). -/
def eyeLength (e : Entry) (s : State) : Nat := min 65535 (max 1 (travelOf e s))

/-- The newest entry takes its eye length (R56). -/
def measureNewest (s : State) : State :=
  match s.tracker.queue.getLast? with
  | some e =>
    setTracker
      (fun t => { t with queue := t.queue.dropLast ++ [{ e with eyeLen := some (eyeLength e s) }] }) s
  | none => s

/-- ENTRY_EYE_TRAILING_EDGE (R56). An eye that is clear already has no trailing edge. -/
def execEntryEyeTrailingEdge (s : State) : Host.Outcome State Fault Refusal :=
  .next
    (if s.tracker.eye = .clear then s
    else
      setTracker (fun t => { t with eye := .clear, lastTrailing := some t.travel })
        (if s.tracker.eye = .blockedTracked then measureNewest s else s))

/-- DECISION_POINT_PASSAGE (R64). -/
def execDecisionPointPassage (entry : EntryId) (s : State) : Host.Outcome State Fault Refusal :=
  .next (passDecision s entry)

/-- GATE_OPEN_PASSAGE (R88). -/
def execGateOpenPassage (entry : EntryId) (s : State) : Host.Outcome State Fault Refusal :=
  .next (passGateOpen s entry)

/-- GATE_CLOSE_PASSAGE (R89). -/
def execGateClosePassage (entry : EntryId) (s : State) : Host.Outcome State Fault Refusal :=
  .next (passGateClose s entry)

/-- LANDING_WINDOW_END (R101). -/
def execLandingWindowEnd (entry : EntryId) (s : State) : Host.Outcome State Fault Refusal :=
  .next (passWindowEnd s entry)

/-- REDRY_GATE_OPEN_PASSAGE (R90). -/
def execRedryGateOpenPassage (entry : EntryId) (s : State) : Host.Outcome State Fault Refusal :=
  .next (passRedryOpen s entry)

/-- REDRY_GATE_CLOSE_PASSAGE (R67, R90). -/
def execRedryGateClosePassage (entry : EntryId) (s : State) : Host.Outcome State Fault Refusal :=
  .next (passRedryClose s entry)

/-- BELT_END_PASSAGE (R66). -/
def execBeltEndPassage (entry : EntryId) (s : State) : Host.Outcome State Fault Refusal :=
  .next (passBeltEnd s entry)

end Sys2Proof.Machine
end

