-- ==== Sys2Proof/Machine/Dispatch.lean ====
section
/-! DEFINITION. One arm for each command: the direct call of its meaning. -/

namespace Sys2Proof.Machine

/-- The effect of a command on everything but the queue of waiting commands. -/
def exec (i : Instr) (s : State) : Host.Outcome State Fault Refusal :=
  match i with
  | .sheetReport port tag payload => Sys2Proof.Machine.execSheetReport port tag payload s
  | .scanResync r => Sys2Proof.Machine.execScanResync r s
  | .selectBank r bank => Sys2Proof.Machine.execSelectBank r bank s
  | .writeClasses r places => Sys2Proof.Machine.execWriteClasses r places s
  | .writeWeights r weights => Sys2Proof.Machine.execWriteWeights r weights s
  | .writeLimits r redryLimit fullWidth => Sys2Proof.Machine.execWriteLimits r redryLimit fullWidth s
  | .writeGrade r pos rule => Sys2Proof.Machine.execWriteGrade r pos rule s
  | .deleteGrade r pos => Sys2Proof.Machine.execDeleteGrade r pos s
  | .clearBank r => Sys2Proof.Machine.execClearBank r s
  | .readBank r bank => Sys2Proof.Machine.execReadBank r bank s
  | .readGrade r bank pos => Sys2Proof.Machine.execReadGrade r bank pos s
  | .validate r bank => Sys2Proof.Machine.execValidate r bank s
  | .activate r bank => Sys2Proof.Machine.execActivate r bank s
  | .writeGeometry r param value => Sys2Proof.Machine.execWriteGeometry r param value s
  | .clearBin r bin => Sys2Proof.Machine.execClearBin r bin s
  | .binOnline r bin => Sys2Proof.Machine.execBinOnline r bin s
  | .binOffline r bin => Sys2Proof.Machine.execBinOffline r bin s
  | .closeBin r bin => Sys2Proof.Machine.execCloseBin r bin s
  | .forceClose r code cls => Sys2Proof.Machine.execForceClose r code cls s
  | .writeEjectTimeout r seconds => Sys2Proof.Machine.execWriteEjectTimeout r seconds s
  | .clearOutfeed r => Sys2Proof.Machine.execClearOutfeed r s
  | .slotOnline r slot => Sys2Proof.Machine.execSlotOnline r slot s
  | .slotOffline r slot => Sys2Proof.Machine.execSlotOffline r slot s
  | .clearSlot r slot => Sys2Proof.Machine.execClearSlot r slot s
  | .writeLine r line access force rank => Sys2Proof.Machine.execWriteLine r line access force rank s
  | .writePassLimit r limit => Sys2Proof.Machine.execWritePassLimit r limit s
  | .writeHandoverTimeout r seconds => Sys2Proof.Machine.execWriteHandoverTimeout r seconds s
  | .pull r code bank cls nowait => Sys2Proof.Machine.execPull r code bank cls nowait s
  | .release r number => Sys2Proof.Machine.execRelease r number s
  | .cancel r number => Sys2Proof.Machine.execCancel r number s
  | .start r => Sys2Proof.Machine.execStart r s
  | .drain r => Sys2Proof.Machine.execDrain r s
  | .stop r => Sys2Proof.Machine.execStop r s
  | .restart r => Sys2Proof.Machine.execRestart r s
  | .tallyRead r bank => Sys2Proof.Machine.execTallyRead r bank s
  | .tallyClear r => Sys2Proof.Machine.execTallyClear r s
  | .writeEventMask r mask => Sys2Proof.Machine.execWriteEventMask r mask s
  | .eventRead r count => Sys2Proof.Machine.execEventRead r count s
  | .queryTracker r first => Sys2Proof.Machine.execQueryTracker r first s
  | .queryBins r first => Sys2Proof.Machine.execQueryBins r first s
  | .queryStoredLifts r first => Sys2Proof.Machine.execQueryStoredLifts r first s
  | .queryPulls r first => Sys2Proof.Machine.execQueryPulls r first s
  | .queryOutfeed r first => Sys2Proof.Machine.execQueryOutfeed r first s
  | .querySettings r first => Sys2Proof.Machine.execQuerySettings r first s
  | .queryLines r first => Sys2Proof.Machine.execQueryLines r first s
  | .queryRefusals r first => Sys2Proof.Machine.execQueryRefusals r first s
  | .queryPorts r first => Sys2Proof.Machine.execQueryPorts r first s
  | .queryMode r first => Sys2Proof.Machine.execQueryMode r first s
  | .unknownRequest port tag what => Sys2Proof.Machine.execUnknownRequest port tag what s
  | .frameReceived port bytes => Sys2Proof.Machine.execFrameReceived port bytes s
  | .sendItem port => Sys2Proof.Machine.execSendItem port s
  | .travelPulse => Sys2Proof.Machine.execTravelPulse s
  | .entryEyeLeadingEdge => Sys2Proof.Machine.execEntryEyeLeadingEdge s
  | .entryEyeTrailingEdge => Sys2Proof.Machine.execEntryEyeTrailingEdge s
  | .decisionPointPassage entry => Sys2Proof.Machine.execDecisionPointPassage entry s
  | .gateOpenPassage entry => Sys2Proof.Machine.execGateOpenPassage entry s
  | .gateClosePassage entry => Sys2Proof.Machine.execGateClosePassage entry s
  | .landingWindowEnd entry => Sys2Proof.Machine.execLandingWindowEnd entry s
  | .redryGateOpenPassage entry => Sys2Proof.Machine.execRedryGateOpenPassage entry s
  | .redryGateClosePassage entry => Sys2Proof.Machine.execRedryGateClosePassage entry s
  | .beltEndPassage entry => Sys2Proof.Machine.execBeltEndPassage entry s
  | .eyeStuckPassage bin => Sys2Proof.Machine.execEyeStuckPassage bin s
  | .landedEyeBlocked bin => Sys2Proof.Machine.execLandedEyeBlocked bin s
  | .landedEyeClears bin => Sys2Proof.Machine.execLandedEyeClears bin s
  | .drainCompletion bin => Sys2Proof.Machine.execDrainCompletion bin s
  | .endOfDrain => Sys2Proof.Machine.execEndOfDrain s
  | .ejectionStart => Sys2Proof.Machine.execEjectionStart s
  | .slotEyeBlocked slot => Sys2Proof.Machine.execSlotEyeBlocked slot s
  | .slotEyeClears slot => Sys2Proof.Machine.execSlotEyeClears slot s
  | .ejectTimeout => Sys2Proof.Machine.execEjectTimeout s
  | .handoverExpired line => Sys2Proof.Machine.execHandoverExpired line s
  | .fullReset pins => Sys2Proof.Machine.execFullReset pins s
  | .interByteGapTimeout port => Sys2Proof.Machine.execInterByteGapTimeout port s
  | .partFrameEnds port => Sys2Proof.Machine.execPartFrameEnds port s

end Sys2Proof.Machine
end

