-- ==== Sys2Proof/WellFormed.lean ====
section
/-! DEFINITION. What a command must meet to be one that a link can carry. -/

namespace Sys2Proof

/-- A kind value that names no request is not SHEET_REPORT's (R184). -/
def Unknown.wellFormed : Unknown → Bool
  | .kind code => code != 0x21#8
  | .subject _ => true

/-- An UNKNOWN_REQUEST names nothing. -/
def Instr.unknownOk : Instr → Bool
  | .unknownRequest _ _ what => what.wellFormed
  | _ => true

/-- A command is well formed: no list it carries is longer than a frame's payload (R176), and an
UNKNOWN_REQUEST does not carry a kind value known to be a request's. -/
def Instr.wellFormed (i : Instr) : Bool :=
  i.listLengths.all (fun n => decide (n ≤ Config.maxPayload)) && i.unknownOk

end Sys2Proof
end

