-- ==== Sys2Proof/Safety.lean ====
section
/-! DEFINITION. The terms the statements use: what a reply leaves, what the belt's events leave alone, and the
invariants of the machine. -/

namespace Sys2Proof.Machine

/-! ### Requests and replies -/

/-- The port's buffer freed and `x` queued behind what the port's queue holds: all that a request's taking and
its one reply do to the ports (R177). -/
def answeredPorts (p : Port) (x : Item) (s : State) : Vector PortState 6 :=
  vset s.ports p.idx { s.port p with buffer := none, queue := (s.port p).queue ++ [x] }

/-- The state with nothing changed but the ports as one reply leaves them. -/
def answered (p : Port) (x : Item) (s : State) : State := { s with ports := answeredPorts p x s }

/-- The DONE reply to a request (R178). -/
def doneItem (r : Req) (k : ReqKind) (x : Result) : Item := .reply (.request k) r.tag (.done x)

/-- The REFUSED reply to a request, without a failure report (R178). -/
def refusedItem (r : Req) (k : ReqKind) (why : RefusalReason) : Item :=
  .reply (.request k) r.tag (.refused why none)

/-- The ports as a notice to a line leaves them: queued behind what the line's queue holds, or, when it holds 16,
dropped with the notice-lost mark set (R180). -/
def noticed (i : LineNo) (n : Notice) (s : State) : Vector PortState 6 :=
  vset s.ports (Port.line i).idx
    (if (s.port (.line i)).queue.length < 16 then
      { s.port (.line i) with queue := (s.port (.line i)).queue ++ [.notice n] }
    else { s.port (.line i) with lost := true })

/-- A request can be taken: its port's outgoing queue has a free place and its frame stands in the receive buffer
(R177). -/
structure CanTake (r : Req) (k : ReqKind) (c : Instr) (s : State) : Prop where
  place : s.hasPlace r.port = true
  waits : s.holdsFrame r.port (requestFrame r k c) = true

/-- The command is a request that can be taken. -/
def Taken (c : Instr) (s : State) : Prop :=
  match c.request? with
  | some (r, k) => CanTake r k c s
  | none => False

/-- A request can be taken and passes the port-class rights and the form check (R177, R179). -/
structure CanServe (r : Req) (k : ReqKind) (c : Instr) (s : State) : Prop extends CanTake r k c s where
  right : mayMake r.port k = true
  formed : r.formed = true

/-- The command is a request that is taken and passes the port-class rights and the form check. -/
def Admitted (c : Instr) (s : State) : Prop :=
  match c.request? with
  | some (r, k) => CanServe r k c s
  | none => False

/-- A bank write is taken and passes the checks of R33 that come before its own field checks. -/
structure WriteAdmitted (c : Instr) (s : State) : Prop where
  admitted : Admitted c s
  unprotected : s.banks.active ≠ some s.banks.edit

/-- A line's request is taken on its line port with a payload in form. -/
structure LineAdmitted (r : Req) (i : LineNo) (c : Instr) (s : State) : Prop where
  port : r.port = .line i
  taken : Taken c s
  formed : r.formed = true

/-- A QUERY of a subject is taken and accepted: the rights, the form and the first item number (R183). -/
structure QueryAdmitted (r : Req) (c : Instr) (subject : Subject) (first count : Nat) (s : State) : Prop where
  taken : Taken c s
  right : mayQuery r.port subject = true
  formed : r.formed = true
  first : firstAccepted first count = true

/-- The QUERY of a subject. -/
def queryOf (r : Req) (first : Nat) : Subject → Instr
  | .tracker => .queryTracker r first
  | .bins => .queryBins r first
  | .storedLifts => .queryStoredLifts r first
  | .pulls => .queryPulls r first
  | .outfeed => .queryOutfeed r first
  | .settings => .querySettings r first
  | .lines => .queryLines r first
  | .refusals => .queryRefusals r first
  | .ports => .queryPorts r first
  | .mode => .queryMode r first

/-- The item count of a subject, as a port is told it (R183). -/
def itemCount (p : Port) (s : State) : Subject → Nat
  | .tracker => s.tracker.queue.length
  | .bins => 16
  | .storedLifts => (holdingSlots s).length
  | .pulls => (shownPulls p s).length
  | .outfeed => s.outfeed.queue.length + 24
  | .settings => 0
  | .lines => 4
  | .refusals => 0
  | .ports => 6
  | .mode => 0

/-- The target that a refusal DENIED or PROTECTED records, by the kind of the request (R179). -/
def refusalTarget (edit : BankNo) : Instr → Option Target
  | .writeClasses _ _ => some (.bank edit.val)
  | .writeWeights _ _ => some (.bank edit.val)
  | .writeLimits _ _ _ => some (.bank edit.val)
  | .writeGrade _ _ _ => some (.bank edit.val)
  | .deleteGrade _ _ => some (.bank edit.val)
  | .clearBank _ => some (.bank edit.val)
  | .selectBank _ k => some (.bank k)
  | .readBank _ k => some (.bank k)
  | .readGrade _ k _ => some (.bank k)
  | .validate _ k => some (.bank k)
  | .activate _ k => some (.bank k)
  | .tallyRead _ k => k.map Target.bank
  | .clearBin _ b => some (.bin b)
  | .binOnline _ b => some (.bin b)
  | .binOffline _ b => some (.bin b)
  | .closeBin _ b => some (.bin b)
  | .writeGeometry _ (.binPosition b) _ => some (.bin b)
  | .slotOnline _ n => some (.slot n)
  | .slotOffline _ n => some (.slot n)
  | .clearSlot _ n => some (.slot n)
  | .writeLine _ n _ _ _ => some (.line n)
  | .pull _ c _ _ _ => some (.grade c)
  | .forceClose _ c _ => some (.grade c)
  | _ => none

/-- The state with one port's record replaced. -/
def withPort (p : Port) (q : PortState) (s : State) : State := { s with ports := vset s.ports p.idx q }

/-- The request refused DENIED or PROTECTED: one reply, and the refusal record overwritten (R179). -/
def refusedRecorded (p : Port) (tag : Byte) (k : ReqKind) (why : RefusalReason) (target : Option Target)
    (s : State) : State :=
  { answered p (.reply (.request k) tag (.refused why none)) s with refusal := some ⟨p, k, target⟩ }

/-- The state after an accepted write that leaves the edit bank as `b`, with its DONE reply (R33). -/
def bankWritten (r : Req) (k : ReqKind) (b : Bank) (s : State) : State :=
  answered r.port (doneItem r k (.written s.banks.edit b.state b.rules.length))
    { s with banks := { s.banks with bank := vset s.banks.bank s.banks.edit b } }

/-- The field checks of WRITE_GRADE: the lines of R37, and the density limit's range of Table 2-1. The width class
and accept partial name a value by their types. -/
structure GradeWriteFormed (rules : List GradeRule) (pos : Nat) (g : GradeRule) : Prop where
  position : pos ≤ 11 ∧ pos ≤ rules.length
  code : 1 ≤ g.code ∧ g.code ≤ 250
  unique : ∀ i x, rules[i]? = some x → i ≠ pos → x.code ≠ g.code
  classes : 1 ≤ g.classes.length ∧ g.classes.length ≤ 4 ∧ g.classes.Nodup ∧ ∀ c ∈ g.classes, c ≤ 3
  moisture : g.moistureMin ≤ 300 ∧ g.moistureMax ≤ 300
  density : g.densityLimit ≤ 65535
  counts : ∀ k n, g.countLimit.get k = some n → n ≤ 32
  sizes : ∀ k, 1 ≤ g.sizeLimit.get k ∧ g.sizeLimit.get k ≤ 999
  spill : ∀ c, g.spill = some c → 1 ≤ c ∧ c ≤ 250
  bins : 1 ≤ g.bins.length ∧ g.bins.length ≤ 4 ∧ g.bins.Nodup ∧ ∀ b ∈ g.bins, b ≤ 15
  target : 20 ≤ g.target ∧ g.target ≤ 600
  shortMin : 1 ≤ g.shortMin ∧ g.shortMin ≤ g.target

/-- Everything about a bank but its state. -/
def Bank.contents (b : Bank) : Bank := { b with state := .edited }

/-- The place of a kind's code in Table 10-5: the kinds of Table 1-2 from 0. -/
def kindCode (k : DefectKind) : Byte := BitVec.ofNat 8 (allKinds.idxOf k)

/-- The four bytes of one defect (Table 10-5). -/
def defectBytes (d : Defect) : List Byte :=
  kindCode d.kind :: toBe16 d.size ++ [match d.zone with | .centre => 0#8 | .edge => 1#8]

/-- The payload of a SHEET_REPORT as Table 10-5 lays it out; bit 0 of `flags` is the partial flag. -/
def reportBytes (x : SheetData) (flags : Byte) : List Byte :=
  toBe16 x.length ++ toBe16 x.width ++ toBe16 x.thickness
  ++ [BitVec.ofNat 8 x.readings.length, BitVec.ofNat 8 x.defects.length, flags]
  ++ x.readings.flatMap toBe16 ++ x.defects.flatMap defectBytes

/-- A SHEET_REPORT payload is malformed (R2), against the layout of Table 10-5: with `r` the reading count at offset
6 and `d` the defect count at offset 7, defect `i` begins at offset 9 + 2r + 4i with its kind code and ends with its
zone code. -/
def Malformed (payload : List Byte) : Prop :=
  payload.length < 9
  ∨ ∃ r d : Byte, payload[6]? = some r ∧ payload[7]? = some d
    ∧ (payload.length ≠ 9 + 2 * r.toNat + 4 * d.toNat
      ∨ r.toNat = 0 ∨ 8 < r.toNat ∨ 32 < d.toNat
      ∨ ∃ (i : Nat) (code : Byte), i < d.toNat
          ∧ (payload[9 + 2 * r.toNat + 4 * i]? = some code ∧ 7 < code.toNat
            ∨ payload[9 + 2 * r.toNat + 4 * i + 3]? = some code ∧ 1 < code.toNat))

/-- A frame as Table 10-4 lays it out. -/
def framed (kind tag : Byte) (payload : List Byte) : List Byte :=
  [0xC3#8, kind, tag, BitVec.ofNat 8 payload.length] ++ payload
  ++ checkBytes ([kind, tag, BitVec.ofNat 8 payload.length] ++ payload)

/-- The reason codes of R186. -/
def reasonCodes : List (RejectReason × Byte) :=
  [(.offGauge, 1), (.noGrade, 2), (.mismatch, 3), (.ungraded, 4), (.crowded, 5), (.outOfStep, 6), (.noBin, 7),
    (.redryMissed, 8), (.binLost, 9), (.modeStop, 10)]

/-! ### Geometry writes (R75, R76) -/

/-- A value lies in its parameter's range (Table 4-1). -/
def InTableRange (x : Nat) : GeomParam → Prop
  | .decisionDistance => 500 ≤ x ∧ x ≤ 6000
  | .gateLead => x ≤ 500
  | .gateHold => x ≤ 500
  | .landingAllowance => 100 ≤ x ∧ x ≤ 2000
  | .eyeStuck => 1000 ≤ x ∧ x ≤ 20000
  | .minGap => x ≤ 500
  | .lengthTolerance => 5 ≤ x ∧ x ≤ 200
  | .binPosition _ => 1000 ≤ x ∧ x ≤ 40000
  | .redryGate => 1000 ≤ x ∧ x ≤ 40000
  | .beltEnd => 2000 ≤ x ∧ x ≤ 60000

/-- The form of a geometry write (R75): a bin of 0 to 15, and a value in range, or UNSET for the redry gate. -/
structure GeomWriteFormed (p : GeomParam) (v : Option Nat) : Prop where
  bin : ∀ n, p = .binPosition n → n ≤ 15
  unset : v = none → p = .redryGate
  range : ∀ x, v = some x → InTableRange x p

/-- A bin's position breaks the first relation of R76: position less gate lead is not beyond the decision
distance. -/
def BreaksDecision (g : Geometry) (b : BinNo) : Prop :=
  ∃ x, g.binPosition[b] = some x ∧ ¬g.decisionDistance < x - g.gateLead

/-- A position breaks the second or third relation of R76: it and the belt end are set, and it is not short of the
belt end. -/
def BreaksBeltEnd (g : Geometry) (position : Option Nat) : Prop :=
  ∃ x e, position = some x ∧ g.beltEnd = some e ∧ ¬x < e

/-- The first bin, by bin number, that breaks a relation. -/
structure FirstBreaking (broken : BinNo → Prop) (b : BinNo) : Prop where
  breaks : broken b
  first : ∀ c : BinNo, c < b → ¬broken c

/-- The conflict that a write of a parameter which leaves the geometry `g` names (the table of R76; log entry 23): of a
bin position the decision relation first, of the belt end every bin first and then the redry gate. -/
def ConflictNamed (g : Geometry) (c : GeomConflict) : GeomParam → Prop
  | .decisionDistance => ∃ b, FirstBreaking (BreaksDecision g) b ∧ c = .bin .binBeyondDecision b
  | .gateLead => ∃ b, FirstBreaking (BreaksDecision g) b ∧ c = .bin .binBeyondDecision b
  | .binPosition _ =>
    (∃ b, FirstBreaking (BreaksDecision g) b ∧ c = .bin .binBeyondDecision b)
    ∨ (∀ b, ¬BreaksDecision g b)
      ∧ ∃ b, FirstBreaking (fun b => BreaksBeltEnd g g.binPosition[b]) b ∧ c = .bin .binBeforeBeltEnd b
  | .beltEnd =>
    (∃ b, FirstBreaking (fun b => BreaksBeltEnd g g.binPosition[b]) b ∧ c = .bin .binBeforeBeltEnd b)
    ∨ (∀ b : BinNo, ¬BreaksBeltEnd g g.binPosition[b])
      ∧ BreaksBeltEnd g g.redryGate ∧ c = .redryGate .redryBeforeBeltEnd
  | .redryGate => BreaksBeltEnd g g.redryGate ∧ c = .redryGate .redryBeforeBeltEnd
  | .gateHold => False
  | .landingAllowance => False
  | .eyeStuck => False
  | .minGap => False
  | .lengthTolerance => False

/-! ### What the events of the belt, the bins, the outfeed and the slots leave alone -/

/-- What no event of the belt, the bins or the outfeed changes, whatever else it does. -/
structure BeltFrame (s t : State) : Prop where
  travel : t.tracker.travel = s.tracker.travel
  number : t.tracker.nextNumber = s.tracker.nextNumber
  trailing : t.tracker.lastTrailing = s.tracker.lastTrailing
  banks : t.banks = s.banks
  geometry : t.geometry = s.geometry
  arbiter : t.arbiter = s.arbiter
  ports : t.ports = s.ports
  refusal : t.refusal = s.refusal
  pending : t.pending = s.pending
  mask : t.events.mask = s.events.mask
  timeout : t.outfeed.timeout = s.outfeed.timeout
  binEyes : ∀ b : BinNo, (t.bin b).eyeMark = (s.bin b).eyeMark
  slotEyes : ∀ n : SlotNo, t.slots[n].eye = s.slots[n].eye
  mode : t.mode = s.mode ∨ s.mode = .drain ∧ t.mode = .idle

/-- What a matching pass leaves alone (R152, R153). -/
structure PassFrame (s t : State) : Prop where
  tracker : t.tracker = s.tracker
  banks : t.banks = s.banks
  geometry : t.geometry = s.geometry
  bins : t.bins = s.bins
  redryGate : t.redryGate = s.redryGate
  store : t.store = s.store
  outfeed : t.outfeed = s.outfeed
  mode : t.mode = s.mode
  tallies : t.tallies = s.tallies
  events : t.events = s.events
  refusal : t.refusal = s.refusal
  pending : t.pending = s.pending
  scan : t.port .scan = s.port .scan
  setup : t.port .setup = s.port .setup

/-- The entry eye after entries have been removed (R52): a sheet under the eye whose entry, the newest, is gone is
untracked, and otherwise the eye state is as it was. -/
structure EyeFollows (s t : State) : Prop where
  removed : ∀ e, s.tracker.eye = .blockedTracked → s.tracker.queue.getLast? = some e →
    e.id ∉ t.tracker.queue.map Entry.id → t.tracker.eye = .blockedUntracked
  left : ∀ e, s.tracker.queue.getLast? = some e → e.id ∈ t.tracker.queue.map Entry.id →
    t.tracker.eye = s.tracker.eye
  untracked : s.tracker.eye ≠ .blockedTracked → t.tracker.eye = s.tracker.eye

/-- What entry into OUT_OF_STEP does with the queue (R69): every AWAIT_REPORT entry but the one that the third
mismatch itself concerns becomes TO_REJECT OUT_OF_STEP, one that lies at the belt end being removed at once (R66), and
entries in other states stay. -/
structure OutOfStepEntered (own : Option EntryId) (s t : State) : Prop where
  swept : ∀ e ∈ s.tracker.queue, e.state = .awaitReport → own ≠ some e.id → atBeltEnd e s = false →
    { e with state := .toReject, verdict := some (.reject .outOfStep none) } ∈ t.tracker.queue
  removed : ∀ e ∈ s.tracker.queue, e.state = .awaitReport → own ≠ some e.id → atBeltEnd e s = true →
    e.id ∉ t.tracker.queue.map Entry.id
  kept : ∀ e ∈ s.tracker.queue, e.state ≠ .awaitReport → own ≠ some e.id → e ∈ t.tracker.queue
  order : (t.tracker.queue.map Entry.id).Sublist (s.tracker.queue.map Entry.id)

/-- The events of one mismatch more, from a count of at most 2 (R68): SYNC_CHANGED at the first and at the third. -/
def mismatchEvents (s : State) : EventLog :=
  if s.tracker.mismatches = 0 then s.events.append (.syncChanged .doubtful)
  else if s.tracker.mismatches = 2 then s.events.append (.syncChanged .outOfStep)
  else s.events

/-! ### Acts made in turn -/

/-- An act made for each item of a list, in its order, each on the state that the one before left. -/
def InTurn {α : Type} (act : α → State → State → Prop) : List α → State → State → Prop
  | [], s, t => t = s
  | a :: rest, s, t => ∃ u, act a s u ∧ InTurn act rest u t

/-- Commands run one after the other. -/
def execAll : List Instr → State → Host.Outcome State Fault Refusal
  | [], s => .next s
  | c :: rest, s =>
    match exec c s with
    | .next t => execAll rest t
    | .fault f => .fault f
    | .refused r => .refused r

/-- The passages of one sheet, in the order of its points (Table 3-1; log entry 4). -/
def sheetPassages (n : EntryId) : List Instr :=
  [.decisionPointPassage n, .gateOpenPassage n, .redryGateOpenPassage n, .gateClosePassage n, .landingWindowEnd n,
    .redryGateClosePassage n, .beltEndPassage n]

/-- The passages that a travel pulse may bring: those of the sheets, oldest first, and then the stuck eyes of the
bins (R51; log entry 4). -/
def pulsePassages (s : State) : List Instr :=
  s.tracker.queue.flatMap (fun e => sheetPassages e.id) ++ allBins.map .eyeStuckPassage

/-- The passages that a write of a nearer distance may bring: one for each sheet, oldest first, or for each bin
(R64, R66, R78). -/
def nearerCommands (p : GeomParam) (s : State) : List Instr :=
  match p with
  | .decisionDistance => s.tracker.queue.map (fun e => .decisionPointPassage e.id)
  | .beltEnd => s.tracker.queue.map (fun e => .beltEndPassage e.id)
  | .landingAllowance => s.tracker.queue.map (fun e => .landingWindowEnd e.id)
  | .eyeStuck => allBins.map .eyeStuckPassage
  | _ => []

/-! ### Routing, and the loss of a bin (R80 to R86, R92, R93) -/

/-- A bin is eligible for a key: room and reach, and it is not the lost bin (R81). -/
structure CanTakeSheet (s : State) (key : Key) (travel : Nat) (lost : Option BinNo) (b : BinNo) : Prop where
  room : (s.bin b).state = .ready
    ∨ ∃ l, (s.bin b).state = .filling l ∧ l.key = key ∧ l.landed + l.inFlight < l.target
  reach : ∃ p, s.geometry.binPosition[b] = some p ∧ travel < p - s.geometry.gateLead
  other : lost ≠ some b

/-- The pass of the table of R82 that accepts an eligible bin. -/
def passOf (s : State) (b : BinNo) : Nat :=
  (if (s.bin b).state = .ready then 2 else 1)
  + (if (s.bin b).suspicion = 1 ∨ (s.bin b).suspicion = 2 then 2 else 0)

/-- The first eligible bin that the four passes over a list meet (R82). -/
structure FirstMet (s : State) (key : Key) (travel : Nat) (lost : Option BinNo) (bins : List BinNo) (b : BinNo) :
    Prop where
  eligible : CanTakeSheet s key travel lost b
  place : ∃ before after, bins = before ++ b :: after
    ∧ (∀ c ∈ before, CanTakeSheet s key travel lost c → passOf s b < passOf s c)
    ∧ ∀ c ∈ after, CanTakeSheet s key travel lost c → passOf s b ≤ passOf s c

/-- What a bin becomes that takes one more sheet: the sheet is in flight for its lift, or for one newly opened, and
the commit that reaches the target drains it FULL (R85, R86, R117). -/
def Commits (s : State) (b : BinNo) (key : Key) (target : Nat) (after : BinState) : Prop :=
  ∃ l : Lift,
    ((s.bin b).state = .filling l ∧ l.key = key
      ∨ (s.bin b).state = .ready ∧ l = newLift (freshLiftId s) key b target)
    ∧ after
        = if l.landed + (l.inFlight + 1) = l.target
          then .drainClose .full { l with inFlight := l.inFlight + 1 }
          else .filling { l with inFlight := l.inFlight + 1 }

/-- No two entries are of one sheet (R57). -/
def EntriesDistinct (s : State) : Prop := (s.tracker.queue.map Entry.id).Nodup

/-- The re-routing of one ROUTED entry of the lost bin `b` (R92): the search of R79 with that bin excluded. -/
structure Rerouted (b : BinNo) (e : Entry) (s t : State) : Prop where
  toBin : ∀ v c key target p, e.verdict = some v →
    planRoute s e.bank v (travelOf e s) (some b) = .bin c key target → s.geometry.binPosition[c] = some p →
    findEntry e.id t
      = some { e with
          state := .routed c (e.lead + mm (p - s.geometry.gateLead)) (e.lead + mm (p + s.geometry.gateHold)) }
    ∧ Commits s c key target (t.bin c).state
  toBelt : ∀ v why x, e.verdict = some v →
    planRoute s e.bank v (travelOf e s) (some b) = .beltEnd why x → atBeltEnd e s = false →
    findEntry e.id t = some { e with state := .toReject, verdict := some (.reject why x) }
  noVerdict : e.verdict = none → t = s
  others : ∀ n, n ≠ e.id → findEntry n t = findEntry n s
  bins : ∀ c, c ≠ b →
    (∀ v key target, e.verdict = some v →
      planRoute s e.bank v (travelOf e s) (some b) ≠ .bin c key target) →
    t.bin c = s.bin c

/-- What becomes of the entries of a lost bin: `s` is the state that the fault finds, and `t` the state its event
leaves (R92, R93). -/
structure BinLost (b : BinNo) (s t : State) : Prop where
  /-- The ROUTED entries are re-routed one at a time, oldest first, each seeing the bins as the one before left
  them. -/
  rerouted : ∃ u, InTurn (Rerouted b) (s.tracker.queue.filter (Entry.routedTo b)) s u
    ∧ (∀ e ∈ u.tracker.queue, e.landingAt b = false → e ∈ t.tracker.queue)
    ∧ (s.mode ≠ .drain ∨ t.tracker.queue ≠ [] →
        ∀ c, c ≠ b → (∀ l, (u.bin c).state ≠ .fullWait l) → (t.bin c).state = (u.bin c).state)
  /-- Each LANDING entry becomes REJECT BIN_LOST with its computed values kept. -/
  landing : ∀ e ∈ s.tracker.queue, e.landingAt b = true → atBeltEnd e s = false →
    { e with
      state := .toReject
      verdict := some (.reject .binLost (e.verdict.bind Verdict.values)) } ∈ t.tracker.queue
  /-- None of them is left for the bin. -/
  gone : ∀ e ∈ t.tracker.queue, e.landingAt b = false ∧ (e.routedTo b = true → e.verdict = none)
  /-- Every other entry stays as it is, and the order is kept. -/
  kept : ∀ e ∈ s.tracker.queue, e.routedTo b = false → e.landingAt b = false → e ∈ t.tracker.queue
  order : (t.tracker.queue.map Entry.id).Sublist (s.tracker.queue.map Entry.id)
  /-- The lost lift's in-flight count falls by one for each. -/
  inFlight : ∀ why l m, (s.bin b).state.lift? = some l → (t.bin b).state = .faulted why (some m) →
    (∀ e ∈ s.tracker.queue, e.routedTo b = true → e.verdict ≠ none) →
    m.inFlight
      = l.inFlight
        - ((s.tracker.queue.filter (Entry.routedTo b)).length
          + (s.tracker.queue.filter (Entry.landingAt b)).length)

/-- The end of a drain on the state `u` that the event's own work leaves: the FILLING bins close SHIFT_END, or give
up a lift on which nothing has landed, and the mode is IDLE (R167). -/
structure DrainEnded (u t : State) : Prop where
  mode : t.mode = .idle
  empty : t.tracker.queue = []
  discarded : ∀ b l, (u.bin b).state = .filling l → l.inFlight = 0 → l.landed = 0 → (t.bin b).state = .ready
  closed : ∀ b l, (u.bin b).state = .filling l → l.inFlight = 0 → l.landed ≠ 0 →
    ∃ m, ((t.bin b).state = .fullWait m ∨ (t.bin b).state = .ejecting m)
      ∧ m.id = l.id ∧ m.landed = l.landed ∧ m.closeReason = some .shiftEnd
  none : ∀ b l, (t.bin b).state ≠ .filling l

/-! ### The matching pass (R148, R152, R153) -/

/-- A pull is a candidate for a lift: WAITING, matching its key, its line with no ASSIGNED pull (R148, R152). -/
structure CandidateFor (s : State) (l : Lift) (p : Pull) : Prop where
  waiting : p.state = .waiting
  code : p.code = l.key.code
  bank : ∀ k, p.bank = some k → k = l.key.bank.val
  cls : ∀ c, p.cls = some c → c = l.key.cls
  lineFree : ∀ q ∈ s.arbiter.pulls, q.line = p.line → q.state = .waiting

/-- A candidate's effective rank: 4 when its pass count has reached the pass limit, else its line's rank (R152). -/
def rankOf (s : State) (p : Pull) : Nat :=
  if p.passCount = s.arbiter.passLimit then 4 else s.arbiter.settings[p.line].rank

/-- One candidate stands before another: the higher effective rank, and among equals the earlier arrival (R152). -/
def StandsBefore (s : State) (p q : Pull) : Prop :=
  rankOf s q < rankOf s p ∨ rankOf s p = rankOf s q ∧ seqEarlier p.arrival q.arrival = true

/-- The assignment of the lift `l` in slot `n` to the pull `w` (R153): the lift names the pull, the pull is ASSIGNED
with its timer at the handover timeout, every other candidate's pass count rises by one up to the limit, and the
notice is queued or lost. -/
structure GivenTo (n : SlotNo) (l : Lift) (w : Pull) (s t : State) : Prop where
  slots : t.slots
    = vset s.slots n { s.slots[n] with state := .holding { l with state := .assigned, pull := some w.number } }
  arbiter : t.arbiter = { s.arbiter with pulls := t.arbiter.pulls }
  length : t.arbiter.pulls.length = s.arbiter.pulls.length
  winner : ∀ (i : Nat) (p : Pull), s.arbiter.pulls[i]? = some p → p.number = w.number →
    t.arbiter.pulls[i]? = some { p with state := .assigned l.id (s.arbiter.handoverTimeout * 1000) }
  passed : ∀ (i : Nat) (p : Pull), s.arbiter.pulls[i]? = some p → p.number ≠ w.number → CandidateFor s l p →
    t.arbiter.pulls[i]? = some { p with passCount := min s.arbiter.passLimit (p.passCount + 1) }
  others : ∀ (i : Nat) (p : Pull), s.arbiter.pulls[i]? = some p → p.number ≠ w.number → ¬CandidateFor s l p →
    t.arbiter.pulls[i]? = some p
  notice : t.port (.line w.line)
    = if (s.port (.line w.line)).queue.length < 16 then
        { s.port (.line w.line) with
          queue := (s.port (.line w.line)).queue
            ++ [.notice (.assigned w.number l.id n l.key l.landed (l.moistureSum / l.landed))] }
      else { s.port (.line w.line) with lost := true }
  ports : ∀ p : Port, p ≠ .line w.line → t.port p = s.port p
  rest : t = { s with slots := t.slots, arbiter := t.arbiter, ports := t.ports }

/-- One STORED lift of a pass: given to the candidate that stands before every other, or left (R152). -/
structure Matched (n : SlotNo) (s t : State) : Prop where
  left : ∀ l, s.slots[n].state = .holding l → (∀ p ∈ s.arbiter.pulls, ¬CandidateFor s l p) → t = s
  given : ∀ l w, s.slots[n].state = .holding l → w ∈ s.arbiter.pulls → CandidateFor s l w →
    (∀ q ∈ s.arbiter.pulls, CandidateFor s l q → q ≠ w → StandsBefore s w q) → GivenTo n l w s t

/-- Two close orders are held by the STORED lifts of two slots. -/
def StoredWith (s : State) (n : SlotNo) (o : SeqNo) : Prop :=
  ∃ l, s.slots[n].state = .holding l ∧ l.state = .stored ∧ l.closeOrder = some o

/-- A matching pass: the STORED lifts in turn, the earliest close order first (R152, R153). Close orders order the
lifts while they lie within half the counter's range (R123). -/
def MatchingPass (s t : State) : Prop :=
  ∃ order : List SlotNo, order.Nodup
    ∧ (∀ n, n ∈ order ↔ ∃ l, s.slots[n].state = .holding l ∧ l.state = .stored)
    ∧ ((∀ n ∈ order, ∃ o, StoredWith s n o ∧ (s.store.closeCounter - o).toNat < 2 ^ 31) →
        (∀ m n o, StoredWith s m o → StoredWith s n o → m = n) →
        order.Pairwise (fun m n => ∀ a b, StoredWith s m a → StoredWith s n b → seqEarlier a b = true))
    ∧ InTurn Matched order s t

/-! ### The order of the ejection queue (R131) -/

/-- The ejection queue stands in the order of its lifts' close orders, earliest first (R131). -/
def EjectionInOrder (s : State) : Prop :=
  s.outfeed.queue.Pairwise (fun b c => seqEarlier (closeOrderOf s b) (closeOrderOf s c) = true)

/-- A bin holds a lift that waits for the outfeed or that CLEAR_BIN would send there, of a close order. -/
def WaitsWith (s : State) (b : BinNo) (o : SeqNo) : Prop :=
  ∃ l, ((s.bin b).state = .fullWait l ∨ ∃ why, (s.bin b).state = .faulted why (some l) ∧ l.state ≠ .opened)
    ∧ l.closeOrder = some o

/-- The closed lifts of the bins have close orders of their own, all of which R123 compares with one another and
with the next ones. -/
structure CloseOrdersComparable (s : State) : Prop where
  present : ∀ b l, (s.bin b).state = .fullWait l → ∃ o, l.closeOrder = some o
  presentFaulted : ∀ b why l, (s.bin b).state = .faulted why (some l) → l.state ≠ .opened →
    ∃ o, l.closeOrder = some o
  recent : ∀ b o, WaitsWith s b o → (s.store.closeCounter - o).toNat < 2 ^ 31 - 64
  distinct : ∀ b c o, WaitsWith s b o → WaitsWith s c o → b = c

/-! ### Invariants -/

/-- A bank is ACTIVE exactly when the active bank number names it (R30). -/
def ActiveBankNamed (s : State) : Prop :=
  ∀ k : BankNo, s.banks.bank[k].state = .active ↔ s.banks.active = some k

/-- Every gate output stands as R89 and R90 say it does. -/
def GatesUpToDate (s : State) : Prop :=
  (∀ b : BinNo, (s.bin b).gate = gateDue s b) ∧ s.redryGate = redryDue s

/-- The lift id a bin's record carries. -/
def binLiftId (s : State) (b : BinNo) : Option Nat := (s.bin b).state.lift?.map (fun l => l.id)

/-- The lift a slot holds. -/
def SlotState.lift? : SlotState → Option Lift
  | .holding l => some l
  | _ => none

/-- The lift id a slot's record carries. -/
def slotLiftId (s : State) (n : SlotNo) : Option Nat := s.slots[n].state.lift?.map (fun l => l.id)

/-- No two lift records in use carry the same id (R116). -/
def LiftIdsDistinct (s : State) : Prop :=
  (∀ b c : BinNo, ∀ i : Nat, binLiftId s b = some i → binLiftId s c = some i → b = c)
  ∧ (∀ m n : SlotNo, ∀ i : Nat, slotLiftId s m = some i → slotLiftId s n = some i → m = n)
  ∧ (∀ b : BinNo, ∀ n : SlotNo, ∀ i : Nat, binLiftId s b = some i → slotLiftId s n ≠ some i)

/-- A bin's state is FULL_WAIT. -/
def BinState.isFullWait : BinState → Bool
  | .fullWait _ => true
  | _ => false

/-- A bin's state is EJECTING. -/
def BinState.isEjecting : BinState → Bool
  | .ejecting _ => true
  | _ => false

/-- The outfeed, the ejection queue, the bins and the slots agree (R131, R132), and no ejection that could start
has been left unstarted (R135). -/
structure OutfeedConsistent (s : State) : Prop where
  waiting : ∀ b : BinNo, b ∈ s.outfeed.queue ↔ (s.bin b).state.isFullWait = true
  once : s.outfeed.queue.Nodup
  busyBin : ∀ b : BinNo, (s.bin b).state.isEjecting = true ↔ ∃ n, s.outfeed.state = .busy b n
  busySlot : ∀ (b : BinNo) (n : SlotNo), s.slots[n].state = .reserved b ↔ s.outfeed.state = .busy b n
  started : ¬(s.outfeed.state = .free ∧ s.outfeed.queue ≠ [] ∧ ∃ n : SlotNo, s.slots[n].state = .empty)

/-- No STORED lift has a candidate pull (R153). -/
def NoCandidateLeft (s : State) : Prop :=
  ∀ (n : SlotNo) (l : Lift), s.slots[n].stored? = some l → ∀ p ∈ s.arbiter.pulls, isCandidate s l p = false

/-- An ASSIGNED lift and exactly one ASSIGNED pull name each other, and a line has at most one (R153); no two pulls
carry the same number (R147). -/
structure HandoversPaired (s : State) : Prop where
  numbers : (s.arbiter.pulls.map (fun p => p.number)).Nodup
  onePerLine : ∀ p ∈ s.arbiter.pulls, ∀ q ∈ s.arbiter.pulls, p.state ≠ .waiting → q.state ≠ .waiting →
    p.line = q.line → p = q
  lifts : ∀ (n : SlotNo) (l : Lift), s.slots[n].state = .holding l →
    l.state = .stored ∧ l.pull = none
    ∨ l.state = .assigned ∧ ∃ p ∈ s.arbiter.pulls, l.pull = some p.number ∧ ∃ left, p.state = .assigned l.id left
  pulls : ∀ p ∈ s.arbiter.pulls, ∀ lift left, p.state = .assigned lift left →
    ∃ (n : SlotNo) (l : Lift), s.slots[n].state = .holding l ∧ l.id = lift ∧ l.state = .assigned
      ∧ l.pull = some p.number
  oneSlot : ∀ (m n : SlotNo) (l k : Lift) (number : Nat), s.slots[m].state = .holding l →
    s.slots[n].state = .holding k → l.pull = some number → k.pull = some number → m = n
  bins : ∀ (b : BinNo) (l : Lift), (s.bin b).state.lift? = some l → l.pull = none

/-- A lift's in-flight count is the number of entries ROUTED to its bin or LANDING for it, and every other bin has no
such entry; only a FILLING or DRAIN_CLOSE bin has any (R118). -/
structure InFlightCounted (s : State) : Prop where
  counted : ∀ b : BinNo,
    (s.tracker.queue.filter (fun e => e.routedTo b || e.landingAt b)).length
      = (match (s.bin b).state.lift? with
        | some l => l.inFlight
        | none => 0)
  onlyOpen : ∀ (b : BinNo) (l : Lift), (s.bin b).state.lift? = some l → (s.bin b).state.takesSheets = false →
    l.inFlight = 0
  judged : ∀ (b : BinNo), ∀ e ∈ s.tracker.queue, e.routedTo b = true → e.verdict ≠ none

/-- While sync is OUT_OF_STEP no entry is AWAIT_REPORT (R69). -/
def SyncSwept (s : State) : Prop :=
  s.sync = .outOfStep → ∀ e ∈ s.tracker.queue, e.state ≠ .awaitReport

/-- In DRAIN the tracking queue is not empty (R167). -/
def DrainHasSheets (s : State) : Prop := s.mode = .drain → s.tracker.queue ≠ []

/-- The relations of R76 among the parameters that are set. -/
structure GeometryConsistent (g : Geometry) : Prop where
  beyondDecision : ∀ b : BinNo, ∀ p, g.binPosition[b] = some p → g.decisionDistance + g.gateLead < p
  beforeBeltEnd : ∀ b : BinNo, ∀ p e, g.binPosition[b] = some p → g.beltEnd = some e → p < e
  redryBeforeBeltEnd : ∀ p e, g.redryGate = some p → g.beltEnd = some e → p < e

/-- Every geometry parameter that is set lies in its range (Table 4-1). -/
structure GeometryInRange (g : Geometry) : Prop where
  decisionDistance : 500 ≤ g.decisionDistance ∧ g.decisionDistance ≤ 6000
  gateLead : g.gateLead ≤ 500
  gateHold : g.gateHold ≤ 500
  landingAllowance : 100 ≤ g.landingAllowance ∧ g.landingAllowance ≤ 2000
  eyeStuck : 1000 ≤ g.eyeStuck ∧ g.eyeStuck ≤ 20000
  minGap : g.minGap ≤ 500
  lengthTolerance : 5 ≤ g.lengthTolerance ∧ g.lengthTolerance ≤ 200
  binPosition : ∀ b : BinNo, ∀ p, g.binPosition[b] = some p → 1000 ≤ p ∧ p ≤ 40000
  redryGate : ∀ p, g.redryGate = some p → 1000 ≤ p ∧ p ≤ 40000
  beltEnd : ∀ e, g.beltEnd = some e → 2000 ≤ e ∧ e ≤ 60000

/-- The limits of the tracking queue (R57), the mismatch count (R68) and the suspicion counts (R95). -/
structure BeltLimits (s : State) : Prop where
  queue : s.tracker.queue.length ≤ Config.maxEntries
  mismatches : s.tracker.mismatches ≤ 3
  suspicion : ∀ b : BinNo, (s.bin b).suspicion ≤ 3

/-- The limits of the outgoing queues (R180), the frame error counts (R176) and the event list (R181). -/
structure ReportingLimits (s : State) : Prop where
  queues : ∀ p : Fin 6, s.ports[p].queue.length ≤ Config.maxItems
  errors : ∀ p : Fin 6, s.ports[p].errors ≤ 65535
  events : s.events.list.length ≤ Config.maxEvents

/-- The limits of the grade rule lists (R28), of a line's pulls (R147) and of the expired-pull memories
(R157). -/
structure RecipeAndPullLimits (s : State) : Prop where
  rules : ∀ k : BankNo, s.banks.bank[k].rules.length ≤ Config.maxRules
  pulls : ∀ i : LineNo, (pullsOf s i).length ≤ Config.maxPullsPerLine
  expired : ∀ i : LineNo, s.arbiter.expired[i].length ≤ Config.maxExpired

/-- Every shift tally is a 32-bit count (R172). -/
structure TallyLimits (s : State) : Prop where
  landed : ∀ i : Fin 250, s.tallies.landed[i] ≤ Config.tallyMax
  landedTotal : s.tallies.landedTotal ≤ Config.tallyMax
  redry : s.tallies.redry ≤ Config.tallyMax
  rejects : ∀ i : Fin 10, s.tallies.rejects[i] ≤ Config.tallyMax
  missed : s.tallies.missed ≤ Config.tallyMax
  stray : s.tallies.stray ≤ Config.tallyMax
  closed : ∀ i : Fin 5, s.tallies.closed[i] ≤ Config.tallyMax
  taken : s.tallies.taken ≤ Config.tallyMax
  unclaimed : s.tallies.unclaimed ≤ Config.tallyMax

end Sys2Proof.Machine
end

