-- ==== Sys2Proof/Certificates/Slice0/Obligations.lean ====
section
/-! DEFINITION. The statements for the provers, in the order of OBLIGATIONS.json. -/

open Sys2Proof Sys2Proof.Machine

/-! ### The step, the clock and reset -/

/-- The step with a command at the front of the queue is that command's effect on the state with the queue's
rest. -/
def Obligations.StepRunsFrontCommand : Prop :=
  ∀ (c : Instr) (rest : List Instr) (s : State), s.pending = c :: rest →
    step s = exec c { s with pending := rest }

/-- The model's choice (log entries 1 and 15): with no command waiting, one millisecond passes. While no timer runs
out the ports' gaps and the timers move, and nothing else. -/
def Obligations.IdleStepCountsOneMillisecond : Prop :=
  ∀ s : State, s.pending = [] →
    (∀ n, s.outfeed.timer = some n → 2 ≤ n) →
    (∀ p ∈ s.arbiter.pulls, ∀ lift n, p.state = .assigned lift n → 2 ≤ n) →
    ∃ t : State, step s = .next t
      ∧ t = { s with
              ports := t.ports
              outfeed := { s.outfeed with timer := s.outfeed.timer.map (fun n => n - 1) }
              arbiter :=
                { s.arbiter with
                  pulls :=
                    s.arbiter.pulls.map (fun p =>
                      match p.state with
                      | .assigned lift n => { p with state := .assigned lift (n - 1) }
                      | .waiting => p) } }
      ∧ ∀ p : Fin 6,
          (s.ports[p].receiver = .hunt ∨ s.ports[p].gapMs < 20 →
            t.ports[p] = { s.ports[p] with gapMs := min 21 (s.ports[p].gapMs + 1) })
          ∧ (s.ports[p].receiver ≠ .hunt ∧ 20 ≤ s.ports[p].gapMs →
            t.ports[p]
              = { s.ports[p] with
                  receiver := .hunt, errors := min 65535 (s.ports[p].errors + 1), gapMs := 21 })

/-- FULL_RESET leaves every block as its chapter says, whatever the state before (R171, Table 9-2). The
commands still waiting are the model's own queue, which it keeps (log entry 1). -/
def Obligations.FullResetClearsThePart : Prop :=
  ∀ (pins : Pins) (s : State), ∃ t : State, exec (.fullReset pins) s = .next t
    ∧ t.tracker
        = { travel := 0, queue := [], nextNumber := 0
            eye := if pins.entryEye then .blockedUntracked else .clear, lastTrailing := none, mismatches := 0 }
    ∧ (∀ k : BankNo,
        t.banks.bank[k]
          = { state := .empty, classes := Vector.replicate 4 none, weights := PerKind.all 0
              redryLimit := 300, fullWidth := 100, rules := [] })
    ∧ t.banks.active = none ∧ t.banks.edit = 0
    ∧ t.geometry
        = { decisionDistance := 1500, gateLead := 100, gateHold := 100, landingAllowance := 400
            eyeStuck := 4000, minGap := 50, lengthTolerance := 30, binPosition := Vector.replicate 16 none
            redryGate := none, beltEnd := none }
    ∧ (∀ b : BinNo,
        t.bin b
          = { state := .offline, suspicion := 0, eyeMark := if pins.landed[b] then some 0 else none
              gate := false, eject := false })
    ∧ t.redryGate = false
    ∧ t.store = { nextId := 1, closeCounter := 0 }
    ∧ t.outfeed = { state := .free, queue := [], timer := none, timeout := 30 }
    ∧ (∀ n : SlotNo, t.slots[n] = { state := .offline, eye := pins.slotEyes[n] })
    ∧ t.arbiter
        = { pulls := [], settings := Vector.replicate 4 ⟨.all, false, 0⟩, passLimit := 4
            handoverTimeout := 120, nextNumber := 1, arrivals := 0, expired := Vector.replicate 4 [] }
    ∧ t.mode = .idle
    ∧ t.tallies = Tallies.zero
    ∧ (∀ p : Fin 6,
        t.ports[p].receiver = .hunt ∧ t.ports[p].buffer = none ∧ t.ports[p].errors = 0
        ∧ t.ports[p].queue = [] ∧ t.ports[p].lost = false ∧ t.ports[p].sending = none
        ∧ t.ports[p].rate = pins.rates[p])
    ∧ t.events = { list := [], overflow := false, mask := allEvents }
    ∧ t.refusal = none
    ∧ t.pending = s.pending

/-- The state after reset meets every invariant that the later statements say each step keeps: of the banks, the gates,
the lift ids, the outfeed and the order of its queue, the handovers, the in-flight counts, scan sync, the entries and
the limits of every list, count and parameter. -/
def Obligations.ResetMeetsTheInvariants : Prop :=
  ActiveBankNamed State.reset ∧ GatesUpToDate State.reset ∧ LiftIdsDistinct State.reset
  ∧ OutfeedConsistent State.reset ∧ NoCandidateLeft State.reset ∧ BeltLimits State.reset
  ∧ ReportingLimits State.reset ∧ RecipeAndPullLimits State.reset ∧ TallyLimits State.reset
  ∧ GeometryConsistent State.reset.geometry ∧ GeometryInRange State.reset.geometry
  ∧ EjectionInOrder State.reset ∧ EntriesDistinct State.reset ∧ DrainHasSheets State.reset
  ∧ SyncSwept State.reset ∧ InFlightCounted State.reset ∧ HandoversPaired State.reset

/-! ### The links -/

/-- The bytes of one frame, arriving on a port that hunts, is not sending and has its buffer free, put exactly
that frame in the buffer, for every kind, tag and payload a frame can carry. -/
def Obligations.WholeFrameReceived : Prop :=
  ∀ (p : Port) (kind tag : Byte) (payload : List Byte) (bytes : List RxByte) (s : State),
    payload.length ≤ 240 →
    (s.port p).receiver = .hunt → (s.port p).sending = none → (s.port p).buffer = none →
    bytes.map (fun x => x.value) = frameBytes kind tag payload →
    (∀ x ∈ bytes.tail, x.late = false) →
    exec (.frameReceived p bytes) s
      = .next (withPort p { s.port p with gapMs := 0, buffer := some ⟨kind, tag, payload⟩ } s)

/-- A frame whose check is bad, a good frame that finds the buffer full, a length over 240 and a byte that comes
late are each discarded and counted once; bytes before a start mark, and bytes that arrive while the part sends,
are discarded uncounted. Each byte restarts the gap, which is counted in whole milliseconds (log entry 15), a byte
discarded while the part sends too (log entry 26). -/
def Obligations.BadFramesAreDiscarded : Prop :=
  ∀ (p : Port) (bytes : List RxByte) (s : State),
    let q := s.port p
    let counted : PortState := { q with receiver := .hunt, gapMs := 0, errors := min 65535 (q.errors + 1) }
    (∀ (kind tag : Byte) (payload check : List Byte), payload.length ≤ 240 → check.length = 2 →
      q.receiver = .hunt → q.sending = none →
      bytes.map (fun x => x.value)
        = [startMark, kind, tag, BitVec.ofNat 8 payload.length] ++ payload ++ check →
      (∀ x ∈ bytes.tail, x.late = false) →
      (check ≠ checkBytes ([kind, tag, BitVec.ofNat 8 payload.length] ++ payload) ∨ q.buffer ≠ none) →
      exec (.frameReceived p bytes) s = .next (withPort p counted s))
    ∧ (∀ kind tag len : Byte, 240 < len.toNat → q.receiver = .hunt → q.sending = none →
      bytes.map (fun x => x.value) = [startMark, kind, tag, len] →
      (∀ x ∈ bytes.tail, x.late = false) →
      exec (.frameReceived p bytes) s = .next (withPort p counted s))
    ∧ (∀ b : Byte, q.receiver ≠ .hunt → q.sending = none → bytes = [⟨b, true⟩] →
      exec (.frameReceived p bytes) s
        = .next (withPort p
            { counted with receiver := if b = startMark then .header [] else .hunt } s))
    ∧ (q.receiver = .hunt → q.sending = none → bytes ≠ [] → (∀ x ∈ bytes, x.value ≠ startMark) →
      exec (.frameReceived p bytes) s = .next (withPort p { q with gapMs := 0 } s))
    ∧ (q.sending ≠ none → bytes ≠ [] →
      exec (.frameReceived p bytes) s = .next (withPort p { q with gapMs := 0 } s))

/-- INTER_BYTE_GAP_TIMEOUT discards a frame in progress; PART_FRAME_ENDS leaves the receiver hunting; SEND_ITEM
takes the oldest item with the notice-lost mark as it stands, and a reply clears the mark. The millisecond of silence
that SEND_ITEM needs is counted in whole milliseconds (log entry 15), and the timeout as a command acts at whatever
gap the model's clock holds (log entry 10). -/
def Obligations.GapAndSending : Prop :=
  ∀ (p : Port) (s : State),
    let q := s.port p
    (q.receiver ≠ .hunt →
      exec (.interByteGapTimeout p) s
        = .next (withPort p { q with receiver := .hunt, errors := min 65535 (q.errors + 1) } s))
    ∧ (q.receiver = .hunt → exec (.interByteGapTimeout p) s = .next s)
    ∧ (q.sending ≠ none →
      exec (.partFrameEnds p) s = .next (withPort p { q with sending := none, receiver := .hunt } s))
    ∧ (q.sending = none → exec (.partFrameEnds p) s = .next s)
    ∧ (∀ (x : Item) (rest : List Item), q.queue = x :: rest → q.sending = none → q.receiver = .hunt →
      1 ≤ q.gapMs →
      exec (.sendItem p) s
        = .next (withPort p
            { q with
              queue := rest, sending := some ⟨x, q.lost, x.frame q.lost⟩
              lost := if x.isReply then false else q.lost } s))
    ∧ (q.queue = [] ∨ q.sending ≠ none ∨ q.receiver ≠ .hunt ∨ q.gapMs = 0 →
      exec (.sendItem p) s = .next s)

/-- Every frame the part sends is 6 bytes longer than its payload, which is at most 240 bytes, and carries the
payload's length. The DONE reply to a SHEET_REPORT is the frame of kind 0x80 and the request's tag whose 19 payload
bytes are those of Table 10-6, in its order; the ASSIGNED, TAKEN and EXPIRED notices are the frames of kinds 0x90, 0x91
and 0x92 and tag 0 whose 13, 6 and 6 payload bytes are those of Table 10-7. The request kinds have distinct values in
0x01 to 0x7F, SHEET_REPORT's being 0x21. -/
def Obligations.FrameLayouts : Prop :=
  (∀ (mark : Bool) (x : Item), ∃ body : List Byte, body.length ≤ 239
    ∧ x.frame mark
        = [startMark, x.kind, x.tag, BitVec.ofNat 8 (body.length + 1), if mark then 1#8 else 0#8]
          ++ body
          ++ checkBytes
              ([x.kind, x.tag, BitVec.ofNat 8 (body.length + 1), if mark then 1#8 else 0#8] ++ body)
    ∧ (x.frame mark).length = 7 + body.length)
  ∧ (∀ (mark : Bool) (tag entry : Byte) (goal : SheetGoal) (clamped : Bool) (x : Computed),
      let one := fun n : Nat => BitVec.ofNat 8 n
      let two := fun n : Nat => [BitVec.ofNat 8 (n / 256), BitVec.ofNat 8 n]
      let reply := fun v : Verdict =>
        Item.frame mark (.reply (.request .sheetReport) tag (.done (.sheet entry v goal clamped)))
      let status : Byte := if mark then 1 else 0
      let clampBit : Nat := if clamped then 2 else 0
      let route : Byte :=
        match goal with
        | .bin b => one b.val
        | .redryGate => 0x10
        | .beltEnd => 0x11
      let values := two x.area ++ two x.total ++ two x.density ++ two x.meanM ++ two x.maxM
      (∀ code cls : Nat,
        reply (.graded code cls x)
          = framed 0x80 tag
              ([status, 0x21, entry, 0, one code, one cls, 0, one (1 + clampBit), route] ++ values))
      ∧ reply (.redry x)
          = framed 0x80 tag ([status, 0x21, entry, 1, 0, 0xFF, 0, one (1 + clampBit), route] ++ values)
      ∧ ∀ c ∈ reasonCodes,
          reply (.reject c.1 (some x))
            = framed 0x80 tag ([status, 0x21, entry, 2, 0, 0xFF, c.2, one (1 + clampBit), route] ++ values)
          ∧ reply (.reject c.1 none)
            = framed 0x80 tag
                [status, 0x21, entry, 2, 0, 0xFF, c.2, one clampBit, route, 0, 0, 0, 0, 0, 0, 0, 0, 0, 0])
  ∧ (∀ why : RejectReason, ∃ c ∈ reasonCodes, c.1 = why)
  ∧ (∀ (mark : Bool) (pull lift : Nat) (slot : SlotNo) (key : Key) (landed mean : Nat),
      let one := fun n : Nat => BitVec.ofNat 8 n
      let two := fun n : Nat => [BitVec.ofNat 8 (n / 256), BitVec.ofNat 8 n]
      let head := [if mark then 1#8 else 0#8] ++ two pull ++ two lift ++ [one slot.val]
      Item.frame mark (.notice (.assigned pull lift slot key landed mean))
        = framed 0x90 0
            (head ++ [one key.bank.val, one key.code, one key.cls] ++ two landed ++ two mean)
      ∧ Item.frame mark (.notice (.taken pull lift slot)) = framed 0x91 0 head
      ∧ Item.frame mark (.notice (.expired pull lift slot)) = framed 0x92 0 head)
  ∧ (∀ j k : ReqKind, kindByte j = kindByte k → j = k)
  ∧ (∀ k : ReqKind, 1 ≤ (kindByte k).toNat ∧ (kindByte k).toNat ≤ 0x7F)
  ∧ kindByte .sheetReport = 0x21#8

/-- A frame of a kind value that names no request is taken and refused INVALID, with the refusal record unchanged; a
QUERY of an unknown subject is refused INVALID on the setup port and DENIED on every other. A frame of a kind that is
a request's is not taken so, and no reply's or notice's kind value is one (log entry 11). -/
def Obligations.UnknownRequestRefused : Prop :=
  (∀ (p : Port) (tag : Byte) (what : Unknown) (f : Frame) (s : State), s.hasPlace p = true →
    (s.port p).buffer = some f → f.tag = tag →
    (∀ code : Byte, what = .kind code → f.kind = code → (∀ k : ReqKind, kindByte k ≠ code) →
      exec (.unknownRequest p tag what) s
        = .next (answered p (.reply (.unknown code) tag (.refused .invalid none)) s))
    ∧ (∀ code : Byte, what = .kind code → (f.kind ≠ code ∨ ∃ k : ReqKind, kindByte k = code) →
      exec (.unknownRequest p tag what) s = .next s)
    ∧ (∀ code : Byte, what = .subject code → f.kind = kindByte .query → p = .setup →
      exec (.unknownRequest p tag what) s
        = .next (answered p (.reply (.request .query) tag (.refused .invalid none)) s))
    ∧ (∀ code : Byte, what = .subject code → f.kind = kindByte .query → p ≠ .setup →
      exec (.unknownRequest p tag what) s
        = .next (refusedRecorded p tag .query .denied none s)))
  ∧ ∀ k : ReqKind, kindByte k ∉ [0x80#8, 0x81#8, 0x90#8, 0x91#8, 0x92#8]

/-- No request is taken on a port whose outgoing queue has no free place, and none where the receive buffer holds no
frame of it (log entry 2): nothing changes. -/
def Obligations.FullQueueHoldsRequestsBack : Prop :=
  (∀ (c : Instr) (r : Req) (k : ReqKind) (s : State), c.request? = some (r, k) →
    (s.hasPlace r.port = false ∨ (s.port r.port).buffer = none
      ∨ ∃ f, (s.port r.port).buffer = some f ∧ (f.kind ≠ kindByte k ∨ f.tag ≠ r.tag)) →
    exec c s = .next s)
  ∧ (∀ (tag : Byte) (payload : List Byte) (f : Frame) (p : Port) (s : State), (s.port p).buffer = some f →
      f.payload ≠ payload → exec (.sheetReport p tag payload) s = .next s)
  ∧ ∀ (p : Port) (tag : Byte) (what : Unknown) (s : State),
      (s.hasPlace p = false ∨ (s.port p).buffer = none ∨ ∃ f, (s.port p).buffer = some f ∧ f.tag ≠ tag) →
      exec (.unknownRequest p tag what) s = .next s

/-- A request that the port's class may not make is refused DENIED with the refusal record overwritten, and changes
nothing else; the record holds the target that the request names whether or not its payload is in form, which is the
model's choice (log entry 27). One that it may make and whose payload is out of form is refused INVALID and changes
nothing else, once the checks that come before the form have passed (log entry 3): the protection of the active bank
in a bank write and the force-close right in FORCE_CLOSE. -/
def Obligations.PortRightsDenied : Prop :=
  ∀ (c : Instr) (r : Req) (k : ReqKind) (s : State), c.request? = some (r, k) → Taken c s → k ≠ .query →
    (mayMake r.port k = false →
      exec c s = .next (refusedRecorded r.port r.tag k .denied (refusalTarget s.banks.edit c) s))
    ∧ (mayMake r.port k = true → r.formed = false →
      (k ∈ [ReqKind.writeClasses, .writeWeights, .writeLimits, .writeGrade, .deleteGrade, .clearBank] →
        s.banks.active ≠ some s.banks.edit) →
      (k = .forceClose → ∀ i, r.port = .line i → s.arbiter.settings[i].force = true) →
      exec c s = .next (answered r.port (refusedItem r k .invalid) s))

/-- Each QUERY that is accepted answers with its subject's fields, item count and items, and changes nothing but
the ports. A QUERY of a known subject is refused DENIED on a port without the right to it, and INVALID when its
payload is out of form (log entry 3) or its first item number is at or beyond the item count, but for 0 of none. The
order of the items of PORTS is the model's choice (log entry 28), that of the setup port's PULLS log entry 22's. -/
def Obligations.QueriesReportWithoutChange : Prop :=
  ∀ (r : Req) (first : Nat) (s : State),
    (∀ x : Subject,
      (mayQuery .scan x = true ↔ x = .tracker)
      ∧ (∀ i, mayQuery (.line i) x = true ↔ x = .bins ∨ x = .storedLifts ∨ x = .pulls)
      ∧ mayQuery .setup x = true
      ∧ (Taken (queryOf r first x) s →
        (mayQuery r.port x = false →
          exec (queryOf r first x) s = .next (refusedRecorded r.port r.tag .query .denied none s))
        ∧ (mayQuery r.port x = true →
          (r.formed = false ∨ itemCount r.port s x ≤ first ∧ ¬(first = 0 ∧ itemCount r.port s x = 0)) →
          exec (queryOf r first x) s = .next (answered r.port (refusedItem r .query .invalid) s))))
    ∧
    let reply : Nat → QueryData → Host.Outcome State Fault Refusal := fun count data =>
      .next (answered r.port (doneItem r .query (.query count first data)) s)
    (QueryAdmitted r (.queryTracker r first) .tracker first s.tracker.queue.length s →
      exec (.queryTracker r first) s
        = reply s.tracker.queue.length
            (.tracker s.tracker.travel s.sync s.tracker.mismatches s.tracker.eye s.tracker.nextNumber
              s.redryGate (((s.tracker.queue.drop first).take 8).map Entry.view)))
    ∧ (QueryAdmitted r (.queryBins r first) .bins first 16 s →
      exec (.queryBins r first) s
        = reply 16 (.bins (((s.bins.toList.drop first).take 8).map Bin.view)))
    ∧ (QueryAdmitted r (.queryStoredLifts r first) .storedLifts first (holdingSlots s).length s →
      exec (.queryStoredLifts r first) s
        = reply (holdingSlots s).length
            (.storedLifts
              ((((holdingSlots s).drop first).take 8).map (fun x => storedView r.port x.1 x.2))))
    ∧ (QueryAdmitted r (.queryPulls r first) .pulls first (shownPulls r.port s).length s →
      exec (.queryPulls r first) s
        = reply (shownPulls r.port s).length
            (.pulls (shownExpired r.port s)
              ((((shownPulls r.port s).drop first).take 8).map (pullView r.port s))))
    ∧ (QueryAdmitted r (.queryOutfeed r first) .outfeed first (s.outfeed.queue.length + 24) s →
      exec (.queryOutfeed r first) s
        = reply (s.outfeed.queue.length + 24)
            (.outfeed s.outfeed.state s.outfeed.timer s.outfeed.timeout
              (((outfeedItems s).drop first).take 8)))
    ∧ (QueryAdmitted r (.querySettings r first) .settings first 0 s →
      exec (.querySettings r first) s = reply 0 (.settings (settingsView s)))
    ∧ (QueryAdmitted r (.queryLines r first) .lines first 4 s →
      exec (.queryLines r first) s
        = reply 4
            (.lines s.arbiter.passLimit s.arbiter.handoverTimeout
              ((s.arbiter.settings.toList.drop first).take 8)))
    ∧ (QueryAdmitted r (.queryRefusals r first) .refusals first 0 s →
      exec (.queryRefusals r first) s = reply 0 (.refusals s.refusal))
    ∧ (QueryAdmitted r (.queryPorts r first) .ports first 6 s →
      exec (.queryPorts r first) s
        = reply 6 (.ports (((s.ports.toList.drop first).take 8).map PortState.view)))
    ∧ (QueryAdmitted r (.queryMode r first) .mode first 0 s →
      exec (.queryMode r first) s = reply 0 (.mode s.mode s.events.list.length s.events.overflow))

/-! ### The recipe banks -/

/-- WRITE_LIMITS replaces both limits or, when either is out of range, neither; the evaluator reads both, and
nothing but the edit bank and the reply changes. -/
def Obligations.WriteLimitsReplacesBoth : Prop :=
  (∀ (r : Req) (redryLimit fullWidth : Nat) (s : State), WriteAdmitted (.writeLimits r redryLimit fullWidth) s →
    (redryLimit ≤ 300 → 100 ≤ fullWidth → fullWidth ≤ 1400 →
      exec (.writeLimits r redryLimit fullWidth) s
        = .next (bankWritten r .writeLimits
            { s.editBank with redryLimit := redryLimit, fullWidth := fullWidth, state := .edited } s))
    ∧ (300 < redryLimit ∨ fullWidth < 100 ∨ 1400 < fullWidth →
      exec (.writeLimits r redryLimit fullWidth) s
        = .next (answered r.port (refusedItem r .writeLimits .invalid) s)))
  ∧ ∀ (bank : Bank) (x : SheetData),
      ((∃ v, evaluate bank x = .redry v) ↔ bank.redryLimit < moistureMaxOf x.readings)
      ∧ (widthClassOf bank x.width = .full ↔ bank.fullWidth ≤ x.width)
      ∧ (widthClassOf bank x.width = .strip ↔ x.width < bank.fullWidth)

/-- WRITE_CLASSES, WRITE_WEIGHTS, DELETE_GRADE and CLEAR_BANK replace the part of the edit bank they name, with
their field checks, and change nothing else but the reply. -/
def Obligations.BankWritesReplaceContents : Prop :=
  ∀ (r : Req) (s : State),
    (∀ a b c d : Option ClassRange, WriteAdmitted (.writeClasses r [a, b, c, d]) s →
      (∀ x ∈ [a, b, c, d], ∀ y, x = some y →
        500 ≤ y.lo ∧ y.lo ≤ 6000 ∧ 500 ≤ y.hi ∧ y.hi ≤ 6000) →
      exec (.writeClasses r [a, b, c, d]) s
        = .next (bankWritten r .writeClasses
            { s.editBank with classes := #v[a, b, c, d], state := .edited } s))
    ∧ (∀ places : List (Option ClassRange), WriteAdmitted (.writeClasses r places) s →
      (places.length ≠ 4 ∨ ∃ y, some y ∈ places ∧ (y.lo < 500 ∨ 6000 < y.lo ∨ y.hi < 500 ∨ 6000 < y.hi)) →
      exec (.writeClasses r places) s
        = .next (answered r.port (refusedItem r .writeClasses .invalid) s))
    ∧ (∀ a b c d e f g h : Byte, WriteAdmitted (.writeWeights r [a, b, c, d, e, f, g, h]) s →
      exec (.writeWeights r [a, b, c, d, e, f, g, h]) s
        = .next (bankWritten r .writeWeights
            { s.editBank with
              weights :=
                { soundKnot := a.toNat, openKnot := b.toNat, hole := c.toNat, split := d.toNat
                  pitch := e.toNat, stain := f.toNat, rough := g.toNat, edgeBreak := h.toNat }
              state := .edited } s))
    ∧ (∀ weights : List Byte, WriteAdmitted (.writeWeights r weights) s → weights.length ≠ 8 →
      exec (.writeWeights r weights) s
        = .next (answered r.port (refusedItem r .writeWeights .invalid) s))
    ∧ (∀ (before after : List GradeRule) (x : GradeRule), WriteAdmitted (.deleteGrade r before.length) s →
      s.editBank.rules = before ++ x :: after → before.length ≤ 11 →
      exec (.deleteGrade r before.length) s
        = .next (bankWritten r .deleteGrade
            { s.editBank with rules := before ++ after, state := .edited } s))
    ∧ (∀ pos : Nat, WriteAdmitted (.deleteGrade r pos) s → (11 < pos ∨ s.editBank.rules.length ≤ pos) →
      exec (.deleteGrade r pos) s
        = .next (answered r.port (refusedItem r .deleteGrade .invalid) s))
    ∧ (WriteAdmitted (.clearBank r) s →
      exec (.clearBank r) s
        = .next (bankWritten r .clearBank
            { state := .empty, classes := Vector.replicate 4 none, weights := PerKind.all 0
              redryLimit := 300, fullWidth := 100, rules := [] } s))

/-- WRITE_GRADE replaces the rule at its position, or appends it at the end of the list, when every check of R37
holds, and is refused INVALID when one fails. -/
def Obligations.WriteGradePlacesRule : Prop :=
  ∀ (r : Req) (pos : Nat) (g : GradeRule) (s : State), WriteAdmitted (.writeGrade r pos g) s →
    (GradeWriteFormed s.editBank.rules pos g → pos < s.editBank.rules.length →
      exec (.writeGrade r pos g) s
        = .next (bankWritten r .writeGrade
            { s.editBank with rules := s.editBank.rules.set pos g, state := .edited } s))
    ∧ (GradeWriteFormed s.editBank.rules pos g → pos = s.editBank.rules.length →
      exec (.writeGrade r pos g) s
        = .next (bankWritten r .writeGrade
            { s.editBank with rules := s.editBank.rules ++ [g], state := .edited } s))
    ∧ (¬GradeWriteFormed s.editBank.rules pos g →
      exec (.writeGrade r pos g) s
        = .next (answered r.port (refusedItem r .writeGrade .invalid) s))

/-- Each of the six bank writes is refused PROTECTED while the edit bank is the active bank, whatever its fields,
with the refusal record overwritten and nothing else changed. -/
def Obligations.ProtectedBankWritesRefused : Prop :=
  ∀ (c : Instr) (r : Req) (k : ReqKind) (s : State),
    c.request? = some (r, k) → r.port = .setup → Taken c s →
    k ∈ [ReqKind.writeClasses, .writeWeights, .writeLimits, .writeGrade, .deleteGrade, .clearBank] →
    s.banks.active = some s.banks.edit →
    exec c s = .next (refusedRecorded .setup r.tag k .protectedBank (some (.bank s.banks.edit.val)) s)

/-- SELECT_BANK sets the edit bank; READ_BANK and READ_GRADE report and change nothing; VALIDATE makes a bank that
passes VALID, or leaves it ACTIVE, and refuses one that fails with its report and no change; ACTIVATE of the active
bank changes nothing, and of a bank that fails is refused likewise; a bank number outside 0 to 3 or a rank position
out of range is refused INVALID. -/
def Obligations.SelectReadAndValidateBanks : Prop :=
  ∀ (r : Req) (s : State),
    (∀ k : BankNo, Admitted (.selectBank r k.val) s →
      exec (.selectBank r k.val) s
        = .next (answered r.port (doneItem r .selectBank (.selected k s.banks.bank[k].state))
            { s with banks := { s.banks with edit := k } }))
    ∧ (∀ n, 4 ≤ n → Admitted (.selectBank r n) s →
      exec (.selectBank r n) s = .next (answered r.port (refusedItem r .selectBank .invalid) s))
    ∧ (∀ k : BankNo, Admitted (.readBank r k.val) s →
      exec (.readBank r k.val) s
        = .next (answered r.port
            (doneItem r .readBank
              (.bankContents s.banks.bank[k].state (s.banks.active == some k)
                s.banks.bank[k].classes s.banks.bank[k].weights s.banks.bank[k].redryLimit
                s.banks.bank[k].fullWidth s.banks.bank[k].rules.length
                (s.banks.bank[k].rules.map (fun g => g.code)))) s))
    ∧ (∀ n, 4 ≤ n → Admitted (.readBank r n) s →
      exec (.readBank r n) s = .next (answered r.port (refusedItem r .readBank .invalid) s))
    ∧ (∀ (k : BankNo) (pos : Nat) (g : GradeRule), Admitted (.readGrade r k.val pos) s →
      s.banks.bank[k].rules[pos]? = some g → pos ≤ 11 →
      exec (.readGrade r k.val pos) s
        = .next (answered r.port (doneItem r .readGrade (.gradeContents g)) s))
    ∧ (∀ (k : BankNo) (pos : Nat), Admitted (.readGrade r k.val pos) s →
      (11 < pos ∨ s.banks.bank[k].rules.length ≤ pos) →
      exec (.readGrade r k.val pos) s = .next (answered r.port (refusedItem r .readGrade .invalid) s))
    ∧ (∀ n pos, 4 ≤ n → Admitted (.readGrade r n pos) s →
      exec (.readGrade r n pos) s = .next (answered r.port (refusedItem r .readGrade .invalid) s))
    ∧ (∀ k : BankNo, Admitted (.validate r k.val) s → validationOf s.geometry s.banks.bank[k] = none →
      ∃ x : BankState, x = (if s.banks.bank[k].state = .active then .active else .valid)
      ∧ exec (.validate r k.val) s
        = .next (answered r.port (doneItem r .validate (.validated k x))
            { s with
              banks :=
                { s.banks with bank := vset s.banks.bank k { s.banks.bank[k] with state := x } } }))
    ∧ (∀ (k : BankNo) (f : ValidationFailure), Admitted (.validate r k.val) s →
      validationOf s.geometry s.banks.bank[k] = some f →
      exec (.validate r k.val) s
        = .next (answered r.port
            (.reply (.request .validate) r.tag (.refused .invalid (some (.validation f)))) s))
    ∧ (∀ n, 4 ≤ n → Admitted (.validate r n) s →
      exec (.validate r n) s = .next (answered r.port (refusedItem r .validate .invalid) s))
    ∧ (∀ k : BankNo, Admitted (.activate r k.val) s → s.banks.active = some k →
      exec (.activate r k.val) s
        = .next (answered r.port (doneItem r .activate (.activated k none [])) s))
    ∧ (∀ (k : BankNo) (f : ValidationFailure), Admitted (.activate r k.val) s → s.banks.active ≠ some k →
      validationOf s.geometry s.banks.bank[k] = some f →
      exec (.activate r k.val) s
        = .next (answered r.port
            (.reply (.request .activate) r.tag (.refused .invalid (some (.validation f)))) s))
    ∧ (∀ n, 4 ≤ n → Admitted (.activate r n) s →
      exec (.activate r n) s = .next (answered r.port (refusedItem r .activate .invalid) s))

/-- A bank passes validation exactly when it holds a rule, no present class is reversed, no two present classes
share a thickness, and every rule has its moisture range in order, a spill grade of a later rule and bins whose
positions are set. A bank that fails is reported by the first check that fails, in the order of Table 2-4: no rule; the
first reversed class; the first pair of classes that overlap, by the lower class and then by the higher, with the later
as the position and the earlier as the detail; or of the first rule that fails its moisture range, its spill grade or
the first bin of its list whose position is unset, in that order. -/
def Obligations.ValidationPassesExactly : Prop :=
  (∀ (g : Geometry) (b : Bank), validationOf g b = none ↔
    b.rules ≠ []
    ∧ (∀ (i : Fin 4) (x : ClassRange), b.classes[i] = some x → x.lo ≤ x.hi)
    ∧ (∀ (i j : Fin 4) (x y : ClassRange), i < j → b.classes[i] = some x → b.classes[j] = some y →
        x.hi < y.lo ∨ y.hi < x.lo)
    ∧ ∀ (i : Nat) (x : GradeRule), b.rules[i]? = some x →
        x.moistureMin ≤ x.moistureMax
        ∧ (∀ c, x.spill = some c → ∃ j y, i < j ∧ b.rules[j]? = some y ∧ y.code = c)
        ∧ ∀ n ∈ x.bins, (g.positionOf n).isSome = true)
  ∧ ∀ (g : Geometry) (b : Bank),
    let ordered := fun i : Fin 4 => ∀ x, b.classes[i] = some x → x.lo ≤ x.hi
    let apart := fun i j : Fin 4 =>
      ∀ x y, b.classes[i] = some x → b.classes[j] = some y → x.hi < y.lo ∨ y.hi < x.lo
    let moistureOk := fun x : GradeRule => x.moistureMin ≤ x.moistureMax
    let spillOk := fun (x : GradeRule) (later : List GradeRule) =>
      ∀ c, x.spill = some c → ∃ y ∈ later, y.code = c
    let placed := fun n : Nat => g.positionOf n ≠ none
    (b.rules = [] → validationOf g b = some .ruleCount)
    ∧ (∀ i : Fin 4, b.rules ≠ [] → (∀ j, j < i → ordered j) → ¬ordered i →
      validationOf g b = some (.range i.val))
    ∧ (∀ i j : Fin 4, b.rules ≠ [] → (∀ k, ordered k) → i < j → ¬apart i j →
      (∀ k m : Fin 4, k < m → (k < i ∨ k = i ∧ m < j) → apart k m) →
      validationOf g b = some (.overlap j.val i.val))
    ∧ ∀ (before later : List GradeRule) (x : GradeRule),
        (∀ k, ordered k) → (∀ i j : Fin 4, i < j → apart i j) → b.rules = before ++ x :: later →
        (∀ front y rest, before = front ++ y :: rest →
          moistureOk y ∧ spillOk y (rest ++ x :: later) ∧ ∀ n ∈ y.bins, placed n) →
        (¬moistureOk x → validationOf g b = some (.moisture before.length))
        ∧ (moistureOk x → ¬spillOk x later → validationOf g b = some (.spill before.length))
        ∧ ∀ (front rest : List Nat) (n : Nat), moistureOk x → spillOk x later → x.bins = front ++ n :: rest →
            (∀ m ∈ front, placed m) → ¬placed n → validationOf g b = some (.bin before.length n)

/-- ACTIVATE of a bank that passes switches the banks, answers with the bank, the bank before and the bins it
drains, sends every FILLING bin of another bank to DRAIN_CLOSE RECIPE (and on, when nothing is in flight for it),
leaves every FILLING bin of the new bank as it is, and changes no sheet, pull or setting. -/
def Obligations.ActivateSwitchesBanks : Prop :=
  ∀ (r : Req) (k : BankNo) (s : State), Admitted (.activate r k.val) s → s.banks.active ≠ some k →
    validationOf s.geometry s.banks.bank[k] = none →
    ∃ t : State, exec (.activate r k.val) s = .next t
      ∧ t.ports
          = answeredPorts r.port (doneItem r .activate (.activated k s.banks.active (drainedBins k s))) s
      ∧ t.banks.active = some k ∧ t.banks.edit = s.banks.edit
      ∧ t.banks.bank[k] = { s.banks.bank[k] with state := .active }
      ∧ (∀ j : BankNo, j ≠ k → s.banks.active = some j →
          t.banks.bank[j] = { s.banks.bank[j] with state := .valid })
      ∧ (∀ j : BankNo, j ≠ k → s.banks.active ≠ some j → t.banks.bank[j] = s.banks.bank[j])
      ∧ (∀ (b : BinNo) (l : Lift), (s.bin b).state = .filling l → l.key.bank = k →
          (t.bin b).state = .filling l)
      ∧ (∀ (b : BinNo) (l : Lift), (s.bin b).state = .filling l → l.key.bank ≠ k → l.inFlight ≠ 0 →
          (t.bin b).state = .drainClose .recipe l)
      ∧ (∀ (b : BinNo) (l : Lift), (s.bin b).state = .filling l → l.key.bank ≠ k → l.inFlight = 0 →
          l.landed = 0 → (t.bin b).state = .ready)
      ∧ (∀ (b : BinNo) (l : Lift), (s.bin b).state = .filling l → l.key.bank ≠ k → l.inFlight = 0 →
          l.landed ≠ 0 →
          ∃ m : Lift, ((t.bin b).state = .fullWait m ∨ (t.bin b).state = .ejecting m)
            ∧ m.id = l.id ∧ m.landed = l.landed ∧ m.closeReason = some .recipe)
      ∧ (∀ b : BinNo, b ∈ drainedBins k s ↔ ∃ l, (s.bin b).state = .filling l ∧ l.key.bank ≠ k)
      ∧ t.tracker = s.tracker ∧ t.geometry = s.geometry ∧ t.arbiter = s.arbiter ∧ t.mode = s.mode
      ∧ t.refusal = s.refusal ∧ t.pending = s.pending

/-- No step but a full reset changes the contents of the active bank. -/
def Obligations.ActiveContentsStayFixed : Prop :=
  ∀ (s t : State) (k : BankNo), step s = .next t → s.banks.active = some k →
    (∀ (pins : Pins) (rest : List Instr), s.pending ≠ .fullReset pins :: rest) →
    t.banks.bank[k].contents = s.banks.bank[k].contents

/-- After every step a bank is ACTIVE exactly when the active bank number names it, if that was so before. -/
def Obligations.ActiveBankNamedKept : Prop :=
  ∀ s t : State, ActiveBankNamed s → step s = .next t → ActiveBankNamed t

/-! ### The grade evaluator -/

/-- The area of a clamped sheet, and where it is used. -/
def Obligations.AreaOfSheet : Prop :=
  (∀ r : SheetData, sheetArea r = r.length * r.width / 10000)
  ∧ (∀ r : SheetData, (clampReport r).length * (clampReport r).width ≤ 3780000
      ∧ 3 ≤ sheetArea (clampReport r) ∧ sheetArea (clampReport r) ≤ 378)
  ∧ 2700 * 1400 / 10000 = 378 ∧ 300 * 100 / 10000 = 3
  ∧ (∀ r : SheetData, r.length = 2600 → r.width = 1320 → sheetArea r = 343)
  ∧ (∀ (bank : Bank) (r : SheetData),
      (computedOf bank r).area = sheetArea r
      ∧ (computedOf bank r).density = min 65535 ((computedOf bank r).total * 100 / sheetArea r)
      ∧ ∃ v, (evaluate bank r).values = some v ∧ v.area = sheetArea r)
  ∧ ∀ (entry : Byte) (verdict : Verdict) (goal : SheetGoal) (clamped : Bool) (v : Computed),
      verdict.values = some v →
      ((Result.sheet entry verdict goal clamped).bytes.drop 7).take 2 = toBe16 v.area

/-- The redry test and what comes of it. -/
def Obligations.RedryTest : Prop :=
  ∀ (bank : Bank) (x : SheetData),
    (bank.redryLimit < moistureMaxOf x.readings → evaluate bank x = .redry (computedOf bank x))
    ∧ (moistureMaxOf x.readings ≤ bank.redryLimit →
        (thicknessClass bank.classes x.thickness = none →
          evaluate bank x = .reject .offGauge (some (computedOf bank x)))
        ∧ (∀ c : Fin 4, thicknessClass bank.classes x.thickness = some c →
            (∃ code, evaluate bank x = .graded code c.val (computedOf bank x))
            ∨ evaluate bank x = .reject .noGrade (some (computedOf bank x))))
    ∧ (bank.redryLimit = 300 → ∀ v, evaluate bank (clampReport x) ≠ .redry v)
    ∧ (bank.redryLimit = 0 → (∃ m ∈ x.readings, 0 < m) → evaluate bank x = .redry (computedOf bank x))
    ∧ ∀ (s : State) (k : Option BankNo) (v : Computed) (travel : Nat),
        (∃ p, planRoute s k (.redry v) travel none = .redryGate p)
        ∨ planRoute s k (.redry v) travel none = .beltEnd .redryMissed (some v)

/-- Moisture, points, total and density of a report within range are what R10 and R14 to R16 say. -/
def Obligations.ComputedValues : Prop :=
  ∀ (bank : Bank) (raw : SheetData), (∀ k, bank.weights.get k ≤ 255) →
    1 ≤ raw.readings.length →
    let r := clampReport raw
    let v := computedOf bank r
    v.maxM ∈ r.readings ∧ (∀ x ∈ r.readings, x ≤ v.maxM) ∧ v.maxM ≤ 300
    ∧ v.meanM = r.readings.sum / r.readings.length ∧ v.meanM ≤ v.maxM
    ∧ (∀ d ∈ r.defects,
        defectPoints bank.weights d ≤ 31844
        ∧ defectPoints bank.weights d
            = (d.size * bank.weights.get d.kind + 15) / 16 * (if d.zone = .centre then 2 else 1))
    ∧ v.total = min 65535 (r.defects.map (defectPoints bank.weights)).sum
    ∧ v.density = min 65535 (v.total * 100 / v.area)

/-- A sheet that is not wet takes the code of the first rule, in rank order, that passes every test, OFF_GAUGE
when no class contains its thickness, and NO_GRADE when no rule passes; a rule passes exactly when its width,
class, moisture, density, count, size and partial tests all hold. -/
def Obligations.GradeSearch : Prop :=
  ∀ (bank : Bank) (x : SheetData), moistureMaxOf x.readings ≤ bank.redryLimit →
    let v := computedOf bank x
    let passes := fun (c : Fin 4) (g : GradeRule) =>
      (g.width = .any ∨ g.width = if bank.fullWidth ≤ x.width then .full else .strip)
      ∧ c.val ∈ g.classes
      ∧ (g.moistureMin ≤ v.meanM ∧ v.meanM ≤ g.moistureMax)
      ∧ v.density ≤ g.densityLimit
      ∧ (∀ (k : DefectKind) (n : Nat), g.countLimit.get k = some n →
          (x.defects.filter (fun d => d.kind = k)).length ≤ n)
      ∧ (∀ d ∈ x.defects, d.size ≤ g.sizeLimit.get d.kind)
      ∧ (x.partialFlag = true → g.acceptPartial = true)
    ((∀ (i : Fin 4) (r : ClassRange), bank.classes[i] = some r → x.thickness < r.lo ∨ r.hi < x.thickness) →
      evaluate bank x = .reject .offGauge (some v))
    ∧ ∀ (c : Fin 4) (r : ClassRange), bank.classes[c] = some r → r.lo ≤ x.thickness → x.thickness ≤ r.hi →
        (∀ (i : Fin 4) (q : ClassRange), i < c → bank.classes[i] = some q →
          x.thickness < q.lo ∨ q.hi < x.thickness) →
        (∀ (before after : List GradeRule) (g : GradeRule), bank.rules = before ++ g :: after →
          (∀ h ∈ before, ¬passes c h) → passes c g → evaluate bank x = .graded g.code c.val v)
        ∧ ((∀ h ∈ bank.rules, ¬passes c h) → evaluate bank x = .reject .noGrade (some v))

/-! ### The scan port and the belt -/

/-- The payload of Table 10-5 for a report reads back as that report, and a payload with a byte too many or too
few is malformed. A payload is read as no report exactly when one of the six conditions of R2 holds of it: its length,
its reading count, its defect count, or the kind code or zone code of some defect. -/
def Obligations.SheetReportReadsBack : Prop :=
  (∀ (x : SheetData) (flags : Byte), x.length < 65536 → x.width < 65536 → x.thickness < 65536 →
    1 ≤ x.readings.length → x.readings.length ≤ 8 → (∀ m ∈ x.readings, m < 65536) →
    x.defects.length ≤ 32 → (∀ d ∈ x.defects, d.size < 65536) →
    flags.getLsbD 0 = x.partialFlag →
    parseReport (reportBytes x flags) = some x
    ∧ (reportBytes x flags).length = 9 + 2 * x.readings.length + 4 * x.defects.length
    ∧ (∀ b : Byte, parseReport (reportBytes x flags ++ [b]) = none)
    ∧ parseReport (reportBytes x flags).dropLast = none)
  ∧ ∀ payload : List Byte, parseReport payload = none ↔ Malformed payload

/-- A SHEET_REPORT on the scan port is refused INVALID when it is malformed, OUT_OF_STEP when it is not and sync
is out of step, and NO_SHEET when no entry is ready to bind; of these only a NO_SHEET in RUN counts, one
mismatch. A report whose length differs from the eye length by more than the tolerance rejects its entry MISMATCH,
counts one mismatch and is answered DONE with the belt end as its outcome. Either mismatch raises SYNC_CHANGED when it
is the first or the third, and the third turns every other AWAIT_REPORT entry TO_REJECT OUT_OF_STEP. -/
def Obligations.SheetReportRefusedOrMismatched : Prop :=
  ∀ (tag : Byte) (payload : List Byte) (s : State), Taken (.sheetReport .scan tag payload) s →
    let refused := fun why => answered .scan (.reply (.request .sheetReport) tag (.refused why none)) s
    (parseReport payload = none → exec (.sheetReport .scan tag payload) s = .next (refused .invalid))
    ∧ (parseReport payload ≠ none → s.sync = .outOfStep →
        exec (.sheetReport .scan tag payload) s = .next (refused .outOfStep))
    ∧ (parseReport payload ≠ none → s.sync ≠ .outOfStep →
        (∀ e, oldestAwaiting s = some e → e.eyeLen = none) → s.mode ≠ .run →
        exec (.sheetReport .scan tag payload) s = .next (refused .noSheet))
    ∧ (parseReport payload ≠ none → s.sync ≠ .outOfStep →
        (∀ e, oldestAwaiting s = some e → e.eyeLen = none) → s.mode = .run →
        ∃ t : State, exec (.sheetReport .scan tag payload) s = .next t
          ∧ BeltFrame (refused .noSheet) t
          ∧ t.tracker.mismatches = s.tracker.mismatches + 1
          ∧ t.events = mismatchEvents s
          ∧ (s.tracker.mismatches < 2 → t.tracker.queue = s.tracker.queue ∧ t.tallies = s.tallies)
          ∧ (s.tracker.mismatches = 2 → EntriesDistinct s → OutOfStepEntered none s t)
          ∧ (EntriesDistinct s → EyeFollows s t))
    ∧ ∀ (raw : SheetData) (e : Entry) (eye : Nat) (k : BankNo),
        parseReport payload = some raw → s.sync ≠ .outOfStep →
        oldestAwaiting s = some e → findEntry e.id s = some e → e.eyeLen = some eye →
        s.banks.active = some k →
        (eye + s.geometry.lengthTolerance < raw.length ∨ raw.length + s.geometry.lengthTolerance < eye) →
        ∃ t : State, exec (.sheetReport .scan tag payload) s = .next t
          ∧ t.ports
              = answeredPorts .scan
                  (.reply (.request .sheetReport) tag
                    (.done (.sheet e.number (.reject .mismatch none) .beltEnd (clampedMark raw)))) s
          ∧ t.tracker.mismatches = s.tracker.mismatches + 1 ∧ t.tracker.travel = s.tracker.travel
          ∧ t.banks = s.banks ∧ t.geometry = s.geometry ∧ t.arbiter = s.arbiter ∧ t.refusal = s.refusal
          ∧ t.pending = s.pending
          ∧ (atBeltEnd e s = false →
              findEntry e.id t
                = some { e with
                    bank := some k, verdict := some (.reject .mismatch none), state := .toReject })
          ∧ (s.mode ≠ .drain ∨ t.tracker.queue ≠ [] → t.events = mismatchEvents s)
          ∧ (s.tracker.mismatches = 2 → EntriesDistinct s → OutOfStepEntered (some e.id) s t)
          ∧ (EntriesDistinct s → EyeFollows s t)

/-- A SHEET_REPORT binds to the oldest AWAIT_REPORT entry when the lengths agree within the tolerance: the count
is cleared, the entry takes the verdict and the route, the bin takes the sheet, and the reply gives the verdict
as it stands then. A GRADED verdict goes to the first eligible bin that the four passes over its grade's bin list
meet, else to the first that they meet over its spill grade's, and is REJECT NO_BIN when neither finds one; a REDRY
verdict goes to the redry gate while its gate-open point lies ahead, and is REJECT REDRY_MISSED otherwise. A sheet under
the entry eye whose entry the belt end takes at once is untracked from then on. -/
def Obligations.SheetReportBindsAndRoutes : Prop :=
  (∀ (tag : Byte) (payload : List Byte) (raw : SheetData) (e : Entry) (eye : Nat) (k : BankNo) (s : State),
    Taken (.sheetReport .scan tag payload) s → parseReport payload = some raw → s.sync ≠ .outOfStep →
    oldestAwaiting s = some e → findEntry e.id s = some e → e.eyeLen = some eye →
    s.banks.active = some k →
    raw.length ≤ eye + s.geometry.lengthTolerance → eye ≤ raw.length + s.geometry.lengthTolerance →
    let v := overPreset e.verdict (evaluate s.banks.bank[k] (clampReport raw))
    let plan := planRoute s (some k) v (travelOf e s) none
    ∃ t : State, exec (.sheetReport .scan tag payload) s = .next t
      ∧ t.ports
          = answeredPorts .scan
              (.reply (.request .sheetReport) tag
                (.done (.sheet e.number (plan.verdict v) plan.goal (clampedMark raw)))) s
      ∧ t.tracker.mismatches = 0 ∧ t.tracker.travel = s.tracker.travel
      ∧ t.banks = s.banks ∧ t.geometry = s.geometry ∧ t.arbiter = s.arbiter ∧ t.refusal = s.refusal
      ∧ t.pending = s.pending
      ∧ (∀ (b : BinNo) (key : Key) (target p : Nat), plan = .bin b key target →
          s.geometry.binPosition[b] = some p →
          findEntry e.id t
            = some { e with
                bank := some k, verdict := some v
                state :=
                  .routed b (e.lead + mm (p - s.geometry.gateLead)) (e.lead + mm (p + s.geometry.gateHold)) }
          ∧ Commits s b key target (t.bin b).state)
      ∧ (∀ p : Nat, plan = .redryGate p →
          findEntry e.id t
            = some { e with
                bank := some k, verdict := some v
                state :=
                  .toRedry (e.lead + mm (p - s.geometry.gateLead)) (e.lead + mm (p + s.geometry.gateHold))
                    false })
      ∧ (∀ (why : RejectReason) (x : Option Computed), plan = .beltEnd why x → atBeltEnd e s = false →
          findEntry e.id t
            = some { e with bank := some k, verdict := some (.reject why x), state := .toReject })
      ∧ (EntriesDistinct s → EyeFollows s t))
  ∧ ∀ (s : State) (k : BankNo) (code cls travel : Nat) (x : Computed) (lost : Option BinNo),
      let plan := planRoute s (some k) (.graded code cls x) travel lost
      (∀ g b, ruleIn s k code = some g → FirstMet s ⟨k, code, cls⟩ travel lost (binsOf g) b →
        plan = .bin b ⟨k, code, cls⟩ g.target)
      ∧ (∀ g c h b, ruleIn s k code = some g →
        (∀ d ∈ binsOf g, ¬CanTakeSheet s ⟨k, code, cls⟩ travel lost d) →
        g.spill = some c → ruleIn s k c = some h → FirstMet s ⟨k, c, cls⟩ travel lost (binsOf h) b →
        plan = .bin b ⟨k, c, cls⟩ h.target)
      ∧ ((ruleIn s k code = none
          ∨ ∃ g, ruleIn s k code = some g
            ∧ (∀ d ∈ binsOf g, ¬CanTakeSheet s ⟨k, code, cls⟩ travel lost d)
            ∧ ∀ c, g.spill = some c → ∀ h, ruleIn s k c = some h →
                ∀ d ∈ binsOf h, ¬CanTakeSheet s ⟨k, c, cls⟩ travel lost d) →
        plan = .beltEnd .noBin (some x))
      ∧ (∀ p, s.geometry.redryGate = some p → travel < p - s.geometry.gateLead →
        planRoute s (some k) (.redry x) travel lost = .redryGate p)
      ∧ ((∀ p, s.geometry.redryGate = some p → p - s.geometry.gateLead ≤ travel) →
        planRoute s (some k) (.redry x) travel lost = .beltEnd .redryMissed (some x))
      ∧ ∀ (why : RejectReason) (y : Option Computed),
          planRoute s (some k) (.reject why y) travel lost = .beltEnd why y

/-- SCAN_RESYNC: what it sets, what it raises, what it answers, whom it refuses, and what the entries created
after it are. -/
def Obligations.ScanResync : Prop :=
  (∀ (r : Req) (s : State), Admitted (.scanResync r) s →
    exec (.scanResync r) s
      = .next (answered r.port (doneItem r .scanResync (.resync s.sync s.tracker.nextNumber))
          { s with
            tracker := { s.tracker with mismatches := 0 }
            events := if s.sync = .inStep then s.events else s.events.append (.syncChanged .inStep) }))
  ∧ (∀ s : State, s.tracker.mismatches = 0 → s.sync = .inStep)
  ∧ (∀ (r : Req) (s : State), r.port ≠ .scan → Taken (.scanResync r) s →
      exec (.scanResync r) s = .next (refusedRecorded r.port r.tag .scanResync .denied none s))
  ∧ (∀ s : State, s.sync = .inStep →
      (newEntry s).state = .awaitReport
      ∧ (newEntry s).verdict = if crowds s then some (.reject .crowded none) else none)

/-- A travel pulse adds one millimetre, modulo 2^32, and then takes every passage that this count brings due, as the
passage commands of the sheets, oldest first, and of the bins take it; when the count brings nothing due it does
nothing else. The order between sheets and bins is the model's choice (log entry 4). -/
def Obligations.TravelPulseCounts : Prop :=
  ∀ s : State,
    let counted : State := { s with tracker := { s.tracker with travel := s.tracker.travel + 1 } }
    exec .travelPulse s = execAll (pulsePassages s) counted
    ∧ (∃ t : State, exec .travelPulse s = .next t
      ∧ t.tracker.travel = s.tracker.travel + 1
      ∧ t.tracker.nextNumber = s.tracker.nextNumber ∧ t.tracker.lastTrailing = s.tracker.lastTrailing
      ∧ t.banks = s.banks ∧ t.geometry = s.geometry ∧ t.arbiter = s.arbiter ∧ t.ports = s.ports
      ∧ t.refusal = s.refusal ∧ t.pending = s.pending)
    ∧ ((∀ n : EntryId,
          decisionDue counted n = false ∧ gateOpenDue counted n = false ∧ redryOpenDue counted n = false
          ∧ gateCloseDue counted n = false ∧ windowEndDue counted n = none ∧ redryCloseDue counted n = false
          ∧ beltEndDue counted n = false) →
        (∀ b : BinNo, eyeStuckDue counted b = false) →
        exec .travelPulse s = .next counted)

/-- The travel counter moves by one at each travel pulse, and at no other step but a full reset. -/
def Obligations.TravelMovesOnlyByPulses : Prop :=
  ∀ s t : State, step s = .next t →
    ((∃ rest, s.pending = .travelPulse :: rest) → t.tracker.travel = s.tracker.travel + 1)
    ∧ ((∀ rest, s.pending ≠ .travelPulse :: rest) → (∀ pins rest, s.pending ≠ .fullReset pins :: rest) →
        t.tracker.travel = s.tracker.travel)

/-- What each edge of the entry eye does, by the sort mode, the eye state and the room in the queue; one that finds the
queue full brings sync to OUT_OF_STEP, which turns every AWAIT_REPORT entry TO_REJECT OUT_OF_STEP. A leading edge
of an eye that is blocked already, and a trailing edge of one that is clear, do nothing (log entry 7). -/
def Obligations.EntryEyeEdges : Prop :=
  ∀ s : State,
    (s.tracker.eye = .clear → s.mode ≠ .run →
      exec .entryEyeLeadingEdge s = .next { s with tracker := { s.tracker with eye := .blockedUntracked } })
    ∧ (s.tracker.eye = .clear → s.mode = .run → s.tracker.queue.length < 48 →
      exec .entryEyeLeadingEdge s
        = .next { s with
            tracker :=
              { s.tracker with
                eye := .blockedTracked
                nextNumber := s.tracker.nextNumber + 1
                queue := s.tracker.queue
                  ++ [{ number := s.tracker.nextNumber
                        lead := s.tracker.travel
                        eyeLen := none
                        state := if 3 ≤ s.tracker.mismatches then .toReject else .awaitReport
                        verdict :=
                          if 3 ≤ s.tracker.mismatches then some (.reject .outOfStep none)
                          else if ∃ m, s.tracker.lastTrailing = some m
                              ∧ travelled s.tracker.travel m < s.geometry.minGap
                            then some (.reject .crowded none)
                          else none
                        bank := none }] } })
    ∧ (s.tracker.eye = .clear → s.mode = .run → 48 ≤ s.tracker.queue.length →
      ∃ t : State, exec .entryEyeLeadingEdge s = .next t
        ∧ BeltFrame s t
        ∧ t.tracker.eye = .blockedUntracked ∧ t.tracker.mismatches = 3
        ∧ t.events
            = (if s.sync = .outOfStep then s.events.append .trackFull
              else (s.events.append .trackFull).append (.syncChanged .outOfStep))
        ∧ (s.sync = .outOfStep → t.tracker.queue = s.tracker.queue ∧ t.tallies = s.tallies)
        ∧ (s.sync ≠ .outOfStep → EntriesDistinct s → OutOfStepEntered none s t))
    ∧ (s.tracker.eye ≠ .clear → exec .entryEyeLeadingEdge s = .next s)
    ∧ (∀ (front : List Entry) (e : Entry), s.tracker.eye = .blockedTracked →
      s.tracker.queue = front ++ [e] →
      exec .entryEyeTrailingEdge s
        = .next { s with
            tracker :=
              { s.tracker with
                eye := .clear
                lastTrailing := some s.tracker.travel
                queue := front
                  ++ [{ e with
                        eyeLen := some (min 65535 (max 1 (travelled s.tracker.travel e.lead))) }] } })
    ∧ (s.tracker.eye = .blockedUntracked →
      exec .entryEyeTrailingEdge s
        = .next { s with
            tracker := { s.tracker with eye := .clear, lastTrailing := some s.tracker.travel } })
    ∧ (s.tracker.eye = .clear → exec .entryEyeTrailingEdge s = .next s)

/-- The decision point rejects a waiting entry UNGRADED and counts one mismatch, of which the third turns every other
AWAIT_REPORT entry TO_REJECT OUT_OF_STEP; the belt end removes a rejected entry and counts it under its reason; a
sheet under the entry eye whose entry is removed is untracked from then on; as commands, neither has an effect on an
entry in another state or short of its point (log entry 4). -/
def Obligations.DecisionPointAndBeltEnd : Prop :=
  ∀ (n : EntryId) (e : Entry) (s : State), findEntry n s = some e →
    (e.state = .awaitReport → s.geometry.decisionDistance ≤ travelOf e s →
      ∃ t : State, exec (.decisionPointPassage n) s = .next t
        ∧ BeltFrame s t
        ∧ t.tracker.mismatches = min 3 (s.tracker.mismatches + 1)
        ∧ (atBeltEnd e s = false →
            findEntry n t = some { e with state := .toReject, verdict := some (.reject .ungraded none) })
        ∧ (s.sync ≠ .outOfStep → (s.mode ≠ .drain ∨ t.tracker.queue ≠ []) → t.events = mismatchEvents s)
        ∧ (s.tracker.mismatches = 2 → EntriesDistinct s → OutOfStepEntered (some n) s t)
        ∧ (EntriesDistinct s → EyeFollows s t))
    ∧ (e.state ≠ .awaitReport ∨ travelOf e s < s.geometry.decisionDistance →
      exec (.decisionPointPassage n) s = .next s)
    ∧ (∀ (d : Nat) (why : RejectReason) (x : Option Computed), e.state = .toReject →
      e.verdict = some (.reject why x) → s.geometry.beltEnd = some d → d ≤ travelOf e s →
      ∃ t : State, exec (.beltEndPassage n) s = .next t
        ∧ BeltFrame s t
        ∧ t.tracker.queue = s.tracker.queue.eraseP (fun y => y.id == n)
        ∧ t.tracker.mismatches = s.tracker.mismatches
        ∧ t.tallies.rejects[why.idx] = min 4294967295 (s.tallies.rejects[why.idx] + 1)
        ∧ (∀ other : RejectReason, other ≠ why →
            t.tallies.rejects[other.idx] = s.tallies.rejects[other.idx])
        ∧ (EntriesDistinct s → EyeFollows s t))
    ∧ (e.state ≠ .toReject ∨ (∀ d, s.geometry.beltEnd = some d → travelOf e s < d) →
      exec (.beltEndPassage n) s = .next s)

/-- The four gate passages: a ROUTED entry becomes LANDING at its held gate-open point and the gate opens; its
trailing edge at the held gate-close point takes it from under the gate; the redry gate opens at an entry's held
point and the entry leaves at the other, counted REDRY, its sheet untracked from then on if it is still under the entry
eye; as a command, each has no effect short of its point (log entry 4). -/
def Obligations.GatePassages : Prop :=
  ∀ (n : EntryId) (e : Entry) (s : State), findEntry n s = some e →
    (∀ (b : BinNo) (p q : Travel), e.state = .routed b p q →
      (travelled p e.lead ≤ travelOf e s →
        ∃ t : State, exec (.gateOpenPassage n) s = .next t
          ∧ BeltFrame s t
          ∧ findEntry n t = some { e with state := .landing b p q false }
          ∧ GatesUpToDate t
          ∧ ((s.bin b).state.takesSheets = true → (t.bin b).gate = true)
          ∧ (∀ c : BinNo, (t.bin c).state = (s.bin c).state)
          ∧ t.tallies = s.tallies ∧ t.events = s.events ∧ t.outfeed = s.outfeed ∧ t.slots = s.slots)
      ∧ (travelOf e s < travelled p e.lead → exec (.gateOpenPassage n) s = .next s))
    ∧ (∀ (b : BinNo) (p q : Travel) (l : Nat), e.state = .landing b p q false → e.eyeLen = some l →
      (travelled q e.lead + l ≤ travelOf e s →
        ∃ t : State, exec (.gateClosePassage n) s = .next t
          ∧ BeltFrame s t
          ∧ findEntry n t = some { e with state := .landing b p q true }
          ∧ GatesUpToDate t
          ∧ (∀ c : BinNo, (t.bin c).state = (s.bin c).state)
          ∧ t.tallies = s.tallies ∧ t.events = s.events ∧ t.outfeed = s.outfeed ∧ t.slots = s.slots)
      ∧ (travelOf e s < travelled q e.lead + l → exec (.gateClosePassage n) s = .next s))
    ∧ (∀ p q : Travel, e.state = .toRedry p q false →
      (travelled p e.lead ≤ travelOf e s →
        ∃ t : State, exec (.redryGateOpenPassage n) s = .next t
          ∧ BeltFrame s t
          ∧ findEntry n t = some { e with state := .toRedry p q true }
          ∧ t.redryGate = true
          ∧ (∀ c : BinNo, (t.bin c).state = (s.bin c).state)
          ∧ t.tallies = s.tallies ∧ t.events = s.events ∧ t.outfeed = s.outfeed ∧ t.slots = s.slots)
      ∧ (travelOf e s < travelled p e.lead → exec (.redryGateOpenPassage n) s = .next s))
    ∧ (∀ (p q : Travel) (opened : Bool) (l : Nat), e.state = .toRedry p q opened → e.eyeLen = some l →
      (travelled q e.lead + l ≤ travelOf e s →
        ∃ t : State, exec (.redryGateClosePassage n) s = .next t
          ∧ BeltFrame s t
          ∧ t.tracker.queue = s.tracker.queue.eraseP (fun y => y.id == n)
          ∧ t.tallies.redry = min 4294967295 (s.tallies.redry + 1)
          ∧ (EntriesDistinct s → EyeFollows s t)
          ∧ GatesUpToDate t)
      ∧ (travelOf e s < travelled q e.lead + l → exec (.redryGateClosePassage n) s = .next s))

/-- A LANDING entry at its landing window end is missed: it leaves the queue, the lift and the bin count it, the
first anomaly raises BIN_SUSPECT and the third faults the bin, and a DRAIN_CLOSE bin with nothing more in flight
completes its drain; in DRAIN the last entry's removal ends the drain; as a command, it does nothing short of the
window end (log entry 4). A bin whose landed eye has been blocked for the eye stuck distance is faulted EYE_STUCK. The
ROUTED entries of a faulted bin are re-routed and its LANDING entries turned away. A sheet under the entry eye whose
entry is removed is untracked from then on. -/
def Obligations.WindowEndAndEyeStuck : Prop :=
  (∀ (n : EntryId) (e : Entry) (b : BinNo) (p q : Travel) (closed : Bool) (x : Nat) (l : Lift) (s : State),
    findEntry n s = some e → e.state = .landing b p q closed → s.geometry.binPosition[b] = some x →
    let left := s.tracker.queue.eraseP (fun y => y.id == n)
    let miss := fun l : Lift => { l with inFlight := l.inFlight - 1, missed := min 65535 (l.missed + 1) }
    let suspected := if (s.bin b).suspicion = 0 then s.events.append (.binSuspect b .missed) else s.events
    let more := s.mode ≠ .drain ∨ left ≠ []
    (x + s.geometry.landingAllowance ≤ travelOf e s → (s.bin b).state = .filling l → (s.bin b).suspicion < 2 →
      ∃ t : State, exec (.landingWindowEnd n) s = .next t
        ∧ BeltFrame s t
        ∧ t.tracker.queue = left
        ∧ (t.bin b).suspicion = (s.bin b).suspicion + 1
        ∧ t.tallies.missed = min 4294967295 (s.tallies.missed + 1)
        ∧ (more →
            (t.bin b).state = .filling (miss l)
            ∧ t.tallies = { s.tallies with missed := min 4294967295 (s.tallies.missed + 1) }
            ∧ t.events = suspected)
        ∧ (¬more →
            DrainEnded { s with bins := vset s.bins b { s.bin b with state := .filling (miss l) } } t)
        ∧ (EntriesDistinct s → EyeFollows s t)
        ∧ GatesUpToDate t)
    ∧ (∀ why, x + s.geometry.landingAllowance ≤ travelOf e s → (s.bin b).state = .drainClose why l →
      (s.bin b).suspicion < 2 →
      ∃ t : State, exec (.landingWindowEnd n) s = .next t
        ∧ BeltFrame s t
        ∧ t.tracker.queue = left
        ∧ (t.bin b).suspicion = (s.bin b).suspicion + 1
        ∧ t.tallies.missed = min 4294967295 (s.tallies.missed + 1)
        ∧ (2 ≤ l.inFlight →
            (t.bin b).state = .drainClose why (miss l) ∧ (more → t.events = suspected))
        ∧ (l.inFlight = 1 → l.landed = 0 →
            (t.bin b).state = .ready
            ∧ (more → t.events = suspected.append (.liftDiscarded l.id b (.close why))))
        ∧ (l.inFlight = 1 → l.landed ≠ 0 →
            ∃ m, ((t.bin b).state = .fullWait m ∨ (t.bin b).state = .ejecting m)
              ∧ m.id = l.id ∧ m.landed = l.landed ∧ m.missed = (miss l).missed ∧ m.closeReason = some why
              ∧ (more →
                  t.events = suspected.append (.liftClosed l.id b why l.landed l.mean l.moistureMax)))
        ∧ (¬more → t.mode = .idle)
        ∧ (EntriesDistinct s → EyeFollows s t)
        ∧ GatesUpToDate t)
    ∧ (x + s.geometry.landingAllowance ≤ travelOf e s →
      ((s.bin b).state = .filling l ∨ ∃ why, (s.bin b).state = .drainClose why l) → (s.bin b).suspicion = 2 →
      ∃ t : State, exec (.landingWindowEnd n) s = .next t
        ∧ BeltFrame s t
        ∧ (t.bin b).state.tag = .faulted .landing ∧ (t.bin b).suspicion = 3 ∧ (t.bin b).gate = false
        ∧ t.tallies.missed = min 4294967295 (s.tallies.missed + 1)
        ∧ (EntriesDistinct s →
            BinLost b
              { s with
                tracker := { s.tracker with queue := left }
                bins := vset s.bins b { s.bin b with state := (s.bin b).state.mapLift miss } } t
            ∧ EyeFollows s t)
        ∧ (s.mode ≠ .drain ∨ t.tracker.queue ≠ [] → t.events = s.events.append (.binFaulted b .landing))
        ∧ (s.mode = .drain → t.tracker.queue = [] → t.mode = .idle))
    ∧ (travelOf e s < x + s.geometry.landingAllowance → exec (.landingWindowEnd n) s = .next s))
  ∧ ∀ (b : BinNo) (m : Travel) (s : State), (s.bin b).eyeMark = some m →
      ((s.bin b).state ≠ .offline → (∀ why l, (s.bin b).state ≠ .faulted why l) →
        s.geometry.eyeStuck ≤ travelled s.tracker.travel m →
        ∃ t : State, exec (.eyeStuckPassage b) s = .next t
          ∧ BeltFrame s t
          ∧ (t.bin b).state.tag = .faulted .eyeStuck ∧ (t.bin b).suspicion = (s.bin b).suspicion
          ∧ (t.bin b).gate = false ∧ (t.bin b).eject = false ∧ b ∉ t.outfeed.queue
          ∧ (EntriesDistinct s → BinLost b s t ∧ EyeFollows s t)
          ∧ (s.mode ≠ .drain ∨ t.tracker.queue ≠ [] → t.events = s.events.append (.binFaulted b .eyeStuck))
          ∧ (s.mode = .drain → t.tracker.queue = [] → t.mode = .idle))
      ∧ (((s.bin b).state = .offline ∨ ∃ why l, (s.bin b).state = .faulted why l)
          ∨ travelled s.tracker.travel m < s.geometry.eyeStuck →
        exec (.eyeStuckPassage b) s = .next s)

/-- After every step each gate output stands as R89 and R90 say, if it did before. -/
def Obligations.GatesUpToDateKept : Prop :=
  ∀ s t : State, GatesUpToDate s → step s = .next t → GatesUpToDate t

/-! ### The bins and their lifts -/

/-- What the edges of a landed eye do, in RUN and DRAIN, by the bin's state: a landing on the lift of the oldest
LANDING entry, which completes the drain of a DRAIN_CLOSE bin with nothing more in flight and, as the last entry in
DRAIN, ends the drain, or a stray landing, of which the third anomaly faults the bin; in IDLE, and on a bin OFFLINE
or FAULTED, the eye fields alone move. A sheet under the entry eye whose entry is removed is untracked from then on. A
leading edge of an eye that is blocked already does nothing (log entry 7). -/
def Obligations.LandedEyeEdges : Prop :=
  ∀ (b : BinNo) (s : State),
    let seen : State := { s with bins := vset s.bins b { s.bin b with eyeMark := some s.tracker.travel } }
    exec (.landedEyeClears b) s = .next { s with bins := vset s.bins b { s.bin b with eyeMark := none } }
    ∧ ((s.bin b).eyeMark ≠ none → exec (.landedEyeBlocked b) s = .next s)
    ∧ ((s.bin b).eyeMark = none → GatesUpToDate s → OutfeedConsistent s →
        s.mode = .idle
          ∨ (s.mode = .run ∨ s.mode = .drain ∧ s.tracker.queue ≠ [])
            ∧ ((s.bin b).state = .offline ∨ ∃ why l, (s.bin b).state = .faulted why l) →
        exec (.landedEyeBlocked b) s = .next seen)
    ∧ (∀ (l : Lift) (e : Entry) (v : Computed), (s.bin b).eyeMark = none → s.mode ≠ .idle →
        oldestLanding b s = some e → e.verdict.bind Verdict.values = some v →
        let left := s.tracker.queue.eraseP (fun y => y.id == e.id)
        let more := s.mode ≠ .drain ∨ left ≠ []
        let after : Lift :=
          { l with
            landed := l.landed + 1, inFlight := l.inFlight - 1
            moistureSum := l.moistureSum + v.meanM
            moistureMax := some (max v.meanM (l.moistureMax.getD 0)) }
        ((s.bin b).state = .filling l →
          ∃ t : State, exec (.landedEyeBlocked b) s = .next t
            ∧ BeltFrame seen t
            ∧ t.tracker.queue = left ∧ (t.bin b).suspicion = 0
            ∧ t.tallies.landedTotal = min 4294967295 (s.tallies.landedTotal + 1)
            ∧ (∀ i : Fin 250,
                t.tallies.landed[i]
                  = if i.val + 1 = l.key.code then min 4294967295 (s.tallies.landed[i] + 1)
                    else s.tallies.landed[i])
            ∧ (more → (t.bin b).state = .filling after ∧ t.events = s.events)
            ∧ (¬more → DrainEnded { s with bins := vset s.bins b { s.bin b with state := .filling after } } t)
            ∧ (EntriesDistinct s → EyeFollows s t) ∧ GatesUpToDate t)
        ∧ (∀ why : CloseReason, (s.bin b).state = .drainClose why l → 2 ≤ l.inFlight →
          ∃ t : State, exec (.landedEyeBlocked b) s = .next t
            ∧ BeltFrame seen t
            ∧ t.tracker.queue = left ∧ (t.bin b).state = .drainClose why after ∧ (t.bin b).suspicion = 0
            ∧ t.tallies.landedTotal = min 4294967295 (s.tallies.landedTotal + 1)
            ∧ (more → t.events = s.events) ∧ (¬more → t.mode = .idle)
            ∧ (EntriesDistinct s → EyeFollows s t) ∧ GatesUpToDate t)
        ∧ (∀ why : CloseReason, (s.bin b).state = .drainClose why l → l.inFlight = 1 →
          ∃ t m, exec (.landedEyeBlocked b) s = .next t
            ∧ BeltFrame seen t
            ∧ t.tracker.queue = left
            ∧ ((t.bin b).state = .fullWait m ∨ (t.bin b).state = .ejecting m)
            ∧ m.id = l.id ∧ m.key = l.key ∧ m.landed = l.landed + 1 ∧ m.closeReason = some why
            ∧ m.moistureSum = after.moistureSum ∧ m.moistureMax = after.moistureMax
            ∧ m.closeOrder = some (s.store.closeCounter + 1) ∧ (t.bin b).suspicion = 0
            ∧ t.tallies.landedTotal = min 4294967295 (s.tallies.landedTotal + 1)
            ∧ (more →
                t.store.closeCounter = s.store.closeCounter + 1
                ∧ t.tallies.closed[why.idx] = min 4294967295 (s.tallies.closed[why.idx] + 1)
                ∧ t.events = s.events.append (.liftClosed l.id b why (l.landed + 1) m.mean m.moistureMax))
            ∧ (¬more → t.mode = .idle) ∧ (EntriesDistinct s → EyeFollows s t) ∧ GatesUpToDate t))
    ∧ ((s.bin b).eyeMark = none → s.mode = .run ∨ s.mode = .drain ∧ s.tracker.queue ≠ [] →
        ((s.bin b).state = .ready ∨ (∃ l, (s.bin b).state = .fullWait l) ∨ (∃ l, (s.bin b).state = .ejecting l)
          ∨ (s.bin b).state.takesSheets = true ∧ oldestLanding b s = none) →
        ((s.bin b).suspicion < 2 →
          ∃ t : State, exec (.landedEyeBlocked b) s = .next t
            ∧ BeltFrame seen t
            ∧ t.tracker = s.tracker ∧ (t.bin b).suspicion = (s.bin b).suspicion + 1
            ∧ t.tallies = { s.tallies with stray := min 4294967295 (s.tallies.stray + 1) }
            ∧ t.events
                = (if (s.bin b).suspicion = 0 then s.events.append (.binSuspect b .stray) else s.events))
        ∧ ((s.bin b).suspicion = 2 →
          ∃ t : State, exec (.landedEyeBlocked b) s = .next t
            ∧ BeltFrame seen t
            ∧ (t.bin b).state.tag = .faulted .landing ∧ (t.bin b).suspicion = 3
            ∧ t.tallies.stray = min 4294967295 (s.tallies.stray + 1)
            ∧ (EntriesDistinct s → BinLost b seen t ∧ EyeFollows s t)
            ∧ (s.mode = .run ∨ t.tracker.queue ≠ [] → t.events = s.events.append (.binFaulted b .landing))
            ∧ (s.mode = .drain → t.tracker.queue = [] → t.mode = .idle)))

/-- CLEAR_BIN of a FAULTED bin whose eye is clear returns it to READY, with its lift discarded when nothing has landed
on it, or to FULL_WAIT, with its lift closed FAULT or kept; otherwise it is refused. The reply's FULL_WAIT where the
ejection starts in the same event is log entry 16's. -/
def Obligations.ClearBinRecovers : Prop :=
  ∀ (r : Req) (b : BinNo) (s : State),
    (∀ n, 16 ≤ n → Admitted (.clearBin r n) s →
      exec (.clearBin r n) s = .next (answered r.port (refusedItem r .clearBin .invalid) s))
    ∧ (Admitted (.clearBin r b.val) s →
    let reply := fun state lift => answered r.port (doneItem r .clearBin (.bin b state lift)) s
    ((∀ why l, (s.bin b).state ≠ .faulted why l) →
      exec (.clearBin r b.val) s = .next (answered r.port (refusedItem r .clearBin .notNow) s))
    ∧ ((∃ why l, (s.bin b).state = .faulted why l) → (s.bin b).eyeMark ≠ none →
      exec (.clearBin r b.val) s = .next (answered r.port (refusedItem r .clearBin .notClear) s))
    ∧ (∀ why, (s.bin b).state = .faulted why none → (s.bin b).eyeMark = none →
      ∃ t : State, exec (.clearBin r b.val) s = .next t
        ∧ BeltFrame (reply .ready none) t
        ∧ (t.bin b).state = .ready ∧ (t.bin b).suspicion = 0
        ∧ t.tracker = s.tracker ∧ t.events = s.events ∧ t.tallies = s.tallies)
    ∧ (∀ why l, (s.bin b).state = .faulted why (some l) → (s.bin b).eyeMark = none →
      l.state = .opened → l.landed = 0 →
      ∃ t : State, exec (.clearBin r b.val) s = .next t
        ∧ BeltFrame (reply .ready (some (l.id, .discarded))) t
        ∧ (t.bin b).state = .ready ∧ (t.bin b).suspicion = 0
        ∧ t.tracker = s.tracker ∧ t.tallies = s.tallies
        ∧ t.events = s.events.append (.liftDiscarded l.id b .clearBin))
    ∧ (∀ why l, (s.bin b).state = .faulted why (some l) → (s.bin b).eyeMark = none →
      l.state = .opened → l.landed ≠ 0 →
      ∃ t m, exec (.clearBin r b.val) s = .next t
        ∧ BeltFrame (reply .fullWait (some (l.id, .closed))) t
        ∧ ((t.bin b).state = .fullWait m ∨ (t.bin b).state = .ejecting m)
        ∧ m.id = l.id ∧ m.landed = l.landed ∧ m.closeReason = some .fault
        ∧ m.closeOrder = some (s.store.closeCounter + 1)
        ∧ (t.bin b).suspicion = 0 ∧ t.tracker = s.tracker
        ∧ t.store.closeCounter = s.store.closeCounter + 1
        ∧ t.events = s.events.append (.liftClosed l.id b .fault l.landed l.mean l.moistureMax))
    ∧ (∀ why l, (s.bin b).state = .faulted why (some l) → (s.bin b).eyeMark = none →
      l.state ≠ .opened →
      ∃ t m, exec (.clearBin r b.val) s = .next t
        ∧ BeltFrame (reply .fullWait (some (l.id, .kept))) t
        ∧ ((t.bin b).state = .fullWait m ∨ (t.bin b).state = .ejecting m)
        ∧ m.id = l.id ∧ m.landed = l.landed ∧ m.closeReason = l.closeReason ∧ m.closeOrder = l.closeOrder
        ∧ (t.bin b).suspicion = 0 ∧ t.tracker = s.tracker
        ∧ t.store = s.store ∧ t.tallies = s.tallies ∧ t.events = s.events))

/-- BIN_ONLINE, BIN_OFFLINE and CLOSE_BIN: what each does in the states that admit it, and its refusal in every
other. The reply's word DRAINING for a CLOSE_BIN is the model's choice (log entry 17), and its FULL_WAIT where the
ejection starts in the same event is log entry 16's. -/
def Obligations.BinServiceRequests : Prop :=
  ∀ (r : Req) (b : BinNo) (s : State),
    (Admitted (.binOnline r b.val) s → (s.bin b).state = .offline → s.geometry.binPosition[b] ≠ none →
      (s.bin b).eyeMark = none →
      exec (.binOnline r b.val) s
        = .next (answered r.port (doneItem r .binOnline (.bin b .ready none))
            { s with
              bins := vset s.bins b { s.bin b with state := .ready, suspicion := 0, gate := false } }))
    ∧ (Admitted (.binOnline r b.val) s → (s.bin b).state ≠ .offline ∨ s.geometry.binPosition[b] = none →
      exec (.binOnline r b.val) s = .next (answered r.port (refusedItem r .binOnline .notNow) s))
    ∧ (Admitted (.binOnline r b.val) s → (s.bin b).state = .offline → s.geometry.binPosition[b] ≠ none →
      (s.bin b).eyeMark ≠ none →
      exec (.binOnline r b.val) s = .next (answered r.port (refusedItem r .binOnline .notClear) s))
    ∧ (Admitted (.binOffline r b.val) s →
      (s.bin b).state = .ready ∨ (∃ why, (s.bin b).state = .faulted why none) →
      exec (.binOffline r b.val) s
        = .next (answered r.port (doneItem r .binOffline (.bin b .offline none))
            { s with bins := vset s.bins b { s.bin b with state := .offline, suspicion := 0 } }))
    ∧ (∀ why l, Admitted (.binOffline r b.val) s → (s.bin b).state = .faulted why (some l) →
      exec (.binOffline r b.val) s
        = .next (answered r.port (doneItem r .binOffline (.bin b .offline (some (l.id, .discarded))))
            { s with
              bins := vset s.bins b { s.bin b with state := .offline, suspicion := 0 }
              events := s.events.append (.liftDiscarded l.id b .binOffline) }))
    ∧ (Admitted (.binOffline r b.val) s → (s.bin b).state ≠ .ready →
      (∀ why l, (s.bin b).state ≠ .faulted why l) →
      exec (.binOffline r b.val) s = .next (answered r.port (refusedItem r .binOffline .notNow) s))
    ∧ (Admitted (.closeBin r b.val) s → (∀ l, (s.bin b).state ≠ .filling l) →
      exec (.closeBin r b.val) s = .next (answered r.port (refusedItem r .closeBin .notNow) s))
    ∧ (∀ l, Admitted (.closeBin r b.val) s → (s.bin b).state = .filling l → l.inFlight ≠ 0 →
      ∃ t : State, exec (.closeBin r b.val) s = .next t
        ∧ BeltFrame
            (answered r.port
              (doneItem r .closeBin (.bin b (.drainClose .short) (some (l.id, .draining)))) s) t
        ∧ (t.bin b).state = .drainClose .short l
        ∧ t.tracker = s.tracker ∧ t.events = s.events ∧ t.tallies = s.tallies ∧ t.store = s.store)
    ∧ (∀ l, Admitted (.closeBin r b.val) s → (s.bin b).state = .filling l → l.inFlight = 0 →
      l.landed = 0 →
      ∃ t : State, exec (.closeBin r b.val) s = .next t
        ∧ BeltFrame
            (answered r.port (doneItem r .closeBin (.bin b .ready (some (l.id, .discarded)))) s) t
        ∧ (t.bin b).state = .ready
        ∧ t.tracker = s.tracker ∧ t.tallies = s.tallies ∧ t.store = s.store
        ∧ t.events = s.events.append (.liftDiscarded l.id b (.close .short)))
    ∧ (∀ l, Admitted (.closeBin r b.val) s → (s.bin b).state = .filling l → l.inFlight = 0 →
      l.landed ≠ 0 →
      ∃ t m, exec (.closeBin r b.val) s = .next t
        ∧ BeltFrame
            (answered r.port (doneItem r .closeBin (.bin b .fullWait (some (l.id, .closed)))) s) t
        ∧ ((t.bin b).state = .fullWait m ∨ (t.bin b).state = .ejecting m)
        ∧ m.id = l.id ∧ m.landed = l.landed ∧ m.closeReason = some .short
        ∧ t.tracker = s.tracker ∧ t.store.closeCounter = s.store.closeCounter + 1
        ∧ t.events = s.events.append (.liftClosed l.id b .short l.landed l.mean l.moistureMax))
    ∧ ∀ n, 16 ≤ n →
      (Admitted (.binOnline r n) s →
        exec (.binOnline r n) s = .next (answered r.port (refusedItem r .binOnline .invalid) s))
      ∧ (Admitted (.binOffline r n) s →
        exec (.binOffline r n) s = .next (answered r.port (refusedItem r .binOffline .invalid) s))
      ∧ (Admitted (.closeBin r n) s →
        exec (.closeBin r n) s = .next (answered r.port (refusedItem r .closeBin .invalid) s))

/-- FORCE_CLOSE closes SHORT the lift of the active bank and the code (and class) that has landed most, at least
the short-lift minimum, the lowest bin winning; without the right it is DENIED, without a lift NONE_READY. The reply's
FULL_WAIT where the ejection starts in the same event is log entry 16's. -/
def Obligations.ForceCloseChoosesAndCloses : Prop :=
  ∀ (r : Req) (i : LineNo) (code : Nat) (cls : Option Nat) (s : State),
    LineAdmitted r i (.forceClose r code cls) s →
    (s.arbiter.settings[i].force = false →
      exec (.forceClose r code cls) s
        = .next (refusedRecorded (.line i) r.tag .forceClose .denied (some (.grade code)) s))
    ∧ (s.arbiter.settings[i].force = true →
      (code = 0 ∨ 250 < code ∨ ∃ c, cls = some c ∧ 3 < c) →
      exec (.forceClose r code cls) s
        = .next (answered r.port (refusedItem r .forceClose .invalid) s))
    ∧ (s.arbiter.settings[i].force = true → 1 ≤ code → code ≤ 250 → (∀ c, cls = some c → c ≤ 3) →
      let candidate := fun (b : BinNo) (l : Lift) =>
        ∃ k g, s.banks.active = some k ∧ ruleIn s k code = some g
          ∧ (s.bin b).state = .filling l ∧ l.key.bank = k ∧ l.key.code = code
          ∧ (∀ c, cls = some c → l.key.cls = c) ∧ g.shortMin ≤ l.landed
      ((∀ b l, ¬candidate b l) →
        exec (.forceClose r code cls) s
          = .next (answered r.port (refusedItem r .forceClose .noneReady) s))
      ∧ ∀ (b : BinNo) (l : Lift), candidate b l →
          (∀ c m, candidate c m → m.landed < l.landed ∨ m.landed = l.landed ∧ b ≤ c) →
          (l.inFlight ≠ 0 →
            ∃ t : State, exec (.forceClose r code cls) s = .next t
              ∧ BeltFrame
                  (answered r.port
                    (doneItem r .forceClose
                      (.forced b l.id l.key l.landed l.inFlight (.drainClose .short))) s) t
              ∧ (t.bin b).state = .drainClose .short l
              ∧ t.tracker = s.tracker ∧ t.events = s.events ∧ t.tallies = s.tallies ∧ t.store = s.store)
          ∧ (l.inFlight = 0 → l.landed ≠ 0 →
            ∃ t m, exec (.forceClose r code cls) s = .next t
              ∧ BeltFrame
                  (answered r.port
                    (doneItem r .forceClose (.forced b l.id l.key l.landed 0 .fullWait)) s) t
              ∧ ((t.bin b).state = .fullWait m ∨ (t.bin b).state = .ejecting m)
              ∧ m.id = l.id ∧ m.landed = l.landed ∧ m.closeReason = some .short
              ∧ t.tracker = s.tracker
              ∧ t.events = s.events.append (.liftClosed l.id b .short l.landed l.mean l.moistureMax)))

/-- A drain that is due discards a lift nothing has landed on, and closes any other with the bin's reason and the
next close order; one that is not due has no effect. As a command it acts where the drain is still due (log
entry 6). -/
def Obligations.DrainCompletes : Prop :=
  ∀ (b : BinNo) (s : State),
    (∀ why l, (s.bin b).state = .drainClose why l → l.inFlight = 0 → l.landed = 0 →
      ∃ t : State, exec (.drainCompletion b) s = .next t
        ∧ BeltFrame s t
        ∧ (t.bin b).state = .ready ∧ t.tracker = s.tracker ∧ t.tallies = s.tallies ∧ t.store = s.store
        ∧ t.events = s.events.append (.liftDiscarded l.id b (.close why)))
    ∧ (∀ why l, (s.bin b).state = .drainClose why l → l.inFlight = 0 → l.landed ≠ 0 →
      ∃ t m, exec (.drainCompletion b) s = .next t
        ∧ BeltFrame s t
        ∧ ((t.bin b).state = .fullWait m ∧ m.state = .closed ∧ m.slot = l.slot
          ∨ (t.bin b).state = .ejecting m ∧ m.state = .ejecting)
        ∧ m.id = l.id ∧ m.key = l.key ∧ m.landed = l.landed ∧ m.closeReason = some why
        ∧ m.closeOrder = some (s.store.closeCounter + 1)
        ∧ t.tracker = s.tracker
        ∧ t.store = { s.store with closeCounter := s.store.closeCounter + 1 }
        ∧ t.tallies.closed[why.idx] = min 4294967295 (s.tallies.closed[why.idx] + 1)
        ∧ t.events = s.events.append (.liftClosed l.id b why l.landed l.mean l.moistureMax))
    ∧ ((∀ why l, (s.bin b).state = .drainClose why l → l.inFlight ≠ 0) →
      GatesUpToDate s → OutfeedConsistent s → exec (.drainCompletion b) s = .next s)

/-- No two lift records in use ever carry the same id. -/
def Obligations.LiftIdsStayDistinct : Prop :=
  ∀ s t : State, LiftIdsDistinct s → step s = .next t → LiftIdsDistinct t

/-! ### The outfeed and the slots -/

/-- An ejection starts when the outfeed is FREE, a FULL_WAIT bin heads the queue and a slot is EMPTY: that bin into
the lowest EMPTY slot, with the timer at the timeout; when one of the three fails nothing happens. As a command it acts
where the start is still due (log entry 6). -/
def Obligations.EjectionStarts : Prop :=
  ∀ s : State,
    (∀ (b : BinNo) (rest : List BinNo) (l : Lift) (n : SlotNo),
      s.outfeed.state = .free → s.outfeed.queue = b :: rest → (s.bin b).state = .fullWait l →
      s.slots[n].state = .empty → (∀ m : SlotNo, m < n → s.slots[m].state ≠ .empty) →
      exec .ejectionStart s
        = .next { s with
            outfeed :=
              { state := .busy b n, queue := rest, timer := some (s.outfeed.timeout * 1000)
                timeout := s.outfeed.timeout }
            bins :=
              vset s.bins b
                { s.bin b with
                  state := .ejecting { l with state := .ejecting, slot := some n }, eject := true }
            slots := vset s.slots n { s.slots[n] with state := .reserved b } })
    ∧ (s.outfeed.state ≠ .free ∨ s.outfeed.queue = [] ∨ (∀ n : SlotNo, s.slots[n].state ≠ .empty) →
      exec .ejectionStart s = .next s)

/-- What the edges of a slot eye do: a stack in an EMPTY slot faults it; the eye of a RESERVED slot completes the
ejection, after which a matching pass is run and then the ejection start test made; the clearing of a HOLDING slot's
eye is a removal, TAKEN by the line its lift is assigned to, after which a pass is run and the test made, or
unclaimed, after which the test is made; otherwise the eye state alone moves. A blocking edge of an eye that is
blocked already, and a clearing edge of one that is clear, do nothing (log entry 7). -/
def Obligations.SlotEyeEdges : Prop :=
  ∀ (n : SlotNo) (s : State),
    let seen := fun (x : Bool) => { s with slots := vset s.slots n { s.slots[n] with eye := x } }
    (s.slots[n].eye = true → exec (.slotEyeBlocked n) s = .next s)
    ∧ (s.slots[n].eye = false → s.slots[n].state = .offline ∨ s.slots[n].state = .faulted →
      exec (.slotEyeBlocked n) s = .next (seen true))
    ∧ (s.slots[n].eye = false → s.slots[n].state = .empty →
      exec (.slotEyeBlocked n) s
        = .next { s with
            slots := vset s.slots n { state := .faulted, eye := true }
            events := s.events.append (.slotFaulted n) })
    ∧ (∀ (b : BinNo) (l : Lift), s.slots[n].eye = false → s.slots[n].state = .reserved b →
      (s.bin b).state = .ejecting l →
      ∃ t m, exec (.slotEyeBlocked n) s = .next t
        ∧ t.slots[n].state = .holding m ∧ t.slots[n].eye = true
        ∧ m.id = l.id ∧ m.key = l.key ∧ m.landed = l.landed ∧ m.closeOrder = l.closeOrder
        ∧ (m.state = .stored ∨ m.state = .assigned)
        ∧ (t.bin b).state = .ready ∧ (t.bin b).eject = false
        ∧ (t.outfeed.state = .free ∨ ∃ c k, t.outfeed.state = .busy c k)
        ∧ (∃ u : State,
            MatchingPass
              { s with
                slots := vset s.slots n { state := .holding { l with state := .stored }, eye := true }
                bins := vset s.bins b { s.bin b with state := .ready, eject := false }
                outfeed := { s.outfeed with state := .free, timer := none }
                events := s.events.append (.liftStored l.id n) } u
            ∧ (GatesUpToDate s → exec .ejectionStart u = .next t))
        ∧ t.events = s.events.append (.liftStored l.id n)
        ∧ t.tracker = s.tracker ∧ t.banks = s.banks ∧ t.geometry = s.geometry ∧ t.mode = s.mode
        ∧ t.tallies = s.tallies ∧ t.refusal = s.refusal ∧ t.pending = s.pending)
    ∧ (s.slots[n].eye = false → exec (.slotEyeClears n) s = .next s)
    ∧ (s.slots[n].eye = true → (∀ l, s.slots[n].state ≠ .holding l) →
      exec (.slotEyeClears n) s = .next (seen false))
    ∧ (∀ l : Lift, s.slots[n].eye = true → s.slots[n].state = .holding l → l.state = .stored →
      ∃ t : State, exec (.slotEyeClears n) s = .next t
        ∧ BeltFrame (seen false) t
        ∧ (t.slots[n].state = .empty ∨ ∃ b, t.slots[n].state = .reserved b)
        ∧ t.events = s.events.append (.liftUnclaimed l.id n)
        ∧ t.tallies = { s.tallies with unclaimed := min 4294967295 (s.tallies.unclaimed + 1) }
        ∧ t.tracker = s.tracker
        ∧ (GatesUpToDate s →
            exec .ejectionStart
              { s with
                slots := vset s.slots n { state := .empty, eye := false }
                events := s.events.append (.liftUnclaimed l.id n)
                tallies := { s.tallies with unclaimed := min 4294967295 (s.tallies.unclaimed + 1) } }
              = .next t))
    ∧ (∀ (l : Lift) (p : Pull), s.slots[n].eye = true → s.slots[n].state = .holding l →
      l.state = .assigned → l.pull = some p.number →
      s.arbiter.pulls.find? (fun q => q.number == p.number) = some p →
      ∃ t : State, exec (.slotEyeClears n) s = .next t
        ∧ (t.slots[n].state = .empty ∨ ∃ b, t.slots[n].state = .reserved b)
        ∧ t.slots[n].eye = false
        ∧ (∃ u : State,
            MatchingPass
              { s with
                slots := vset s.slots n { state := .empty, eye := false }
                arbiter :=
                  { s.arbiter with
                    pulls := s.arbiter.pulls.eraseP (fun q => q.number == p.number && q.line == p.line) }
                ports := noticed p.line (.taken p.number l.id n) s
                events := s.events.append (.liftTaken l.id n p.line)
                tallies := { s.tallies with taken := min 4294967295 (s.tallies.taken + 1) } } u
            ∧ (GatesUpToDate s → exec .ejectionStart u = .next t))
        ∧ t.arbiter.pulls.map (fun q => q.number)
            = (s.arbiter.pulls.erase p).map (fun q => q.number)
        ∧ (∃ more : List Item,
            (t.port (.line p.line)).queue
              = (if (s.port (.line p.line)).queue.length < 16
                  then (s.port (.line p.line)).queue ++ [.notice (.taken p.number l.id n)]
                  else (s.port (.line p.line)).queue) ++ more)
        ∧ t.events = s.events.append (.liftTaken l.id n p.line)
        ∧ t.tallies = { s.tallies with taken := min 4294967295 (s.tallies.taken + 1) }
        ∧ t.tracker = s.tracker ∧ t.banks = s.banks ∧ t.geometry = s.geometry ∧ t.mode = s.mode
        ∧ t.refusal = s.refusal ∧ t.pending = s.pending)

/-- The running out of the eject timer, as a command (log entry 10) and as a millisecond of the model's clock (log
entry 1), faults the ejecting bin and blocks the outfeed, with the bin's entries re-routed or turned away and the
entry eye's sheet untracked if its entry is removed; CLEAR_OUTFEED frees a BLOCKED outfeed and is refused NOT_NOW in
every other state. -/
def Obligations.EjectTimeoutAndClearOutfeed : Prop :=
  (∀ (b : BinNo) (n : SlotNo) (l : Lift) (s : State), s.outfeed.state = .busy b n →
    (s.bin b).state = .ejecting l →
    ∃ t m, exec .ejectTimeout s = .next t
      ∧ BeltFrame s t
      ∧ (t.bin b).state = .faulted .ejectTimeout (some m) ∧ (t.bin b).eject = false
      ∧ m.id = l.id ∧ m.state = .closed ∧ m.slot = none ∧ m.landed = l.landed
      ∧ m.closeReason = l.closeReason ∧ m.closeOrder = l.closeOrder
      ∧ t.outfeed.state = .blocked ∧ t.outfeed.timer = none ∧ b ∉ t.outfeed.queue
      ∧ (∀ k : SlotNo, s.slots[k].state = .reserved b → t.slots[k].state = .empty)
      ∧ (∀ k : SlotNo, s.slots[k].state ≠ .reserved b → t.slots[k] = s.slots[k])
      ∧ (EntriesDistinct s → BinLost b s t ∧ EyeFollows s t)
      ∧ (s.mode ≠ .drain ∨ t.tracker.queue ≠ [] → t.events = s.events.append (.binFaulted b .ejectTimeout))
      ∧ (s.mode = .drain → t.tracker.queue = [] → t.mode = .idle))
  ∧ (∀ s : State, (∀ b n, s.outfeed.state ≠ .busy b n) → exec .ejectTimeout s = .next s)
  ∧ (∀ (b : BinNo) (n : SlotNo) (l : Lift) (s : State), s.pending = [] → s.outfeed.timer = some 1 →
    s.outfeed.state = .busy b n → (s.bin b).state = .ejecting l →
    ∃ t : State, step s = .next t ∧ t.outfeed.state = .blocked ∧ t.outfeed.timer = none
      ∧ (t.bin b).state.tag = .faulted .ejectTimeout)
  ∧ ∀ (r : Req) (s : State), Admitted (.clearOutfeed r) s →
      (s.outfeed.state ≠ .blocked →
        exec (.clearOutfeed r) s = .next (answered r.port (refusedItem r .clearOutfeed .notNow) s))
      ∧ (s.outfeed.state = .blocked →
        ∃ t : State, exec (.clearOutfeed r) s = .next t
          ∧ BeltFrame (answered r.port (doneItem r .clearOutfeed .plain) s) t
          ∧ (t.outfeed.state = .free ∨ ∃ b n, t.outfeed.state = .busy b n)
          ∧ (∀ b : BinNo, (∀ l, (s.bin b).state ≠ .fullWait l) → (t.bin b).state = (s.bin b).state)
          ∧ (∀ n : SlotNo, s.slots[n].state ≠ .empty → t.slots[n] = s.slots[n])
          ∧ t.tracker = s.tracker ∧ t.events = s.events ∧ t.tallies = s.tallies)

/-- SLOT_ONLINE and CLEAR_SLOT bring a slot to EMPTY when its eye is clear, SLOT_OFFLINE takes an EMPTY or FAULTED
slot OFFLINE, and each is refused in every other case. -/
def Obligations.SlotServiceRequests : Prop :=
  ∀ (r : Req) (n : SlotNo) (s : State),
    (Admitted (.slotOnline r n.val) s → s.slots[n].state = .offline → s.slots[n].eye = false →
      ∃ t : State, exec (.slotOnline r n.val) s = .next t
        ∧ BeltFrame (answered r.port (doneItem r .slotOnline (.slot n .empty)) s) t
        ∧ (t.slots[n].state = .empty ∨ ∃ b, t.slots[n].state = .reserved b)
        ∧ t.tracker = s.tracker ∧ t.events = s.events ∧ t.tallies = s.tallies)
    ∧ (Admitted (.slotOnline r n.val) s → s.slots[n].state = .offline → s.slots[n].eye = true →
      exec (.slotOnline r n.val) s = .next (answered r.port (refusedItem r .slotOnline .notClear) s))
    ∧ (Admitted (.slotOnline r n.val) s → s.slots[n].state ≠ .offline →
      exec (.slotOnline r n.val) s = .next (answered r.port (refusedItem r .slotOnline .notNow) s))
    ∧ (Admitted (.clearSlot r n.val) s → s.slots[n].state = .faulted → s.slots[n].eye = false →
      ∃ t : State, exec (.clearSlot r n.val) s = .next t
        ∧ BeltFrame (answered r.port (doneItem r .clearSlot (.slot n .empty)) s) t
        ∧ (t.slots[n].state = .empty ∨ ∃ b, t.slots[n].state = .reserved b)
        ∧ t.tracker = s.tracker ∧ t.events = s.events ∧ t.tallies = s.tallies)
    ∧ (Admitted (.clearSlot r n.val) s → s.slots[n].state = .faulted → s.slots[n].eye = true →
      exec (.clearSlot r n.val) s = .next (answered r.port (refusedItem r .clearSlot .notClear) s))
    ∧ (Admitted (.clearSlot r n.val) s → s.slots[n].state ≠ .faulted →
      exec (.clearSlot r n.val) s = .next (answered r.port (refusedItem r .clearSlot .notNow) s))
    ∧ (Admitted (.slotOffline r n.val) s → s.slots[n].state = .empty ∨ s.slots[n].state = .faulted →
      exec (.slotOffline r n.val) s
        = .next (answered r.port (doneItem r .slotOffline (.slot n .offline))
            { s with slots := vset s.slots n { s.slots[n] with state := .offline } }))
    ∧ (Admitted (.slotOffline r n.val) s → s.slots[n].state ≠ .empty → s.slots[n].state ≠ .faulted →
      exec (.slotOffline r n.val) s = .next (answered r.port (refusedItem r .slotOffline .notNow) s))
    ∧ ∀ k, 24 ≤ k →
      (Admitted (.slotOnline r k) s →
        exec (.slotOnline r k) s = .next (answered r.port (refusedItem r .slotOnline .invalid) s))
      ∧ (Admitted (.clearSlot r k) s →
        exec (.clearSlot r k) s = .next (answered r.port (refusedItem r .clearSlot .invalid) s))
      ∧ (Admitted (.slotOffline r k) s →
        exec (.slotOffline r k) s = .next (answered r.port (refusedItem r .slotOffline .invalid) s))

/-- The outfeed, the ejection queue, the bins and the slots agree after every step if they did before, and no
ejection that could start is left unstarted. The ejection queue stands in the order of the close orders after every
step if it did before, while the close orders can be compared. -/
def Obligations.OutfeedStaysConsistent : Prop :=
  ∀ s t : State, OutfeedConsistent s → step s = .next t →
    OutfeedConsistent t ∧ (EjectionInOrder s → CloseOrdersComparable s → EjectionInOrder t)

/-! ### Settings, pulls and handovers -/

/-- The parameter writes of the outfeed, the pull arbiter and the event list: a value in range replaces the value held
and is answered, one out of range is refused INVALID; a lowered pass limit cuts the pass counts above it. The mask
written decides what is entered: an event that a rule raises (`append`, in every statement) is not entered where its
kind is disabled, is appended where the list holds fewer than 32, and is dropped with the overflow mark set where it
is full. -/
def Obligations.ParameterWrites : Prop :=
  ∀ (r : Req) (s : State),
    (∀ n, Admitted (.writeEjectTimeout r n) s →
      (5 ≤ n → n ≤ 120 →
        exec (.writeEjectTimeout r n) s
          = .next (answered r.port (doneItem r .writeEjectTimeout (.value n))
              { s with outfeed := { s.outfeed with timeout := n } }))
      ∧ (n < 5 ∨ 120 < n →
        exec (.writeEjectTimeout r n) s
          = .next (answered r.port (refusedItem r .writeEjectTimeout .invalid) s)))
    ∧ (∀ n, Admitted (.writePassLimit r n) s →
      (1 ≤ n → n ≤ 15 →
        exec (.writePassLimit r n) s
          = .next (answered r.port (doneItem r .writePassLimit (.value n))
              { s with
                arbiter :=
                  { s.arbiter with
                    passLimit := n
                    pulls :=
                      s.arbiter.pulls.map (fun p =>
                        { p with
                          passCount :=
                            if n < s.arbiter.passLimit then min n p.passCount else p.passCount }) } }))
      ∧ (n < 1 ∨ 15 < n →
        exec (.writePassLimit r n) s
          = .next (answered r.port (refusedItem r .writePassLimit .invalid) s)))
    ∧ (∀ n, Admitted (.writeHandoverTimeout r n) s →
      (10 ≤ n → n ≤ 600 →
        exec (.writeHandoverTimeout r n) s
          = .next (answered r.port (doneItem r .writeHandoverTimeout (.value n))
              { s with arbiter := { s.arbiter with handoverTimeout := n } }))
      ∧ (n < 10 ∨ 600 < n →
        exec (.writeHandoverTimeout r n) s
          = .next (answered r.port (refusedItem r .writeHandoverTimeout .invalid) s)))
    ∧ (∀ (i : LineNo) (access : AccessSet) (force : Bool) (rank : Nat),
      Admitted (.writeLine r i.val access force rank) s →
      (∀ l, access = .codes l → 1 ≤ l.length ∧ l.length ≤ 8 ∧ l.Nodup ∧ ∀ c ∈ l, 1 ≤ c ∧ c ≤ 250) →
      rank ≤ 3 →
      exec (.writeLine r i.val access force rank) s
        = .next (answered r.port (doneItem r .writeLine (.line i ⟨access, force, rank⟩))
            { s with
              arbiter := { s.arbiter with settings := vset s.arbiter.settings i ⟨access, force, rank⟩ } }))
    ∧ (∀ (line : Nat) (access : AccessSet) (force : Bool) (rank : Nat),
      Admitted (.writeLine r line access force rank) s →
      (4 ≤ line ∨ 3 < rank
        ∨ ∃ l, access = .codes l
          ∧ (l = [] ∨ 8 < l.length ∨ ¬l.Nodup ∨ ∃ c ∈ l, c = 0 ∨ 250 < c)) →
      exec (.writeLine r line access force rank) s
        = .next (answered r.port (refusedItem r .writeLine .invalid) s))
    ∧ (∀ mask : EventMask, Admitted (.writeEventMask r mask) s →
      exec (.writeEventMask r mask) s
        = .next (answered r.port (doneItem r .writeEventMask (.mask mask))
            { s with events := { s.events with mask := mask } }))
    ∧ ∀ (l : EventLog) (e : Event),
        let enabled : Bool :=
          match e with
          | .trackFull => l.mask.trackFull
          | .syncChanged _ => l.mask.syncChanged
          | .binSuspect _ _ => l.mask.binSuspect
          | .binFaulted _ _ => l.mask.binFaulted
          | .liftClosed _ _ _ _ _ _ => l.mask.liftClosed
          | .liftDiscarded _ _ _ => l.mask.liftDiscarded
          | .liftStored _ _ => l.mask.liftStored
          | .slotFaulted _ => l.mask.slotFaulted
          | .liftUnclaimed _ _ => l.mask.liftUnclaimed
          | .liftTaken _ _ _ => l.mask.liftTaken
          | .handoverExpired _ _ => l.mask.handoverExpired
          | .modeChanged _ => l.mask.modeChanged
        (enabled = false → l.append e = l)
        ∧ (enabled = true → l.list.length < 32 → l.append e = { l with list := l.list ++ [e] })
        ∧ (enabled = true → 32 ≤ l.list.length → l.append e = { l with overflow := true })

/-- A PULL that passes R149 creates a WAITING pull of pass count 0 with the next number and arrival, its reply first
on the line's port, and a matching pass follows, which gives each STORED lift, the earliest close order first, to
the candidate of the highest effective rank and the earliest arrival, with its timer at the handover timeout, and
passes over the others; the first check that fails refuses the PULL with nothing created. -/
def Obligations.PullCreates : Prop :=
  ∀ (r : Req) (i : LineNo) (code : Nat) (bank cls : Option Nat) (nowait : Bool) (s : State),
    LineAdmitted r i (.pull r code bank cls nowait) s →
    let fields := 1 ≤ code ∧ code ≤ 250 ∧ (∀ n, bank = some n → n ≤ 3) ∧ (∀ n, cls = some n → n ≤ 3)
    let access := s.arbiter.settings[i].access = .all
      ∨ ∃ l, s.arbiter.settings[i].access = .codes l ∧ code ∈ l
    let matched := ∃ (n : SlotNo) (l : Lift), s.slots[n].state = .holding l ∧ l.state = .stored
      ∧ l.key.code = code ∧ (∀ k, bank = some k → l.key.bank.val = k) ∧ (∀ c, cls = some c → l.key.cls = c)
    (¬fields →
      exec (.pull r code bank cls nowait) s = .next (answered r.port (refusedItem r .pull .invalid) s))
    ∧ (fields → ¬access →
      exec (.pull r code bank cls nowait) s
        = .next (refusedRecorded (.line i) r.tag .pull .denied (some (.grade code)) s))
    ∧ (fields → access → 4 ≤ (s.arbiter.pulls.filter (fun p => p.line == i)).length →
      exec (.pull r code bank cls nowait) s = .next (answered r.port (refusedItem r .pull .full) s))
    ∧ (fields → access → (s.arbiter.pulls.filter (fun p => p.line == i)).length < 4 →
      nowait = true → ¬matched →
      exec (.pull r code bank cls nowait) s
        = .next (answered r.port (refusedItem r .pull .noneReady) s))
    ∧ (fields → access → (s.arbiter.pulls.filter (fun p => p.line == i)).length < 4 →
      (nowait = true → matched) →
      ∃ t number, exec (.pull r code bank cls nowait) s = .next t
        ∧ PassFrame s t ∧ NoCandidateLeft t
        ∧ number = freshPullNumber s
        ∧ MatchingPass
            (answered r.port (doneItem r .pull (.pulled number (s.arbiter.arrivals + 1)))
              { s with
                arbiter :=
                  { s.arbiter with
                    pulls := s.arbiter.pulls
                      ++ [{ number := number, line := i, code := code, bank := bank, cls := cls
                            arrival := s.arbiter.arrivals + 1, passCount := 0, state := .waiting }]
                    nextNumber := nextNumberAfter number, arrivals := s.arbiter.arrivals + 1 } }) t
        ∧ t.arbiter.arrivals = s.arbiter.arrivals + 1
        ∧ t.arbiter.nextNumber = nextNumberAfter number
        ∧ t.arbiter.settings = s.arbiter.settings ∧ t.arbiter.expired = s.arbiter.expired
        ∧ t.arbiter.pulls.map (fun p => (p.number, p.line, p.code, p.bank, p.cls, p.arrival))
            = s.arbiter.pulls.map (fun p => (p.number, p.line, p.code, p.bank, p.cls, p.arrival))
              ++ [(number, i, code, bank, cls, s.arbiter.arrivals + 1)]
        ∧ ∃ more : List Item,
            (t.port (.line i)).queue
              = (s.port (.line i)).queue
                ++ [doneItem r .pull (.pulled number (s.arbiter.arrivals + 1))] ++ more)

/-- RELEASE of an ASSIGNED pull and the expiry of a handover end that pull, return its lift to its slot and run a
matching pass on the state which that leaves; RELEASE of any other number is refused NOT_NOW, LATE, UNKNOWN or INVALID
with no effect. The expiry as a command acts whenever the line's handover is there (log entry 10). -/
def Obligations.ReleaseAndHandoverExpiry : Prop :=
  (∀ (r : Req) (i : LineNo) (number : Nat) (s : State), LineAdmitted r i (.release r number) s →
    (number = 0 ∨ 65535 < number →
      exec (.release r number) s = .next (answered r.port (refusedItem r .release .invalid) s))
    ∧ (1 ≤ number → number ≤ 65535 →
      (∀ p, ownPull s i number = some p → p.state = .waiting →
        exec (.release r number) s = .next (answered r.port (refusedItem r .release .notNow) s))
      ∧ (ownPull s i number = none → number ∈ s.arbiter.expired[i] →
        exec (.release r number) s = .next (answered r.port (refusedItem r .release .late) s))
      ∧ (ownPull s i number = none → number ∉ s.arbiter.expired[i] →
        exec (.release r number) s = .next (answered r.port (refusedItem r .release .unknown) s))
      ∧ (∀ p lift left n l, ownPull s i number = some p → p.state = .assigned lift left →
        slotOfPull s number = some (n, l) →
        ∃ t m, exec (.release r number) s = .next t
          ∧ PassFrame s t ∧ NoCandidateLeft t
          ∧ MatchingPass
              (answered r.port (doneItem r .release (.released number lift))
                { s with
                  slots :=
                    vset s.slots n { s.slots[n] with state := .holding { l with state := .stored, pull := none } }
                  arbiter := { s.arbiter with pulls := s.arbiter.pulls.erase p } }) t
          ∧ t.arbiter.pulls.map (fun q => q.number) = (s.arbiter.pulls.erase p).map (fun q => q.number)
          ∧ t.arbiter.expired = s.arbiter.expired
          ∧ t.slots[n].state = .holding m ∧ m.id = l.id ∧ m.key = l.key ∧ m.closeOrder = l.closeOrder
          ∧ (m.state = .stored ∧ m.pull = none ∨ m.state = .assigned)
          ∧ ∃ more : List Item,
              (t.port (.line i)).queue
                = (s.port (.line i)).queue ++ [doneItem r .release (.released number lift)] ++ more)))
  ∧ (∀ (i : LineNo) (p : Pull) (n : SlotNo) (l : Lift) (s : State), handoverOf s i = some (p, n, l) →
    ∃ t m, exec (.handoverExpired i) s = .next t
      ∧ t.tracker = s.tracker ∧ t.banks = s.banks ∧ t.bins = s.bins ∧ t.outfeed = s.outfeed
      ∧ t.mode = s.mode ∧ t.tallies = s.tallies ∧ t.refusal = s.refusal ∧ t.pending = s.pending
      ∧ NoCandidateLeft t
      ∧ MatchingPass
          { s with
            slots := vset s.slots n { s.slots[n] with state := .holding { l with state := .stored, pull := none } }
            arbiter :=
              { s.arbiter with
                pulls := s.arbiter.pulls.eraseP (fun q => q.number == p.number && q.line == i)
                expired :=
                  vset s.arbiter.expired i
                    (if s.arbiter.expired[i].length < 4 then s.arbiter.expired[i] ++ [p.number]
                    else s.arbiter.expired[i].tail ++ [p.number]) }
            ports := noticed i (.expired p.number l.id n) s
            events := s.events.append (.handoverExpired l.id i) } t
      ∧ ((s.arbiter.pulls.map (fun q => q.number)).Nodup → p.number ∉ t.arbiter.pulls.map (fun q => q.number))
      ∧ t.events = s.events.append (.handoverExpired l.id i)
      ∧ t.arbiter.expired[i]
          = (if s.arbiter.expired[i].length < 4 then s.arbiter.expired[i] ++ [p.number]
            else s.arbiter.expired[i].tail ++ [p.number])
      ∧ (∀ j : LineNo, j ≠ i → t.arbiter.expired[j] = s.arbiter.expired[j])
      ∧ t.arbiter.pulls.length + 1 = s.arbiter.pulls.length
      ∧ t.slots[n].state = .holding m ∧ m.id = l.id ∧ m.key = l.key ∧ m.closeOrder = l.closeOrder
      ∧ (m.state = .stored ∧ m.pull = none ∨ m.state = .assigned)
      ∧ ∃ more : List Item,
          (t.port (.line i)).queue
            = (if (s.port (.line i)).queue.length < 16
                then (s.port (.line i)).queue ++ [.notice (.expired p.number l.id n)]
                else (s.port (.line i)).queue) ++ more)
  ∧ ∀ (i : LineNo) (s : State), handoverOf s i = none → exec (.handoverExpired i) s = .next s

/-- CANCEL ends a WAITING pull of the line, refuses an ASSIGNED one ASSIGNED and any other number UNKNOWN, and is
refused INVALID out of range and DENIED on the scan and setup ports. -/
def Obligations.CancelWithdrawsWaitingPull : Prop :=
  ∀ (r : Req) (number : Nat) (s : State), Taken (.cancel r number) s →
    ((∀ i, r.port ≠ .line i) →
      exec (.cancel r number) s = .next (refusedRecorded r.port r.tag .cancel .denied none s))
    ∧ ∀ i : LineNo, r.port = .line i →
        ((number = 0 ∨ 65535 < number) →
          exec (.cancel r number) s = .next (answered r.port (refusedItem r .cancel .invalid) s))
        ∧ (r.formed = true → 1 ≤ number → number ≤ 65535 →
          let own := s.arbiter.pulls.find? (fun p => p.number == number && p.line == i)
          (∀ p, own = some p → p.state = .waiting →
            exec (.cancel r number) s
              = .next (answered r.port (doneItem r .cancel (.cancelled number))
                  { s with arbiter := { s.arbiter with pulls := s.arbiter.pulls.erase p } }))
          ∧ (∀ p lift left, own = some p → p.state = .assigned lift left →
            exec (.cancel r number) s = .next (answered r.port (refusedItem r .cancel .assigned) s))
          ∧ (own = none →
            exec (.cancel r number) s = .next (answered r.port (refusedItem r .cancel .unknown) s)))

/-- After every step no STORED lift has a candidate pull, if none had one before; and an ASSIGNED lift and exactly one
ASSIGNED pull name each other, at most one on a line, the pulls having numbers of their own, if that was so before and
the lists were within their limits. -/
def Obligations.NoCandidateStaysUnmatched : Prop :=
  ∀ s t : State, step s = .next t →
    (NoCandidateLeft s → NoCandidateLeft t)
    ∧ (RecipeAndPullLimits s → HandoversPaired s → HandoversPaired t)

/-! ### Sort modes, tallies, events and geometry -/

/-- START and DRAIN in each mode, and the end of a drain, which sends every FILLING bin on SHIFT_END and makes the
mode IDLE; as a command, the end acts where it is still due (log entry 6). -/
def Obligations.StartAndDrain : Prop :=
  ∀ (r : Req) (s : State),
    (Admitted (.start r) s →
      s.mode = .drain ∨ s.mode = .idle ∧ s.banks.active ≠ none ∧ s.geometry.beltEnd ≠ none →
      exec (.start r) s
        = .next (answered r.port (doneItem r .start (.mode .run))
            { s with mode := .run, events := s.events.append (.modeChanged .run) }))
    ∧ (Admitted (.start r) s →
      s.mode = .run ∨ s.mode = .idle ∧ (s.banks.active = none ∨ s.geometry.beltEnd = none) →
      exec (.start r) s = .next (answered r.port (refusedItem r .start .notNow) s))
    ∧ (Admitted (.drain r) s → s.mode ≠ .run →
      exec (.drain r) s = .next (answered r.port (refusedItem r .drain .notNow) s))
    ∧ (Admitted (.drain r) s → s.mode = .run → s.tracker.queue ≠ [] →
      GatesUpToDate s → OutfeedConsistent s →
      exec (.drain r) s
        = .next (answered r.port (doneItem r .drain (.mode .drain))
            { s with mode := .drain, events := s.events.append (.modeChanged .drain) }))
    ∧ (Admitted (.drain r) s → s.mode = .run → s.tracker.queue = [] →
      ∃ t : State, exec (.drain r) s = .next t
        ∧ t.ports = answeredPorts r.port (doneItem r .drain (.mode .idle)) s
        ∧ t.mode = .idle ∧ t.tracker = s.tracker ∧ t.banks = s.banks ∧ t.geometry = s.geometry
        ∧ t.arbiter = s.arbiter ∧ t.refusal = s.refusal ∧ t.pending = s.pending
        ∧ (∀ b l, (s.bin b).state = .filling l → l.inFlight = 0 →
            (l.landed = 0 → (t.bin b).state = .ready)
            ∧ (l.landed ≠ 0 →
              ∃ m, ((t.bin b).state = .fullWait m ∨ (t.bin b).state = .ejecting m)
                ∧ m.id = l.id ∧ m.closeReason = some .shiftEnd)))
    ∧ (s.mode = .drain → s.tracker.queue = [] →
      ∃ t : State, exec .endOfDrain s = .next t
        ∧ BeltFrame s t ∧ t.mode = .idle ∧ t.tracker = s.tracker
        ∧ (∀ b l, (s.bin b).state = .filling l → l.inFlight = 0 →
            (l.landed = 0 → (t.bin b).state = .ready)
            ∧ (l.landed ≠ 0 →
              ∃ m, ((t.bin b).state = .fullWait m ∨ (t.bin b).state = .ejecting m)
                ∧ m.id = l.id ∧ m.closeReason = some .shiftEnd)))
    ∧ (s.mode ≠ .drain ∨ s.tracker.queue ≠ [] → GatesUpToDate s → OutfeedConsistent s →
      exec .endOfDrain s = .next s)

/-- STOP and RESTART discard the sheets on the belt as MODE_STOP rejects, reset scan sync, close the gates and make
the mode IDLE; RESTART also discards the pulls and empties the outgoing queues. -/
def Obligations.StopAndRestart : Prop :=
  ∀ (r : Req) (s : State),
    let stopped := fun (t : State) =>
      t.mode = .idle ∧ t.tracker.queue = [] ∧ t.tracker.mismatches = 0
      ∧ t.tracker.travel = s.tracker.travel ∧ t.tracker.nextNumber = s.tracker.nextNumber
      ∧ t.tracker.lastTrailing = s.tracker.lastTrailing
      ∧ t.tracker.eye = (if s.tracker.eye = .blockedTracked then .blockedUntracked else s.tracker.eye)
      ∧ t.tallies.rejects[RejectReason.modeStop.idx]
          = min 4294967295 (s.tallies.rejects[RejectReason.modeStop.idx] + s.tracker.queue.length)
      ∧ (∀ b : BinNo, (t.bin b).gate = false ∧ (t.bin b).suspicion = 0
          ∧ (t.bin b).eyeMark = (s.bin b).eyeMark)
      ∧ t.redryGate = false
      ∧ (∀ b l, (s.bin b).state = .filling l → (t.bin b).state = .filling { l with inFlight := 0 })
      ∧ (∀ b why l, (s.bin b).state = .drainClose why l → l.landed = 0 → (t.bin b).state = .ready)
      ∧ (∀ b why l, (s.bin b).state = .drainClose why l → l.landed ≠ 0 →
          ∃ m, ((t.bin b).state = .fullWait m ∨ (t.bin b).state = .ejecting m)
            ∧ m.id = l.id ∧ m.closeReason = some why)
      ∧ t.banks = s.banks ∧ t.geometry = s.geometry ∧ t.refusal = s.refusal ∧ t.pending = s.pending
    (Admitted (.stop r) s → s.mode = .idle →
      exec (.stop r) s = .next (answered r.port (refusedItem r .stop .notNow) s))
    ∧ (Admitted (.stop r) s → s.mode ≠ .idle →
      ∃ t : State, exec (.stop r) s = .next t ∧ stopped t ∧ t.arbiter = s.arbiter
        ∧ t.ports = answeredPorts r.port (doneItem r .stop (.stopped .idle s.tracker.queue.length)) s)
    ∧ (Admitted (.restart r) s →
      ∃ t : State, exec (.restart r) s = .next t ∧ stopped t
        ∧ t.arbiter = { s.arbiter with pulls := [], expired := Vector.replicate 4 [] }
        ∧ (∀ (n : SlotNo) (l : Lift), s.slots[n].state = .holding l →
            ∃ m, t.slots[n].state = .holding m ∧ m.id = l.id ∧ m.key = l.key ∧ m.closeOrder = l.closeOrder
              ∧ m.landed = l.landed
              ∧ (l.state = .assigned → m.state = .stored ∧ m.pull = none)
              ∧ (l.state ≠ .assigned → m = l))
        ∧ (t.port .setup).queue
            = [doneItem r .restart (.stopped .idle s.tracker.queue.length)]
        ∧ (t.port .setup).lost = false
        ∧ ∀ p : Port, p ≠ .setup → (t.port p).queue = [] ∧ (t.port p).lost = true
            ∧ (t.port p).receiver = (s.port p).receiver ∧ (t.port p).buffer = (s.port p).buffer)

/-- No step but a START makes the mode RUN. -/
def Obligations.RunOnlyByStart : Prop :=
  ∀ s t : State, step s = .next t → s.mode ≠ .run → t.mode = .run →
    ∃ r rest, s.pending = .start r :: rest

/-- TALLY_READ reports every tally, with the landed counters of the named or the active bank's codes, and changes
nothing; TALLY_CLEAR reports the same of the active bank and sets every tally to 0. -/
def Obligations.TallyReadAndClear : Prop :=
  ∀ (r : Req) (s : State),
    let report := fun (bank : Option BankNo) (x : TallyReport) =>
      x.landedTotal = s.tallies.landedTotal ∧ x.redry = s.tallies.redry ∧ x.rejects = s.tallies.rejects
      ∧ x.missed = s.tallies.missed ∧ x.stray = s.tallies.stray ∧ x.closed = s.tallies.closed
      ∧ x.taken = s.tallies.taken ∧ x.unclaimed = s.tallies.unclaimed
      ∧ (bank = none → x.landed = [])
      ∧ ∀ k : BankNo, bank = some k →
          x.landed.map Prod.fst = s.banks.bank[k].rules.map (fun g => g.code)
          ∧ ∀ c ∈ x.landed, ∀ i : Fin 250, i.val + 1 = c.1 → c.2 = s.tallies.landed[i]
    (Admitted (.tallyRead r none) s → ∃ x, report s.banks.active x
      ∧ exec (.tallyRead r none) s = .next (answered r.port (doneItem r .tallyRead (.tallies x)) s))
    ∧ (∀ k : BankNo, Admitted (.tallyRead r (some k.val)) s → ∃ x, report (some k) x
      ∧ exec (.tallyRead r (some k.val)) s
        = .next (answered r.port (doneItem r .tallyRead (.tallies x)) s))
    ∧ (∀ n, 4 ≤ n → Admitted (.tallyRead r (some n)) s →
      exec (.tallyRead r (some n)) s = .next (answered r.port (refusedItem r .tallyRead .invalid) s))
    ∧ (Admitted (.tallyClear r) s → ∃ x, report s.banks.active x
      ∧ exec (.tallyClear r) s
        = .next (answered r.port (doneItem r .tallyClear (.tallies x))
            { s with
              tallies :=
                { landed := Vector.replicate 250 0, landedTotal := 0, redry := 0
                  rejects := Vector.replicate 10 0, missed := 0, stray := 0
                  closed := Vector.replicate 5 0, taken := 0, unclaimed := 0 } }))

/-- EVENT_READ: what it answers, what it removes and what becomes of the overflow mark. -/
def Obligations.EventRead : Prop :=
  ∀ (r : Req) (count : Nat) (s : State), Admitted (.eventRead r count) s →
    (count < 1 ∨ 8 < count →
      exec (.eventRead r count) s = .next (answered r.port (refusedItem r .eventRead .invalid) s))
    ∧ ∀ taken left : List Event, 1 ≤ count → count ≤ 8 → s.events.list = taken ++ left →
        taken.length = min count s.events.list.length →
        exec (.eventRead r count) s
          = .next (answered r.port (doneItem r .eventRead (.events s.events.overflow taken))
              { s with
                events :=
                  { s.events with
                    list := left
                    overflow := if taken ≠ [] ∧ left = [] then false else s.events.overflow } })

/-- WRITE_GEOMETRY replaces the one value it names; a write that brings the decision point, the belt end, the landing
window end or the eye stuck distance nearer then does as the passage command of every sheet, oldest first, or of every
bin would, and any other does nothing else (log entry 25). The first setting of the belt end, which was unset, counts as
bringing it nearer (log entry 19). It is refused INVALID out of form or range (Table 4-1), NOT_NOW for the position of
a bin that is not OFFLINE, and INVALID with a conflict report when it would break a relation of R76; which relation and
what it names is log entry 23's. -/
def Obligations.GeometryWrites : Prop :=
  ∀ (r : Req) (p : GeomParam) (v : Option Nat) (s : State), Admitted (.writeGeometry r p v) s →
    let offline := ∀ b : BinNo, p = .binPosition b.val → (s.bin b).state = .offline
    (¬GeomWriteFormed p v →
      exec (.writeGeometry r p v) s = .next (answered r.port (refusedItem r .writeGeometry .invalid) s))
    ∧ (GeomWriteFormed p v → ¬offline →
      exec (.writeGeometry r p v) s = .next (answered r.port (refusedItem r .writeGeometry .notNow) s))
    ∧ (∀ c : GeomConflict, GeomWriteFormed p v → offline → ConflictNamed (s.geometry.put p v) c p →
      exec (.writeGeometry r p v) s
        = .next (answered r.port
            (.reply (.request .writeGeometry) r.tag (.refused .invalid (some (.geometry c)))) s))
    ∧ (GeomWriteFormed p v → offline → (∀ c, ¬ConflictNamed (s.geometry.put p v) c p) →
      let written : State :=
        { answered r.port (doneItem r .writeGeometry (.geometry p v)) s with geometry := s.geometry.put p v }
      let nearer := ∃ x, v = some x ∧ ∀ y, s.geometry.value p = some y → x < y
      (nearer → exec (.writeGeometry r p v) s = execAll (nearerCommands p s) written)
      ∧ (¬nearer → exec (.writeGeometry r p v) s = .next written)
      ∧ ∃ t : State, exec (.writeGeometry r p v) s = .next t
        ∧ BeltFrame written t
        ∧ (∀ q : GeomParam, q ≠ p → t.geometry.value q = s.geometry.value q) ∧ t.geometry.value p = v)

/-- After every step the geometry keeps the relations of R76 and every value its range, if it did before. -/
def Obligations.GeometryStaysConsistent : Prop :=
  ∀ s t : State, step s = .next t →
    (GeometryConsistent s.geometry → GeometryConsistent t.geometry)
    ∧ (GeometryInRange s.geometry → GeometryInRange t.geometry)

/-- After every step the queues, counts and lists keep within the capacities the manual gives, if they did
before; the entries stay of different sheets, where the sheet that a step would enter is none of those there (log
entry 14); in DRAIN the tracking queue is not empty; while sync is OUT_OF_STEP no entry waits for its report; and each
lift's in-flight count is the number of entries ROUTED to its bin or LANDING for it. -/
def Obligations.LimitsAreKept : Prop :=
  ∀ s t : State, step s = .next t →
    (BeltLimits s → BeltLimits t) ∧ (ReportingLimits s → ReportingLimits t)
    ∧ (RecipeAndPullLimits s → RecipeAndPullLimits t) ∧ (TallyLimits s → TallyLimits t)
    ∧ (EntriesDistinct s → findEntry ⟨s.tracker.nextNumber, s.tracker.travel⟩ s = none → EntriesDistinct t)
    ∧ (DrainHasSheets s → DrainHasSheets t)
    ∧ (EntriesDistinct s → SyncSwept s → SyncSwept t)
    ∧ (EntriesDistinct s → InFlightCounted s → InFlightCounted t)
end

