-- ==== Sys2Proof/Laws/State.lean ====
section
/-! SUPPORT. Every field of the state after every update: one lemma a field an update, each true by unfolding,
so that no later proof opens a record update. -/

namespace Sys2Proof.Machine

/-! ### setTracker -/

@[simp] theorem setTracker_tracker (f : Tracker → Tracker) (s : State) :
    (setTracker f s).tracker = f s.tracker := rfl
@[simp] theorem setTracker_banks (f : Tracker → Tracker) (s : State) :
    (setTracker f s).banks = s.banks := rfl
@[simp] theorem setTracker_geometry (f : Tracker → Tracker) (s : State) :
    (setTracker f s).geometry = s.geometry := rfl
@[simp] theorem setTracker_bins (f : Tracker → Tracker) (s : State) :
    (setTracker f s).bins = s.bins := rfl
@[simp] theorem setTracker_redryGate (f : Tracker → Tracker) (s : State) :
    (setTracker f s).redryGate = s.redryGate := rfl
@[simp] theorem setTracker_store (f : Tracker → Tracker) (s : State) :
    (setTracker f s).store = s.store := rfl
@[simp] theorem setTracker_outfeed (f : Tracker → Tracker) (s : State) :
    (setTracker f s).outfeed = s.outfeed := rfl
@[simp] theorem setTracker_slots (f : Tracker → Tracker) (s : State) :
    (setTracker f s).slots = s.slots := rfl
@[simp] theorem setTracker_arbiter (f : Tracker → Tracker) (s : State) :
    (setTracker f s).arbiter = s.arbiter := rfl
@[simp] theorem setTracker_mode (f : Tracker → Tracker) (s : State) :
    (setTracker f s).mode = s.mode := rfl
@[simp] theorem setTracker_tallies (f : Tracker → Tracker) (s : State) :
    (setTracker f s).tallies = s.tallies := rfl
@[simp] theorem setTracker_ports (f : Tracker → Tracker) (s : State) :
    (setTracker f s).ports = s.ports := rfl
@[simp] theorem setTracker_events (f : Tracker → Tracker) (s : State) :
    (setTracker f s).events = s.events := rfl
@[simp] theorem setTracker_refusal (f : Tracker → Tracker) (s : State) :
    (setTracker f s).refusal = s.refusal := rfl
@[simp] theorem setTracker_pending (f : Tracker → Tracker) (s : State) :
    (setTracker f s).pending = s.pending := rfl

/-! ### setEntry -/

@[simp] theorem setEntry_tracker (n : EntryId) (f : Entry → Entry) (s : State) :
    (setEntry n f s).tracker = { s.tracker with queue := updFirst (fun e => e.id == n) f s.tracker.queue } := rfl
@[simp] theorem setEntry_banks (n : EntryId) (f : Entry → Entry) (s : State) :
    (setEntry n f s).banks = s.banks := rfl
@[simp] theorem setEntry_geometry (n : EntryId) (f : Entry → Entry) (s : State) :
    (setEntry n f s).geometry = s.geometry := rfl
@[simp] theorem setEntry_bins (n : EntryId) (f : Entry → Entry) (s : State) :
    (setEntry n f s).bins = s.bins := rfl
@[simp] theorem setEntry_redryGate (n : EntryId) (f : Entry → Entry) (s : State) :
    (setEntry n f s).redryGate = s.redryGate := rfl
@[simp] theorem setEntry_store (n : EntryId) (f : Entry → Entry) (s : State) :
    (setEntry n f s).store = s.store := rfl
@[simp] theorem setEntry_outfeed (n : EntryId) (f : Entry → Entry) (s : State) :
    (setEntry n f s).outfeed = s.outfeed := rfl
@[simp] theorem setEntry_slots (n : EntryId) (f : Entry → Entry) (s : State) :
    (setEntry n f s).slots = s.slots := rfl
@[simp] theorem setEntry_arbiter (n : EntryId) (f : Entry → Entry) (s : State) :
    (setEntry n f s).arbiter = s.arbiter := rfl
@[simp] theorem setEntry_mode (n : EntryId) (f : Entry → Entry) (s : State) :
    (setEntry n f s).mode = s.mode := rfl
@[simp] theorem setEntry_tallies (n : EntryId) (f : Entry → Entry) (s : State) :
    (setEntry n f s).tallies = s.tallies := rfl
@[simp] theorem setEntry_ports (n : EntryId) (f : Entry → Entry) (s : State) :
    (setEntry n f s).ports = s.ports := rfl
@[simp] theorem setEntry_events (n : EntryId) (f : Entry → Entry) (s : State) :
    (setEntry n f s).events = s.events := rfl
@[simp] theorem setEntry_refusal (n : EntryId) (f : Entry → Entry) (s : State) :
    (setEntry n f s).refusal = s.refusal := rfl
@[simp] theorem setEntry_pending (n : EntryId) (f : Entry → Entry) (s : State) :
    (setEntry n f s).pending = s.pending := rfl

/-! ### removeEntry -/

@[simp] theorem removeEntry_tracker (n : EntryId) (s : State) :
    (removeEntry n s).tracker = s.tracker.drop n := rfl
@[simp] theorem removeEntry_banks (n : EntryId) (s : State) :
    (removeEntry n s).banks = s.banks := rfl
@[simp] theorem removeEntry_geometry (n : EntryId) (s : State) :
    (removeEntry n s).geometry = s.geometry := rfl
@[simp] theorem removeEntry_bins (n : EntryId) (s : State) :
    (removeEntry n s).bins = s.bins := rfl
@[simp] theorem removeEntry_redryGate (n : EntryId) (s : State) :
    (removeEntry n s).redryGate = s.redryGate := rfl
@[simp] theorem removeEntry_store (n : EntryId) (s : State) :
    (removeEntry n s).store = s.store := rfl
@[simp] theorem removeEntry_outfeed (n : EntryId) (s : State) :
    (removeEntry n s).outfeed = s.outfeed := rfl
@[simp] theorem removeEntry_slots (n : EntryId) (s : State) :
    (removeEntry n s).slots = s.slots := rfl
@[simp] theorem removeEntry_arbiter (n : EntryId) (s : State) :
    (removeEntry n s).arbiter = s.arbiter := rfl
@[simp] theorem removeEntry_mode (n : EntryId) (s : State) :
    (removeEntry n s).mode = s.mode := rfl
@[simp] theorem removeEntry_tallies (n : EntryId) (s : State) :
    (removeEntry n s).tallies = s.tallies := rfl
@[simp] theorem removeEntry_ports (n : EntryId) (s : State) :
    (removeEntry n s).ports = s.ports := rfl
@[simp] theorem removeEntry_events (n : EntryId) (s : State) :
    (removeEntry n s).events = s.events := rfl
@[simp] theorem removeEntry_refusal (n : EntryId) (s : State) :
    (removeEntry n s).refusal = s.refusal := rfl
@[simp] theorem removeEntry_pending (n : EntryId) (s : State) :
    (removeEntry n s).pending = s.pending := rfl

/-! ### setBin -/

@[simp] theorem setBin_tracker (b : BinNo) (f : Bin → Bin) (s : State) :
    (setBin b f s).tracker = s.tracker := rfl
@[simp] theorem setBin_banks (b : BinNo) (f : Bin → Bin) (s : State) :
    (setBin b f s).banks = s.banks := rfl
@[simp] theorem setBin_geometry (b : BinNo) (f : Bin → Bin) (s : State) :
    (setBin b f s).geometry = s.geometry := rfl
@[simp] theorem setBin_bins (b : BinNo) (f : Bin → Bin) (s : State) :
    (setBin b f s).bins = vset s.bins b (f s.bins[b]) := rfl
@[simp] theorem setBin_redryGate (b : BinNo) (f : Bin → Bin) (s : State) :
    (setBin b f s).redryGate = s.redryGate := rfl
@[simp] theorem setBin_store (b : BinNo) (f : Bin → Bin) (s : State) :
    (setBin b f s).store = s.store := rfl
@[simp] theorem setBin_outfeed (b : BinNo) (f : Bin → Bin) (s : State) :
    (setBin b f s).outfeed = s.outfeed := rfl
@[simp] theorem setBin_slots (b : BinNo) (f : Bin → Bin) (s : State) :
    (setBin b f s).slots = s.slots := rfl
@[simp] theorem setBin_arbiter (b : BinNo) (f : Bin → Bin) (s : State) :
    (setBin b f s).arbiter = s.arbiter := rfl
@[simp] theorem setBin_mode (b : BinNo) (f : Bin → Bin) (s : State) :
    (setBin b f s).mode = s.mode := rfl
@[simp] theorem setBin_tallies (b : BinNo) (f : Bin → Bin) (s : State) :
    (setBin b f s).tallies = s.tallies := rfl
@[simp] theorem setBin_ports (b : BinNo) (f : Bin → Bin) (s : State) :
    (setBin b f s).ports = s.ports := rfl
@[simp] theorem setBin_events (b : BinNo) (f : Bin → Bin) (s : State) :
    (setBin b f s).events = s.events := rfl
@[simp] theorem setBin_refusal (b : BinNo) (f : Bin → Bin) (s : State) :
    (setBin b f s).refusal = s.refusal := rfl
@[simp] theorem setBin_pending (b : BinNo) (f : Bin → Bin) (s : State) :
    (setBin b f s).pending = s.pending := rfl

/-! ### setSlot -/

@[simp] theorem setSlot_tracker (n : SlotNo) (f : Slot → Slot) (s : State) :
    (setSlot n f s).tracker = s.tracker := rfl
@[simp] theorem setSlot_banks (n : SlotNo) (f : Slot → Slot) (s : State) :
    (setSlot n f s).banks = s.banks := rfl
@[simp] theorem setSlot_geometry (n : SlotNo) (f : Slot → Slot) (s : State) :
    (setSlot n f s).geometry = s.geometry := rfl
@[simp] theorem setSlot_bins (n : SlotNo) (f : Slot → Slot) (s : State) :
    (setSlot n f s).bins = s.bins := rfl
@[simp] theorem setSlot_redryGate (n : SlotNo) (f : Slot → Slot) (s : State) :
    (setSlot n f s).redryGate = s.redryGate := rfl
@[simp] theorem setSlot_store (n : SlotNo) (f : Slot → Slot) (s : State) :
    (setSlot n f s).store = s.store := rfl
@[simp] theorem setSlot_outfeed (n : SlotNo) (f : Slot → Slot) (s : State) :
    (setSlot n f s).outfeed = s.outfeed := rfl
@[simp] theorem setSlot_slots (n : SlotNo) (f : Slot → Slot) (s : State) :
    (setSlot n f s).slots = vset s.slots n (f s.slots[n]) := rfl
@[simp] theorem setSlot_arbiter (n : SlotNo) (f : Slot → Slot) (s : State) :
    (setSlot n f s).arbiter = s.arbiter := rfl
@[simp] theorem setSlot_mode (n : SlotNo) (f : Slot → Slot) (s : State) :
    (setSlot n f s).mode = s.mode := rfl
@[simp] theorem setSlot_tallies (n : SlotNo) (f : Slot → Slot) (s : State) :
    (setSlot n f s).tallies = s.tallies := rfl
@[simp] theorem setSlot_ports (n : SlotNo) (f : Slot → Slot) (s : State) :
    (setSlot n f s).ports = s.ports := rfl
@[simp] theorem setSlot_events (n : SlotNo) (f : Slot → Slot) (s : State) :
    (setSlot n f s).events = s.events := rfl
@[simp] theorem setSlot_refusal (n : SlotNo) (f : Slot → Slot) (s : State) :
    (setSlot n f s).refusal = s.refusal := rfl
@[simp] theorem setSlot_pending (n : SlotNo) (f : Slot → Slot) (s : State) :
    (setSlot n f s).pending = s.pending := rfl

/-! ### setPort -/

@[simp] theorem setPort_tracker (p : Port) (f : PortState → PortState) (s : State) :
    (setPort p f s).tracker = s.tracker := rfl
@[simp] theorem setPort_banks (p : Port) (f : PortState → PortState) (s : State) :
    (setPort p f s).banks = s.banks := rfl
@[simp] theorem setPort_geometry (p : Port) (f : PortState → PortState) (s : State) :
    (setPort p f s).geometry = s.geometry := rfl
@[simp] theorem setPort_bins (p : Port) (f : PortState → PortState) (s : State) :
    (setPort p f s).bins = s.bins := rfl
@[simp] theorem setPort_redryGate (p : Port) (f : PortState → PortState) (s : State) :
    (setPort p f s).redryGate = s.redryGate := rfl
@[simp] theorem setPort_store (p : Port) (f : PortState → PortState) (s : State) :
    (setPort p f s).store = s.store := rfl
@[simp] theorem setPort_outfeed (p : Port) (f : PortState → PortState) (s : State) :
    (setPort p f s).outfeed = s.outfeed := rfl
@[simp] theorem setPort_slots (p : Port) (f : PortState → PortState) (s : State) :
    (setPort p f s).slots = s.slots := rfl
@[simp] theorem setPort_arbiter (p : Port) (f : PortState → PortState) (s : State) :
    (setPort p f s).arbiter = s.arbiter := rfl
@[simp] theorem setPort_mode (p : Port) (f : PortState → PortState) (s : State) :
    (setPort p f s).mode = s.mode := rfl
@[simp] theorem setPort_tallies (p : Port) (f : PortState → PortState) (s : State) :
    (setPort p f s).tallies = s.tallies := rfl
@[simp] theorem setPort_ports (p : Port) (f : PortState → PortState) (s : State) :
    (setPort p f s).ports = vset s.ports p.idx (f s.ports[p.idx]) := rfl
@[simp] theorem setPort_events (p : Port) (f : PortState → PortState) (s : State) :
    (setPort p f s).events = s.events := rfl
@[simp] theorem setPort_refusal (p : Port) (f : PortState → PortState) (s : State) :
    (setPort p f s).refusal = s.refusal := rfl
@[simp] theorem setPort_pending (p : Port) (f : PortState → PortState) (s : State) :
    (setPort p f s).pending = s.pending := rfl

/-! ### setArbiter -/

@[simp] theorem setArbiter_tracker (f : Arbiter → Arbiter) (s : State) :
    (setArbiter f s).tracker = s.tracker := rfl
@[simp] theorem setArbiter_banks (f : Arbiter → Arbiter) (s : State) :
    (setArbiter f s).banks = s.banks := rfl
@[simp] theorem setArbiter_geometry (f : Arbiter → Arbiter) (s : State) :
    (setArbiter f s).geometry = s.geometry := rfl
@[simp] theorem setArbiter_bins (f : Arbiter → Arbiter) (s : State) :
    (setArbiter f s).bins = s.bins := rfl
@[simp] theorem setArbiter_redryGate (f : Arbiter → Arbiter) (s : State) :
    (setArbiter f s).redryGate = s.redryGate := rfl
@[simp] theorem setArbiter_store (f : Arbiter → Arbiter) (s : State) :
    (setArbiter f s).store = s.store := rfl
@[simp] theorem setArbiter_outfeed (f : Arbiter → Arbiter) (s : State) :
    (setArbiter f s).outfeed = s.outfeed := rfl
@[simp] theorem setArbiter_slots (f : Arbiter → Arbiter) (s : State) :
    (setArbiter f s).slots = s.slots := rfl
@[simp] theorem setArbiter_arbiter (f : Arbiter → Arbiter) (s : State) :
    (setArbiter f s).arbiter = f s.arbiter := rfl
@[simp] theorem setArbiter_mode (f : Arbiter → Arbiter) (s : State) :
    (setArbiter f s).mode = s.mode := rfl
@[simp] theorem setArbiter_tallies (f : Arbiter → Arbiter) (s : State) :
    (setArbiter f s).tallies = s.tallies := rfl
@[simp] theorem setArbiter_ports (f : Arbiter → Arbiter) (s : State) :
    (setArbiter f s).ports = s.ports := rfl
@[simp] theorem setArbiter_events (f : Arbiter → Arbiter) (s : State) :
    (setArbiter f s).events = s.events := rfl
@[simp] theorem setArbiter_refusal (f : Arbiter → Arbiter) (s : State) :
    (setArbiter f s).refusal = s.refusal := rfl
@[simp] theorem setArbiter_pending (f : Arbiter → Arbiter) (s : State) :
    (setArbiter f s).pending = s.pending := rfl

/-! ### raise -/

@[simp] theorem raise_tracker (e : Event) (s : State) :
    (raise e s).tracker = s.tracker := rfl
@[simp] theorem raise_banks (e : Event) (s : State) :
    (raise e s).banks = s.banks := rfl
@[simp] theorem raise_geometry (e : Event) (s : State) :
    (raise e s).geometry = s.geometry := rfl
@[simp] theorem raise_bins (e : Event) (s : State) :
    (raise e s).bins = s.bins := rfl
@[simp] theorem raise_redryGate (e : Event) (s : State) :
    (raise e s).redryGate = s.redryGate := rfl
@[simp] theorem raise_store (e : Event) (s : State) :
    (raise e s).store = s.store := rfl
@[simp] theorem raise_outfeed (e : Event) (s : State) :
    (raise e s).outfeed = s.outfeed := rfl
@[simp] theorem raise_slots (e : Event) (s : State) :
    (raise e s).slots = s.slots := rfl
@[simp] theorem raise_arbiter (e : Event) (s : State) :
    (raise e s).arbiter = s.arbiter := rfl
@[simp] theorem raise_mode (e : Event) (s : State) :
    (raise e s).mode = s.mode := rfl
@[simp] theorem raise_tallies (e : Event) (s : State) :
    (raise e s).tallies = s.tallies := rfl
@[simp] theorem raise_ports (e : Event) (s : State) :
    (raise e s).ports = s.ports := rfl
@[simp] theorem raise_events (e : Event) (s : State) :
    (raise e s).events = s.events.append e := rfl
@[simp] theorem raise_refusal (e : Event) (s : State) :
    (raise e s).refusal = s.refusal := rfl
@[simp] theorem raise_pending (e : Event) (s : State) :
    (raise e s).pending = s.pending := rfl

/-! ### tally -/

@[simp] theorem tally_tracker (f : Tallies → Tallies) (s : State) :
    (tally f s).tracker = s.tracker := rfl
@[simp] theorem tally_banks (f : Tallies → Tallies) (s : State) :
    (tally f s).banks = s.banks := rfl
@[simp] theorem tally_geometry (f : Tallies → Tallies) (s : State) :
    (tally f s).geometry = s.geometry := rfl
@[simp] theorem tally_bins (f : Tallies → Tallies) (s : State) :
    (tally f s).bins = s.bins := rfl
@[simp] theorem tally_redryGate (f : Tallies → Tallies) (s : State) :
    (tally f s).redryGate = s.redryGate := rfl
@[simp] theorem tally_store (f : Tallies → Tallies) (s : State) :
    (tally f s).store = s.store := rfl
@[simp] theorem tally_outfeed (f : Tallies → Tallies) (s : State) :
    (tally f s).outfeed = s.outfeed := rfl
@[simp] theorem tally_slots (f : Tallies → Tallies) (s : State) :
    (tally f s).slots = s.slots := rfl
@[simp] theorem tally_arbiter (f : Tallies → Tallies) (s : State) :
    (tally f s).arbiter = s.arbiter := rfl
@[simp] theorem tally_mode (f : Tallies → Tallies) (s : State) :
    (tally f s).mode = s.mode := rfl
@[simp] theorem tally_tallies (f : Tallies → Tallies) (s : State) :
    (tally f s).tallies = f s.tallies := rfl
@[simp] theorem tally_ports (f : Tallies → Tallies) (s : State) :
    (tally f s).ports = s.ports := rfl
@[simp] theorem tally_events (f : Tallies → Tallies) (s : State) :
    (tally f s).events = s.events := rfl
@[simp] theorem tally_refusal (f : Tallies → Tallies) (s : State) :
    (tally f s).refusal = s.refusal := rfl
@[simp] theorem tally_pending (f : Tallies → Tallies) (s : State) :
    (tally f s).pending = s.pending := rfl

/-! ### queueReply -/

@[simp] theorem queueReply_tracker (p : Port) (k : EchoKind) (tag : Byte) (x : ReplyBody) (s : State) :
    (queueReply p k tag x s).tracker = s.tracker := rfl
@[simp] theorem queueReply_banks (p : Port) (k : EchoKind) (tag : Byte) (x : ReplyBody) (s : State) :
    (queueReply p k tag x s).banks = s.banks := rfl
@[simp] theorem queueReply_geometry (p : Port) (k : EchoKind) (tag : Byte) (x : ReplyBody) (s : State) :
    (queueReply p k tag x s).geometry = s.geometry := rfl
@[simp] theorem queueReply_bins (p : Port) (k : EchoKind) (tag : Byte) (x : ReplyBody) (s : State) :
    (queueReply p k tag x s).bins = s.bins := rfl
@[simp] theorem queueReply_redryGate (p : Port) (k : EchoKind) (tag : Byte) (x : ReplyBody) (s : State) :
    (queueReply p k tag x s).redryGate = s.redryGate := rfl
@[simp] theorem queueReply_store (p : Port) (k : EchoKind) (tag : Byte) (x : ReplyBody) (s : State) :
    (queueReply p k tag x s).store = s.store := rfl
@[simp] theorem queueReply_outfeed (p : Port) (k : EchoKind) (tag : Byte) (x : ReplyBody) (s : State) :
    (queueReply p k tag x s).outfeed = s.outfeed := rfl
@[simp] theorem queueReply_slots (p : Port) (k : EchoKind) (tag : Byte) (x : ReplyBody) (s : State) :
    (queueReply p k tag x s).slots = s.slots := rfl
@[simp] theorem queueReply_arbiter (p : Port) (k : EchoKind) (tag : Byte) (x : ReplyBody) (s : State) :
    (queueReply p k tag x s).arbiter = s.arbiter := rfl
@[simp] theorem queueReply_mode (p : Port) (k : EchoKind) (tag : Byte) (x : ReplyBody) (s : State) :
    (queueReply p k tag x s).mode = s.mode := rfl
@[simp] theorem queueReply_tallies (p : Port) (k : EchoKind) (tag : Byte) (x : ReplyBody) (s : State) :
    (queueReply p k tag x s).tallies = s.tallies := rfl
@[simp] theorem queueReply_ports (p : Port) (k : EchoKind) (tag : Byte) (x : ReplyBody) (s : State) :
    (queueReply p k tag x s).ports = vset s.ports p.idx { s.ports[p.idx] with queue := s.ports[p.idx].queue ++ [.reply k tag x] } := rfl
@[simp] theorem queueReply_events (p : Port) (k : EchoKind) (tag : Byte) (x : ReplyBody) (s : State) :
    (queueReply p k tag x s).events = s.events := rfl
@[simp] theorem queueReply_refusal (p : Port) (k : EchoKind) (tag : Byte) (x : ReplyBody) (s : State) :
    (queueReply p k tag x s).refusal = s.refusal := rfl
@[simp] theorem queueReply_pending (p : Port) (k : EchoKind) (tag : Byte) (x : ReplyBody) (s : State) :
    (queueReply p k tag x s).pending = s.pending := rfl

/-! ### countTravel -/

@[simp] theorem countTravel_tracker (s : State) :
    (countTravel s).tracker = { s.tracker with travel := s.tracker.travel + 1 } := rfl
@[simp] theorem countTravel_banks (s : State) : (countTravel s).banks = s.banks := rfl
@[simp] theorem countTravel_geometry (s : State) : (countTravel s).geometry = s.geometry := rfl
@[simp] theorem countTravel_bins (s : State) : (countTravel s).bins = s.bins := rfl
@[simp] theorem countTravel_redryGate (s : State) : (countTravel s).redryGate = s.redryGate := rfl
@[simp] theorem countTravel_store (s : State) : (countTravel s).store = s.store := rfl
@[simp] theorem countTravel_outfeed (s : State) : (countTravel s).outfeed = s.outfeed := rfl
@[simp] theorem countTravel_slots (s : State) : (countTravel s).slots = s.slots := rfl
@[simp] theorem countTravel_arbiter (s : State) : (countTravel s).arbiter = s.arbiter := rfl
@[simp] theorem countTravel_mode (s : State) : (countTravel s).mode = s.mode := rfl
@[simp] theorem countTravel_tallies (s : State) : (countTravel s).tallies = s.tallies := rfl
@[simp] theorem countTravel_ports (s : State) : (countTravel s).ports = s.ports := rfl
@[simp] theorem countTravel_events (s : State) : (countTravel s).events = s.events := rfl
@[simp] theorem countTravel_refusal (s : State) : (countTravel s).refusal = s.refusal := rfl
@[simp] theorem countTravel_pending (s : State) : (countTravel s).pending = s.pending := rfl

/-! ### freeBuffer -/

@[simp] theorem freeBuffer_tracker (p : Port) (s : State) :
    (freeBuffer p s).tracker = s.tracker := rfl
@[simp] theorem freeBuffer_banks (p : Port) (s : State) :
    (freeBuffer p s).banks = s.banks := rfl
@[simp] theorem freeBuffer_geometry (p : Port) (s : State) :
    (freeBuffer p s).geometry = s.geometry := rfl
@[simp] theorem freeBuffer_bins (p : Port) (s : State) :
    (freeBuffer p s).bins = s.bins := rfl
@[simp] theorem freeBuffer_redryGate (p : Port) (s : State) :
    (freeBuffer p s).redryGate = s.redryGate := rfl
@[simp] theorem freeBuffer_store (p : Port) (s : State) :
    (freeBuffer p s).store = s.store := rfl
@[simp] theorem freeBuffer_outfeed (p : Port) (s : State) :
    (freeBuffer p s).outfeed = s.outfeed := rfl
@[simp] theorem freeBuffer_slots (p : Port) (s : State) :
    (freeBuffer p s).slots = s.slots := rfl
@[simp] theorem freeBuffer_arbiter (p : Port) (s : State) :
    (freeBuffer p s).arbiter = s.arbiter := rfl
@[simp] theorem freeBuffer_mode (p : Port) (s : State) :
    (freeBuffer p s).mode = s.mode := rfl
@[simp] theorem freeBuffer_tallies (p : Port) (s : State) :
    (freeBuffer p s).tallies = s.tallies := rfl
@[simp] theorem freeBuffer_ports (p : Port) (s : State) :
    (freeBuffer p s).ports = vset s.ports p.idx { s.ports[p.idx] with buffer := none } := rfl
@[simp] theorem freeBuffer_events (p : Port) (s : State) :
    (freeBuffer p s).events = s.events := rfl
@[simp] theorem freeBuffer_refusal (p : Port) (s : State) :
    (freeBuffer p s).refusal = s.refusal := rfl
@[simp] theorem freeBuffer_pending (p : Port) (s : State) :
    (freeBuffer p s).pending = s.pending := rfl

/-! ### done -/

@[simp] theorem done_tracker (r : Req) (k : ReqKind) (x : Result) (s : State) :
    (done r k x s).tracker = s.tracker := rfl
@[simp] theorem done_banks (r : Req) (k : ReqKind) (x : Result) (s : State) :
    (done r k x s).banks = s.banks := rfl
@[simp] theorem done_geometry (r : Req) (k : ReqKind) (x : Result) (s : State) :
    (done r k x s).geometry = s.geometry := rfl
@[simp] theorem done_bins (r : Req) (k : ReqKind) (x : Result) (s : State) :
    (done r k x s).bins = s.bins := rfl
@[simp] theorem done_redryGate (r : Req) (k : ReqKind) (x : Result) (s : State) :
    (done r k x s).redryGate = s.redryGate := rfl
@[simp] theorem done_store (r : Req) (k : ReqKind) (x : Result) (s : State) :
    (done r k x s).store = s.store := rfl
@[simp] theorem done_outfeed (r : Req) (k : ReqKind) (x : Result) (s : State) :
    (done r k x s).outfeed = s.outfeed := rfl
@[simp] theorem done_slots (r : Req) (k : ReqKind) (x : Result) (s : State) :
    (done r k x s).slots = s.slots := rfl
@[simp] theorem done_arbiter (r : Req) (k : ReqKind) (x : Result) (s : State) :
    (done r k x s).arbiter = s.arbiter := rfl
@[simp] theorem done_mode (r : Req) (k : ReqKind) (x : Result) (s : State) :
    (done r k x s).mode = s.mode := rfl
@[simp] theorem done_tallies (r : Req) (k : ReqKind) (x : Result) (s : State) :
    (done r k x s).tallies = s.tallies := rfl
@[simp] theorem done_events (r : Req) (k : ReqKind) (x : Result) (s : State) :
    (done r k x s).events = s.events := rfl
@[simp] theorem done_refusal (r : Req) (k : ReqKind) (x : Result) (s : State) :
    (done r k x s).refusal = s.refusal := rfl
@[simp] theorem done_pending (r : Req) (k : ReqKind) (x : Result) (s : State) :
    (done r k x s).pending = s.pending := rfl

/-! ### refuse -/

@[simp] theorem refuse_tracker (r : Req) (k : ReqKind) (x : RefusalReason) (s : State) :
    (refuse r k x s).tracker = s.tracker := rfl
@[simp] theorem refuse_banks (r : Req) (k : ReqKind) (x : RefusalReason) (s : State) :
    (refuse r k x s).banks = s.banks := rfl
@[simp] theorem refuse_geometry (r : Req) (k : ReqKind) (x : RefusalReason) (s : State) :
    (refuse r k x s).geometry = s.geometry := rfl
@[simp] theorem refuse_bins (r : Req) (k : ReqKind) (x : RefusalReason) (s : State) :
    (refuse r k x s).bins = s.bins := rfl
@[simp] theorem refuse_redryGate (r : Req) (k : ReqKind) (x : RefusalReason) (s : State) :
    (refuse r k x s).redryGate = s.redryGate := rfl
@[simp] theorem refuse_store (r : Req) (k : ReqKind) (x : RefusalReason) (s : State) :
    (refuse r k x s).store = s.store := rfl
@[simp] theorem refuse_outfeed (r : Req) (k : ReqKind) (x : RefusalReason) (s : State) :
    (refuse r k x s).outfeed = s.outfeed := rfl
@[simp] theorem refuse_slots (r : Req) (k : ReqKind) (x : RefusalReason) (s : State) :
    (refuse r k x s).slots = s.slots := rfl
@[simp] theorem refuse_arbiter (r : Req) (k : ReqKind) (x : RefusalReason) (s : State) :
    (refuse r k x s).arbiter = s.arbiter := rfl
@[simp] theorem refuse_mode (r : Req) (k : ReqKind) (x : RefusalReason) (s : State) :
    (refuse r k x s).mode = s.mode := rfl
@[simp] theorem refuse_tallies (r : Req) (k : ReqKind) (x : RefusalReason) (s : State) :
    (refuse r k x s).tallies = s.tallies := rfl
@[simp] theorem refuse_events (r : Req) (k : ReqKind) (x : RefusalReason) (s : State) :
    (refuse r k x s).events = s.events := rfl
@[simp] theorem refuse_refusal (r : Req) (k : ReqKind) (x : RefusalReason) (s : State) :
    (refuse r k x s).refusal = s.refusal := rfl
@[simp] theorem refuse_pending (r : Req) (k : ReqKind) (x : RefusalReason) (s : State) :
    (refuse r k x s).pending = s.pending := rfl

/-! ### refuseWith -/

@[simp] theorem refuseWith_tracker (r : Req) (k : ReqKind) (x : FailureReport) (s : State) :
    (refuseWith r k x s).tracker = s.tracker := rfl
@[simp] theorem refuseWith_banks (r : Req) (k : ReqKind) (x : FailureReport) (s : State) :
    (refuseWith r k x s).banks = s.banks := rfl
@[simp] theorem refuseWith_geometry (r : Req) (k : ReqKind) (x : FailureReport) (s : State) :
    (refuseWith r k x s).geometry = s.geometry := rfl
@[simp] theorem refuseWith_bins (r : Req) (k : ReqKind) (x : FailureReport) (s : State) :
    (refuseWith r k x s).bins = s.bins := rfl
@[simp] theorem refuseWith_redryGate (r : Req) (k : ReqKind) (x : FailureReport) (s : State) :
    (refuseWith r k x s).redryGate = s.redryGate := rfl
@[simp] theorem refuseWith_store (r : Req) (k : ReqKind) (x : FailureReport) (s : State) :
    (refuseWith r k x s).store = s.store := rfl
@[simp] theorem refuseWith_outfeed (r : Req) (k : ReqKind) (x : FailureReport) (s : State) :
    (refuseWith r k x s).outfeed = s.outfeed := rfl
@[simp] theorem refuseWith_slots (r : Req) (k : ReqKind) (x : FailureReport) (s : State) :
    (refuseWith r k x s).slots = s.slots := rfl
@[simp] theorem refuseWith_arbiter (r : Req) (k : ReqKind) (x : FailureReport) (s : State) :
    (refuseWith r k x s).arbiter = s.arbiter := rfl
@[simp] theorem refuseWith_mode (r : Req) (k : ReqKind) (x : FailureReport) (s : State) :
    (refuseWith r k x s).mode = s.mode := rfl
@[simp] theorem refuseWith_tallies (r : Req) (k : ReqKind) (x : FailureReport) (s : State) :
    (refuseWith r k x s).tallies = s.tallies := rfl
@[simp] theorem refuseWith_events (r : Req) (k : ReqKind) (x : FailureReport) (s : State) :
    (refuseWith r k x s).events = s.events := rfl
@[simp] theorem refuseWith_refusal (r : Req) (k : ReqKind) (x : FailureReport) (s : State) :
    (refuseWith r k x s).refusal = s.refusal := rfl
@[simp] theorem refuseWith_pending (r : Req) (k : ReqKind) (x : FailureReport) (s : State) :
    (refuseWith r k x s).pending = s.pending := rfl

/-! ### refuseRecorded -/

@[simp] theorem refuseRecorded_tracker (r : Req) (k : ReqKind) (x : RefusalReason) (g : Option Target) (s : State) :
    (refuseRecorded r k x g s).tracker = s.tracker := rfl
@[simp] theorem refuseRecorded_banks (r : Req) (k : ReqKind) (x : RefusalReason) (g : Option Target) (s : State) :
    (refuseRecorded r k x g s).banks = s.banks := rfl
@[simp] theorem refuseRecorded_geometry (r : Req) (k : ReqKind) (x : RefusalReason) (g : Option Target) (s : State) :
    (refuseRecorded r k x g s).geometry = s.geometry := rfl
@[simp] theorem refuseRecorded_bins (r : Req) (k : ReqKind) (x : RefusalReason) (g : Option Target) (s : State) :
    (refuseRecorded r k x g s).bins = s.bins := rfl
@[simp] theorem refuseRecorded_redryGate (r : Req) (k : ReqKind) (x : RefusalReason) (g : Option Target) (s : State) :
    (refuseRecorded r k x g s).redryGate = s.redryGate := rfl
@[simp] theorem refuseRecorded_store (r : Req) (k : ReqKind) (x : RefusalReason) (g : Option Target) (s : State) :
    (refuseRecorded r k x g s).store = s.store := rfl
@[simp] theorem refuseRecorded_outfeed (r : Req) (k : ReqKind) (x : RefusalReason) (g : Option Target) (s : State) :
    (refuseRecorded r k x g s).outfeed = s.outfeed := rfl
@[simp] theorem refuseRecorded_slots (r : Req) (k : ReqKind) (x : RefusalReason) (g : Option Target) (s : State) :
    (refuseRecorded r k x g s).slots = s.slots := rfl
@[simp] theorem refuseRecorded_arbiter (r : Req) (k : ReqKind) (x : RefusalReason) (g : Option Target) (s : State) :
    (refuseRecorded r k x g s).arbiter = s.arbiter := rfl
@[simp] theorem refuseRecorded_mode (r : Req) (k : ReqKind) (x : RefusalReason) (g : Option Target) (s : State) :
    (refuseRecorded r k x g s).mode = s.mode := rfl
@[simp] theorem refuseRecorded_tallies (r : Req) (k : ReqKind) (x : RefusalReason) (g : Option Target) (s : State) :
    (refuseRecorded r k x g s).tallies = s.tallies := rfl
@[simp] theorem refuseRecorded_events (r : Req) (k : ReqKind) (x : RefusalReason) (g : Option Target) (s : State) :
    (refuseRecorded r k x g s).events = s.events := rfl
@[simp] theorem refuseRecorded_refusal (r : Req) (k : ReqKind) (x : RefusalReason) (g : Option Target) (s : State) :
    (refuseRecorded r k x g s).refusal = some ⟨r.port, k, g⟩ := rfl
@[simp] theorem refuseRecorded_pending (r : Req) (k : ReqKind) (x : RefusalReason) (g : Option Target) (s : State) :
    (refuseRecorded r k x g s).pending = s.pending := rfl

/-! ### queueNotice -/

@[simp] theorem queueNotice_tracker (i : LineNo) (x : Notice) (s : State) :
    (queueNotice i x s).tracker = s.tracker := rfl
@[simp] theorem queueNotice_banks (i : LineNo) (x : Notice) (s : State) :
    (queueNotice i x s).banks = s.banks := rfl
@[simp] theorem queueNotice_geometry (i : LineNo) (x : Notice) (s : State) :
    (queueNotice i x s).geometry = s.geometry := rfl
@[simp] theorem queueNotice_bins (i : LineNo) (x : Notice) (s : State) :
    (queueNotice i x s).bins = s.bins := rfl
@[simp] theorem queueNotice_redryGate (i : LineNo) (x : Notice) (s : State) :
    (queueNotice i x s).redryGate = s.redryGate := rfl
@[simp] theorem queueNotice_store (i : LineNo) (x : Notice) (s : State) :
    (queueNotice i x s).store = s.store := rfl
@[simp] theorem queueNotice_outfeed (i : LineNo) (x : Notice) (s : State) :
    (queueNotice i x s).outfeed = s.outfeed := rfl
@[simp] theorem queueNotice_slots (i : LineNo) (x : Notice) (s : State) :
    (queueNotice i x s).slots = s.slots := rfl
@[simp] theorem queueNotice_arbiter (i : LineNo) (x : Notice) (s : State) :
    (queueNotice i x s).arbiter = s.arbiter := rfl
@[simp] theorem queueNotice_mode (i : LineNo) (x : Notice) (s : State) :
    (queueNotice i x s).mode = s.mode := rfl
@[simp] theorem queueNotice_tallies (i : LineNo) (x : Notice) (s : State) :
    (queueNotice i x s).tallies = s.tallies := rfl
@[simp] theorem queueNotice_events (i : LineNo) (x : Notice) (s : State) :
    (queueNotice i x s).events = s.events := rfl
@[simp] theorem queueNotice_refusal (i : LineNo) (x : Notice) (s : State) :
    (queueNotice i x s).refusal = s.refusal := rfl
@[simp] theorem queueNotice_pending (i : LineNo) (x : Notice) (s : State) :
    (queueNotice i x s).pending = s.pending := rfl

/-! ### syncGates -/

@[simp] theorem syncGates_tracker (s : State) :
    (syncGates s).tracker = s.tracker := rfl
@[simp] theorem syncGates_banks (s : State) :
    (syncGates s).banks = s.banks := rfl
@[simp] theorem syncGates_geometry (s : State) :
    (syncGates s).geometry = s.geometry := rfl
@[simp] theorem syncGates_bins (s : State) :
    (syncGates s).bins = vmap (fun b x => { x with gate := gateDue s b }) s.bins := rfl
@[simp] theorem syncGates_redryGate (s : State) :
    (syncGates s).redryGate = redryDue s := rfl
@[simp] theorem syncGates_store (s : State) :
    (syncGates s).store = s.store := rfl
@[simp] theorem syncGates_outfeed (s : State) :
    (syncGates s).outfeed = s.outfeed := rfl
@[simp] theorem syncGates_slots (s : State) :
    (syncGates s).slots = s.slots := rfl
@[simp] theorem syncGates_arbiter (s : State) :
    (syncGates s).arbiter = s.arbiter := rfl
@[simp] theorem syncGates_mode (s : State) :
    (syncGates s).mode = s.mode := rfl
@[simp] theorem syncGates_tallies (s : State) :
    (syncGates s).tallies = s.tallies := rfl
@[simp] theorem syncGates_ports (s : State) :
    (syncGates s).ports = s.ports := rfl
@[simp] theorem syncGates_events (s : State) :
    (syncGates s).events = s.events := rfl
@[simp] theorem syncGates_refusal (s : State) :
    (syncGates s).refusal = s.refusal := rfl
@[simp] theorem syncGates_pending (s : State) :
    (syncGates s).pending = s.pending := rfl

/-! ### drainBins -/

@[simp] theorem drainBins_tracker (w : CloseReason) (p : BinNo → Lift → Bool) (s : State) :
    (drainBins w p s).tracker = s.tracker := rfl
@[simp] theorem drainBins_banks (w : CloseReason) (p : BinNo → Lift → Bool) (s : State) :
    (drainBins w p s).banks = s.banks := rfl
@[simp] theorem drainBins_geometry (w : CloseReason) (p : BinNo → Lift → Bool) (s : State) :
    (drainBins w p s).geometry = s.geometry := rfl
@[simp] theorem drainBins_redryGate (w : CloseReason) (p : BinNo → Lift → Bool) (s : State) :
    (drainBins w p s).redryGate = s.redryGate := rfl
@[simp] theorem drainBins_store (w : CloseReason) (p : BinNo → Lift → Bool) (s : State) :
    (drainBins w p s).store = s.store := rfl
@[simp] theorem drainBins_outfeed (w : CloseReason) (p : BinNo → Lift → Bool) (s : State) :
    (drainBins w p s).outfeed = s.outfeed := rfl
@[simp] theorem drainBins_slots (w : CloseReason) (p : BinNo → Lift → Bool) (s : State) :
    (drainBins w p s).slots = s.slots := rfl
@[simp] theorem drainBins_arbiter (w : CloseReason) (p : BinNo → Lift → Bool) (s : State) :
    (drainBins w p s).arbiter = s.arbiter := rfl
@[simp] theorem drainBins_mode (w : CloseReason) (p : BinNo → Lift → Bool) (s : State) :
    (drainBins w p s).mode = s.mode := rfl
@[simp] theorem drainBins_tallies (w : CloseReason) (p : BinNo → Lift → Bool) (s : State) :
    (drainBins w p s).tallies = s.tallies := rfl
@[simp] theorem drainBins_ports (w : CloseReason) (p : BinNo → Lift → Bool) (s : State) :
    (drainBins w p s).ports = s.ports := rfl
@[simp] theorem drainBins_events (w : CloseReason) (p : BinNo → Lift → Bool) (s : State) :
    (drainBins w p s).events = s.events := rfl
@[simp] theorem drainBins_refusal (w : CloseReason) (p : BinNo → Lift → Bool) (s : State) :
    (drainBins w p s).refusal = s.refusal := rfl
@[simp] theorem drainBins_pending (w : CloseReason) (p : BinNo → Lift → Bool) (s : State) :
    (drainBins w p s).pending = s.pending := rfl

/-! ### joinEjection -/

@[simp] theorem joinEjection_tracker (b : BinNo) (s : State) :
    (joinEjection b s).tracker = s.tracker := rfl
@[simp] theorem joinEjection_banks (b : BinNo) (s : State) :
    (joinEjection b s).banks = s.banks := rfl
@[simp] theorem joinEjection_geometry (b : BinNo) (s : State) :
    (joinEjection b s).geometry = s.geometry := rfl
@[simp] theorem joinEjection_bins (b : BinNo) (s : State) :
    (joinEjection b s).bins = s.bins := rfl
@[simp] theorem joinEjection_redryGate (b : BinNo) (s : State) :
    (joinEjection b s).redryGate = s.redryGate := rfl
@[simp] theorem joinEjection_store (b : BinNo) (s : State) :
    (joinEjection b s).store = s.store := rfl
@[simp] theorem joinEjection_slots (b : BinNo) (s : State) :
    (joinEjection b s).slots = s.slots := rfl
@[simp] theorem joinEjection_arbiter (b : BinNo) (s : State) :
    (joinEjection b s).arbiter = s.arbiter := rfl
@[simp] theorem joinEjection_mode (b : BinNo) (s : State) :
    (joinEjection b s).mode = s.mode := rfl
@[simp] theorem joinEjection_tallies (b : BinNo) (s : State) :
    (joinEjection b s).tallies = s.tallies := rfl
@[simp] theorem joinEjection_ports (b : BinNo) (s : State) :
    (joinEjection b s).ports = s.ports := rfl
@[simp] theorem joinEjection_events (b : BinNo) (s : State) :
    (joinEjection b s).events = s.events := rfl
@[simp] theorem joinEjection_refusal (b : BinNo) (s : State) :
    (joinEjection b s).refusal = s.refusal := rfl
@[simp] theorem joinEjection_pending (b : BinNo) (s : State) :
    (joinEjection b s).pending = s.pending := rfl

/-! ### startEjection -/

@[simp] theorem startEjection_tracker (b : BinNo) (l : Lift) (n : SlotNo) (s : State) :
    (startEjection b l n s).tracker = s.tracker := rfl
@[simp] theorem startEjection_banks (b : BinNo) (l : Lift) (n : SlotNo) (s : State) :
    (startEjection b l n s).banks = s.banks := rfl
@[simp] theorem startEjection_geometry (b : BinNo) (l : Lift) (n : SlotNo) (s : State) :
    (startEjection b l n s).geometry = s.geometry := rfl
@[simp] theorem startEjection_redryGate (b : BinNo) (l : Lift) (n : SlotNo) (s : State) :
    (startEjection b l n s).redryGate = s.redryGate := rfl
@[simp] theorem startEjection_store (b : BinNo) (l : Lift) (n : SlotNo) (s : State) :
    (startEjection b l n s).store = s.store := rfl
@[simp] theorem startEjection_arbiter (b : BinNo) (l : Lift) (n : SlotNo) (s : State) :
    (startEjection b l n s).arbiter = s.arbiter := rfl
@[simp] theorem startEjection_mode (b : BinNo) (l : Lift) (n : SlotNo) (s : State) :
    (startEjection b l n s).mode = s.mode := rfl
@[simp] theorem startEjection_tallies (b : BinNo) (l : Lift) (n : SlotNo) (s : State) :
    (startEjection b l n s).tallies = s.tallies := rfl
@[simp] theorem startEjection_ports (b : BinNo) (l : Lift) (n : SlotNo) (s : State) :
    (startEjection b l n s).ports = s.ports := rfl
@[simp] theorem startEjection_events (b : BinNo) (l : Lift) (n : SlotNo) (s : State) :
    (startEjection b l n s).events = s.events := rfl
@[simp] theorem startEjection_refusal (b : BinNo) (l : Lift) (n : SlotNo) (s : State) :
    (startEjection b l n s).refusal = s.refusal := rfl
@[simp] theorem startEjection_pending (b : BinNo) (l : Lift) (n : SlotNo) (s : State) :
    (startEjection b l n s).pending = s.pending := rfl

/-! ### endPull -/

@[simp] theorem endPull_tracker (i : LineNo) (n : Nat) (s : State) :
    (endPull i n s).tracker = s.tracker := rfl
@[simp] theorem endPull_banks (i : LineNo) (n : Nat) (s : State) :
    (endPull i n s).banks = s.banks := rfl
@[simp] theorem endPull_geometry (i : LineNo) (n : Nat) (s : State) :
    (endPull i n s).geometry = s.geometry := rfl
@[simp] theorem endPull_bins (i : LineNo) (n : Nat) (s : State) :
    (endPull i n s).bins = s.bins := rfl
@[simp] theorem endPull_redryGate (i : LineNo) (n : Nat) (s : State) :
    (endPull i n s).redryGate = s.redryGate := rfl
@[simp] theorem endPull_store (i : LineNo) (n : Nat) (s : State) :
    (endPull i n s).store = s.store := rfl
@[simp] theorem endPull_outfeed (i : LineNo) (n : Nat) (s : State) :
    (endPull i n s).outfeed = s.outfeed := rfl
@[simp] theorem endPull_slots (i : LineNo) (n : Nat) (s : State) :
    (endPull i n s).slots = s.slots := rfl
@[simp] theorem endPull_arbiter (i : LineNo) (n : Nat) (s : State) :
    (endPull i n s).arbiter = { s.arbiter with pulls := s.arbiter.pulls.eraseP (fun p => p.number == n && p.line == i) } := rfl
@[simp] theorem endPull_mode (i : LineNo) (n : Nat) (s : State) :
    (endPull i n s).mode = s.mode := rfl
@[simp] theorem endPull_tallies (i : LineNo) (n : Nat) (s : State) :
    (endPull i n s).tallies = s.tallies := rfl
@[simp] theorem endPull_ports (i : LineNo) (n : Nat) (s : State) :
    (endPull i n s).ports = s.ports := rfl
@[simp] theorem endPull_events (i : LineNo) (n : Nat) (s : State) :
    (endPull i n s).events = s.events := rfl
@[simp] theorem endPull_refusal (i : LineNo) (n : Nat) (s : State) :
    (endPull i n s).refusal = s.refusal := rfl
@[simp] theorem endPull_pending (i : LineNo) (n : Nat) (s : State) :
    (endPull i n s).pending = s.pending := rfl

/-! ### returnLift -/

@[simp] theorem returnLift_tracker (n : SlotNo) (l : Lift) (s : State) :
    (returnLift n l s).tracker = s.tracker := rfl
@[simp] theorem returnLift_banks (n : SlotNo) (l : Lift) (s : State) :
    (returnLift n l s).banks = s.banks := rfl
@[simp] theorem returnLift_geometry (n : SlotNo) (l : Lift) (s : State) :
    (returnLift n l s).geometry = s.geometry := rfl
@[simp] theorem returnLift_bins (n : SlotNo) (l : Lift) (s : State) :
    (returnLift n l s).bins = s.bins := rfl
@[simp] theorem returnLift_redryGate (n : SlotNo) (l : Lift) (s : State) :
    (returnLift n l s).redryGate = s.redryGate := rfl
@[simp] theorem returnLift_store (n : SlotNo) (l : Lift) (s : State) :
    (returnLift n l s).store = s.store := rfl
@[simp] theorem returnLift_outfeed (n : SlotNo) (l : Lift) (s : State) :
    (returnLift n l s).outfeed = s.outfeed := rfl
@[simp] theorem returnLift_slots (n : SlotNo) (l : Lift) (s : State) :
    (returnLift n l s).slots = vset s.slots n { s.slots[n] with state := .holding l.giveBack } := rfl
@[simp] theorem returnLift_arbiter (n : SlotNo) (l : Lift) (s : State) :
    (returnLift n l s).arbiter = s.arbiter := rfl
@[simp] theorem returnLift_mode (n : SlotNo) (l : Lift) (s : State) :
    (returnLift n l s).mode = s.mode := rfl
@[simp] theorem returnLift_tallies (n : SlotNo) (l : Lift) (s : State) :
    (returnLift n l s).tallies = s.tallies := rfl
@[simp] theorem returnLift_ports (n : SlotNo) (l : Lift) (s : State) :
    (returnLift n l s).ports = s.ports := rfl
@[simp] theorem returnLift_events (n : SlotNo) (l : Lift) (s : State) :
    (returnLift n l s).events = s.events := rfl
@[simp] theorem returnLift_refusal (n : SlotNo) (l : Lift) (s : State) :
    (returnLift n l s).refusal = s.refusal := rfl
@[simp] theorem returnLift_pending (n : SlotNo) (l : Lift) (s : State) :
    (returnLift n l s).pending = s.pending := rfl

/-! ### mapBinLift -/

@[simp] theorem mapBinLift_tracker (b : BinNo) (f : Lift → Lift) (s : State) :
    (mapBinLift b f s).tracker = s.tracker := rfl
@[simp] theorem mapBinLift_banks (b : BinNo) (f : Lift → Lift) (s : State) :
    (mapBinLift b f s).banks = s.banks := rfl
@[simp] theorem mapBinLift_geometry (b : BinNo) (f : Lift → Lift) (s : State) :
    (mapBinLift b f s).geometry = s.geometry := rfl
@[simp] theorem mapBinLift_bins (b : BinNo) (f : Lift → Lift) (s : State) :
    (mapBinLift b f s).bins = vset s.bins b { s.bins[b] with state := s.bins[b].state.mapLift f } := rfl
@[simp] theorem mapBinLift_redryGate (b : BinNo) (f : Lift → Lift) (s : State) :
    (mapBinLift b f s).redryGate = s.redryGate := rfl
@[simp] theorem mapBinLift_store (b : BinNo) (f : Lift → Lift) (s : State) :
    (mapBinLift b f s).store = s.store := rfl
@[simp] theorem mapBinLift_outfeed (b : BinNo) (f : Lift → Lift) (s : State) :
    (mapBinLift b f s).outfeed = s.outfeed := rfl
@[simp] theorem mapBinLift_slots (b : BinNo) (f : Lift → Lift) (s : State) :
    (mapBinLift b f s).slots = s.slots := rfl
@[simp] theorem mapBinLift_arbiter (b : BinNo) (f : Lift → Lift) (s : State) :
    (mapBinLift b f s).arbiter = s.arbiter := rfl
@[simp] theorem mapBinLift_mode (b : BinNo) (f : Lift → Lift) (s : State) :
    (mapBinLift b f s).mode = s.mode := rfl
@[simp] theorem mapBinLift_tallies (b : BinNo) (f : Lift → Lift) (s : State) :
    (mapBinLift b f s).tallies = s.tallies := rfl
@[simp] theorem mapBinLift_ports (b : BinNo) (f : Lift → Lift) (s : State) :
    (mapBinLift b f s).ports = s.ports := rfl
@[simp] theorem mapBinLift_events (b : BinNo) (f : Lift → Lift) (s : State) :
    (mapBinLift b f s).events = s.events := rfl
@[simp] theorem mapBinLift_refusal (b : BinNo) (f : Lift → Lift) (s : State) :
    (mapBinLift b f s).refusal = s.refusal := rfl
@[simp] theorem mapBinLift_pending (b : BinNo) (f : Lift → Lift) (s : State) :
    (mapBinLift b f s).pending = s.pending := rfl

/-! ### setBankState -/

@[simp] theorem setBankState_tracker (k : BankNo) (x : BankState) (s : State) :
    (setBankState k x s).tracker = s.tracker := rfl
@[simp] theorem setBankState_banks (k : BankNo) (x : BankState) (s : State) :
    (setBankState k x s).banks = { s.banks with bank := vset s.banks.bank k { s.banks.bank[k] with state := x } } := rfl
@[simp] theorem setBankState_geometry (k : BankNo) (x : BankState) (s : State) :
    (setBankState k x s).geometry = s.geometry := rfl
@[simp] theorem setBankState_bins (k : BankNo) (x : BankState) (s : State) :
    (setBankState k x s).bins = s.bins := rfl
@[simp] theorem setBankState_redryGate (k : BankNo) (x : BankState) (s : State) :
    (setBankState k x s).redryGate = s.redryGate := rfl
@[simp] theorem setBankState_store (k : BankNo) (x : BankState) (s : State) :
    (setBankState k x s).store = s.store := rfl
@[simp] theorem setBankState_outfeed (k : BankNo) (x : BankState) (s : State) :
    (setBankState k x s).outfeed = s.outfeed := rfl
@[simp] theorem setBankState_slots (k : BankNo) (x : BankState) (s : State) :
    (setBankState k x s).slots = s.slots := rfl
@[simp] theorem setBankState_arbiter (k : BankNo) (x : BankState) (s : State) :
    (setBankState k x s).arbiter = s.arbiter := rfl
@[simp] theorem setBankState_mode (k : BankNo) (x : BankState) (s : State) :
    (setBankState k x s).mode = s.mode := rfl
@[simp] theorem setBankState_tallies (k : BankNo) (x : BankState) (s : State) :
    (setBankState k x s).tallies = s.tallies := rfl
@[simp] theorem setBankState_ports (k : BankNo) (x : BankState) (s : State) :
    (setBankState k x s).ports = s.ports := rfl
@[simp] theorem setBankState_events (k : BankNo) (x : BankState) (s : State) :
    (setBankState k x s).events = s.events := rfl
@[simp] theorem setBankState_refusal (k : BankNo) (x : BankState) (s : State) :
    (setBankState k x s).refusal = s.refusal := rfl
@[simp] theorem setBankState_pending (k : BankNo) (x : BankState) (s : State) :
    (setBankState k x s).pending = s.pending := rfl

end Sys2Proof.Machine
end

