-- ==== Sys2Proof/Laws/Tables.lean ====
section
/-! SUPPORT. Reading a table after one record is replaced, and lists after their first matching item is. -/

namespace Sys2Proof

theorem vset_get {α : Type} {n : Nat} (v : Vector α n) (i j : Fin n) (x : α) :
    (vset v i x)[j] = if j = i then x else v[j] := by
  by_cases h : j = i
  · subst h; simp [vset]
  · have : i.val ≠ j.val := fun e => h (Fin.ext e.symm)
    simp [vset, this, h]

theorem vset_get_self {α : Type} {n : Nat} (v : Vector α n) (i : Fin n) (x : α) : (vset v i x)[i] = x := by
  rw [vset_get, if_pos rfl]

theorem vset_get_ne {α : Type} {n : Nat} (v : Vector α n) (i j : Fin n) (x : α) (h : j ≠ i) :
    (vset v i x)[j] = v[j] := by
  rw [vset_get, if_neg h]

theorem vmap_get {α β : Type} {n : Nat} (f : Fin n → α → β) (v : Vector α n) (i : Fin n) :
    (vmap f v)[i] = f i v[i] := by
  simp [vmap]

/-- The same two facts where the index is written as a number, the form `simp` leaves. -/
@[simp] theorem vset_getElem_self {α : Type} {n : Nat} (v : Vector α n) (i : Fin n) (x : α) :
    (vset v i x)[i.val] = x := vset_get_self v i x

@[simp] theorem vmap_getElem {α β : Type} {n : Nat} (f : Fin n → α → β) (v : Vector α n) (i : Fin n) :
    (vmap f v)[i.val] = f i v[i] := vmap_get f v i

theorem vset_eq_self {α : Type} {n : Nat} (v : Vector α n) (i : Fin n) : vset v i v[i] = v := by
  ext j hj
  simp [vset]

theorem vset_vset {α : Type} {n : Nat} (v : Vector α n) (i : Fin n) (x y : α) :
    vset (vset v i x) i y = vset v i y := by
  simp [vset]

theorem mem_allBins (b : BinNo) : b ∈ allBins := by
  revert b; decide

theorem mem_allSlots (n : SlotNo) : n ∈ allSlots := by
  revert n; decide

theorem mem_allFour (i : Fin 4) : i ∈ allFour := by
  revert i; decide

namespace Machine

theorem updFirst_length {α : Type} (p : α → Bool) (f : α → α) (l : List α) :
    (updFirst p f l).length = l.length := by
  induction l with
  | nil => rfl
  | cons x xs ih => simp only [updFirst]; split <;> simp [ih]

/-- A fold of steps, each related to the state it starts from by a reflexive and transitive relation, is
related to where it started. -/
theorem foldl_rel {α : Type} (rel : State → State → Prop) (refl : ∀ s, rel s s)
    (trans : ∀ s t u, rel s t → rel t u → rel s u) (f : State → α → State) (h : ∀ s a, rel s (f s a)) :
    ∀ (l : List α) (s : State), rel s (l.foldl f s) := by
  intro l
  induction l with
  | nil => intro s; exact refl s
  | cons a l ih => intro s; exact trans _ _ _ (h s a) (ih _)

/-- A fold of steps that each keep a property keeps it. -/
theorem foldl_keeps {α : Type} (inv : State → Prop) (f : State → α → State)
    (h : ∀ s a, inv s → inv (f s a)) : ∀ (l : List α) (s : State), inv s → inv (l.foldl f s) := by
  intro l
  induction l with
  | nil => intro s hs; exact hs
  | cons a l ih => intro s hs; exact ih _ (h s a hs)

end Machine

end Sys2Proof
end

