-- ==== Sys2Proof/Laws/Belt.lean ====
section
/-! SUPPORT. What every operation of the belt, the bins and the outfeed leaves alone: one lemma an operation. -/

namespace Sys2Proof.Machine

namespace BeltFrame

theorem refl (s : State) : BeltFrame s s :=
  ⟨rfl, rfl, rfl, rfl, rfl, rfl, rfl, rfl, rfl, rfl, rfl, fun _ => rfl, fun _ => rfl, .inl rfl⟩

theorem trans {s t u : State} (h : BeltFrame s t) (k : BeltFrame t u) : BeltFrame s u where
  travel := k.travel.trans h.travel
  number := k.number.trans h.number
  trailing := k.trailing.trans h.trailing
  banks := k.banks.trans h.banks
  geometry := k.geometry.trans h.geometry
  arbiter := k.arbiter.trans h.arbiter
  ports := k.ports.trans h.ports
  refusal := k.refusal.trans h.refusal
  pending := k.pending.trans h.pending
  mask := k.mask.trans h.mask
  timeout := k.timeout.trans h.timeout
  binEyes := fun b => (k.binEyes b).trans (h.binEyes b)
  slotEyes := fun n => (k.slotEyes n).trans (h.slotEyes n)
  mode := by
    rcases h.mode with h1 | ⟨h1, h2⟩ <;> rcases k.mode with k1 | ⟨k1, k2⟩
    · exact .inl (k1.trans h1)
    · exact .inr ⟨h1 ▸ k1, k2⟩
    · exact .inr ⟨h1, k1.trans h2⟩
    · exact .inr ⟨h1, k2⟩

theorem foldl {α : Type} (f : State → α → State) (h : ∀ s a, BeltFrame s (f s a)) (l : List α) (s : State) :
    BeltFrame s (l.foldl f s) :=
  foldl_rel BeltFrame refl (fun _ _ _ => trans) f h l s

end BeltFrame

theorem setEntry_beltFrame (n : EntryId) (f : Entry → Entry) (s : State) : BeltFrame s (setEntry n f s) :=
  ⟨rfl, rfl, rfl, rfl, rfl, rfl, rfl, rfl, rfl, rfl, rfl, fun _ => rfl, fun _ => rfl, .inl rfl⟩

theorem removeEntry_beltFrame (n : EntryId) (s : State) : BeltFrame s (removeEntry n s) :=
  ⟨rfl, rfl, rfl, rfl, rfl, rfl, rfl, rfl, rfl, rfl, rfl, fun _ => rfl, fun _ => rfl, .inl rfl⟩

theorem tally_beltFrame (f : Tallies → Tallies) (s : State) : BeltFrame s (tally f s) :=
  ⟨rfl, rfl, rfl, rfl, rfl, rfl, rfl, rfl, rfl, rfl, rfl, fun _ => rfl, fun _ => rfl, .inl rfl⟩

theorem append_mask (l : EventLog) (e : Event) : (l.append e).mask = l.mask := by
  unfold EventLog.append; split
  · split <;> rfl
  · rfl

theorem raise_beltFrame (e : Event) (s : State) : BeltFrame s (raise e s) :=
  ⟨rfl, rfl, rfl, rfl, rfl, rfl, rfl, rfl, rfl, append_mask _ _, rfl, fun _ => rfl, fun _ => rfl, .inl rfl⟩

theorem setBin_beltFrame (b : BinNo) (f : Bin → Bin) (s : State) (h : ∀ x, (f x).eyeMark = x.eyeMark) :
    BeltFrame s (setBin b f s) := by
  refine ⟨rfl, rfl, rfl, rfl, rfl, rfl, rfl, rfl, rfl, rfl, rfl, ?_, fun _ => rfl, .inl rfl⟩
  intro c
  show ((vset s.bins b (f s.bins[b]))[c]).eyeMark = _
  rw [vset_get]; split
  · next e => subst e; exact h _
  · rfl

theorem setSlot_beltFrame (n : SlotNo) (f : Slot → Slot) (s : State) (h : ∀ x, (f x).eye = x.eye) :
    BeltFrame s (setSlot n f s) := by
  refine ⟨rfl, rfl, rfl, rfl, rfl, rfl, rfl, rfl, rfl, rfl, rfl, fun _ => rfl, ?_, .inl rfl⟩
  intro c
  show ((vset s.slots n (f s.slots[n]))[c]).eye = _
  rw [vset_get]; split
  · next e => subst e; exact h _
  · rfl

theorem mapBins_beltFrame (f : BinNo → Bin → Bin) (s : State) (h : ∀ b x, (f b x).eyeMark = x.eyeMark) :
    BeltFrame s { s with bins := vmap f s.bins } := by
  refine ⟨rfl, rfl, rfl, rfl, rfl, rfl, rfl, rfl, rfl, rfl, rfl, ?_, fun _ => rfl, .inl rfl⟩
  intro c
  show ((vmap f s.bins)[c]).eyeMark = _
  rw [vmap_get]; exact h _ _

theorem syncGates_beltFrame (s : State) : BeltFrame s (syncGates s) := by
  constructor
  case binEyes =>
    intro c
    simp only [State.bin, syncGates_bins, vmap_get]
  all_goals simp

theorem drainBins_beltFrame (w : CloseReason) (p : BinNo → Lift → Bool) (s : State) :
    BeltFrame s (drainBins w p s) :=
  mapBins_beltFrame _ s (fun _ _ => rfl)

theorem mapBinLift_beltFrame (b : BinNo) (f : Lift → Lift) (s : State) : BeltFrame s (mapBinLift b f s) :=
  setBin_beltFrame _ _ _ (fun _ => rfl)

theorem dropAtBeltEnd_beltFrame (n : EntryId) (s : State) : BeltFrame s (dropAtBeltEnd n s) := by
  unfold dropAtBeltEnd
  split
  · split
    · exact (removeEntry_beltFrame n s).trans (tally_beltFrame _ _)
    · exact .refl s
  · exact .refl s

theorem rejectEntry_beltFrame (n : EntryId) (w : RejectReason) (v : Option Computed) (s : State) :
    BeltFrame s (rejectEntry n w v s) :=
  (setEntry_beltFrame n _ s).trans (dropAtBeltEnd_beltFrame n _)

theorem sweepAwaiting_beltFrame (s : State) : BeltFrame s (sweepAwaiting s) := by
  apply BeltFrame.foldl
  intro s n
  unfold sweepEntry
  split
  · split
    · exact rejectEntry_beltFrame _ _ _ _
    · exact .refl s
  · exact .refl s

theorem setMismatches_beltFrame (m : Nat) (s : State) : BeltFrame s (setMismatches m s) := by
  have h : BeltFrame s (setTracker (fun t => { t with mismatches := m }) s) :=
    ⟨rfl, rfl, rfl, rfl, rfl, rfl, rfl, rfl, rfl, rfl, rfl, fun _ => rfl, fun _ => rfl, .inl rfl⟩
  unfold setMismatches
  dsimp only
  split
  · exact h
  · split
    · exact (h.trans (raise_beltFrame _ _)).trans (sweepAwaiting_beltFrame _)
    · exact h.trans (raise_beltFrame _ _)

theorem countMismatch_beltFrame (s : State) : BeltFrame s (countMismatch s) := setMismatches_beltFrame _ s

theorem joinEjection_beltFrame (b : BinNo) (s : State) : BeltFrame s (joinEjection b s) :=
  ⟨rfl, rfl, rfl, rfl, rfl, rfl, rfl, rfl, rfl, rfl, rfl, fun _ => rfl, fun _ => rfl, .inl rfl⟩

theorem waitForOutfeed_beltFrame (b : BinNo) (l : Lift) (s : State) : BeltFrame s (waitForOutfeed b l s) :=
  (setBin_beltFrame b (fun x => { x with state := .fullWait l }) s (fun _ => rfl)).trans
    (joinEjection_beltFrame b _)

theorem withStore_beltFrame (x : LiftStore) (s : State) : BeltFrame s { s with store := x } :=
  ⟨rfl, rfl, rfl, rfl, rfl, rfl, rfl, rfl, rfl, rfl, rfl, fun _ => rfl, fun _ => rfl, .inl rfl⟩

theorem closeLift_beltFrame (b : BinNo) (w : CloseReason) (l : Lift) (s : State) :
    BeltFrame s (closeLift b w l s) :=
  (((withStore_beltFrame _ s).trans (tally_beltFrame _ _)).trans (raise_beltFrame _ _)).trans
    (waitForOutfeed_beltFrame _ _ _)

theorem discardLift_beltFrame (b : BinNo) (w : DiscardReason) (l : Lift) (x : BinState) (s : State) :
    BeltFrame s (discardLift b w l x s) :=
  (setBin_beltFrame b (fun y => { y with state := x }) s (fun _ => rfl)).trans (raise_beltFrame _ _)

theorem completeDrain_beltFrame (b : BinNo) (s : State) : BeltFrame s (completeDrain b s) := by
  unfold completeDrain
  split
  · split
    · split
      · exact discardLift_beltFrame _ _ _ _ _
      · exact closeLift_beltFrame _ _ _ _
    · exact .refl s
  · exact .refl s

theorem completeDrains_beltFrame (s : State) : BeltFrame s (completeDrains s) :=
  BeltFrame.foldl _ (fun s b => completeDrain_beltFrame b s) _ s

theorem startEjection_beltFrame (b : BinNo) (l : Lift) (n : SlotNo) (s : State) :
    BeltFrame s (startEjection b l n s) := by
  unfold startEjection
  refine BeltFrame.trans ?_ (setSlot_beltFrame _ _ _ (fun _ => rfl))
  refine BeltFrame.trans ?_ (setBin_beltFrame _ _ _ (fun _ => rfl))
  exact ⟨rfl, rfl, rfl, rfl, rfl, rfl, rfl, rfl, rfl, rfl, rfl, fun _ => rfl, fun _ => rfl, .inl rfl⟩

theorem ejectionTest_beltFrame (s : State) : BeltFrame s (ejectionTest s) := by
  unfold ejectionTest
  split
  · split
    · exact startEjection_beltFrame _ _ _ _
    · exact .refl s
  · exact .refl s

theorem closeEvent_beltFrame (s : State) : BeltFrame s (closeEvent s) :=
  (syncGates_beltFrame s).trans (ejectionTest_beltFrame _)

theorem setMode_idle_beltFrame (s u : State) (h : s.mode = .drain) (k : BeltFrame s u) :
    BeltFrame s (setMode .idle u) := by
  unfold setMode
  split
  · exact k
  · exact
      ⟨k.travel, k.number, k.trailing, k.banks, k.geometry, k.arbiter, k.ports, k.refusal, k.pending,
        (append_mask _ _).trans k.mask, k.timeout, k.binEyes, k.slotEyes, .inr ⟨h, rfl⟩⟩

theorem endDrainIfDue_beltFrame (s : State) : BeltFrame s (endDrainIfDue s) := by
  unfold endDrainIfDue
  split
  · next h =>
    exact setMode_idle_beltFrame s _ h.1
      ((drainBins_beltFrame .shiftEnd (fun _ _ => true) s).trans (completeDrains_beltFrame _))
  · exact .refl s

theorem finish_beltFrame (s : State) : BeltFrame s (finish s) :=
  (endDrainIfDue_beltFrame s).trans (closeEvent_beltFrame _)

/-! ### The router and the bin supervisor -/

theorem openLift_beltFrame (b : BinNo) (k : Key) (x : Nat) (s : State) : BeltFrame s (openLift b k x s) := by
  unfold openLift
  split
  · exact (withStore_beltFrame _ s).trans (setBin_beltFrame _ _ _ (fun _ => rfl))
  · exact .refl s

theorem commitTo_beltFrame (n : EntryId) (b : BinNo) (k : Key) (x : Nat) (s : State) :
    BeltFrame s (commitTo n b k x s) := by
  unfold commitTo
  refine BeltFrame.trans ?_ (setEntry_beltFrame _ _ _)
  refine BeltFrame.trans ?_ (setBin_beltFrame _ _ _ (fun _ => rfl))
  exact openLift_beltFrame b k x s

theorem applyRoute_beltFrame (n : EntryId) (p : RoutePlan) (s : State) : BeltFrame s (applyRoute n p s) := by
  cases p with
  | bin b k x => exact commitTo_beltFrame _ _ _ _ _
  | redryGate p => exact setEntry_beltFrame _ _ _
  | beltEnd r x => exact rejectEntry_beltFrame _ _ _ _

theorem rerouteEntry_beltFrame (b : BinNo) (s : State) (n : EntryId) : BeltFrame s (rerouteEntry b s n) := by
  unfold rerouteEntry
  split
  · split
    · exact (mapBinLift_beltFrame _ _ _).trans (applyRoute_beltFrame _ _ _)
    · exact .refl s
  · exact .refl s

theorem turnAwayEntry_beltFrame (b : BinNo) (s : State) (n : EntryId) : BeltFrame s (turnAwayEntry b s n) := by
  unfold turnAwayEntry
  split
  · split
    · exact (mapBinLift_beltFrame _ _ _).trans (rejectEntry_beltFrame _ _ _ _)
    · exact .refl s
  · exact .refl s

theorem loseEntries_beltFrame (b : BinNo) (s : State) : BeltFrame s (loseEntries b s) :=
  (BeltFrame.foldl _ (rerouteEntry_beltFrame b) _ s).trans (BeltFrame.foldl _ (turnAwayEntry_beltFrame b) _ _)

theorem loseEjection_beltFrame (b : BinNo) (w : BinFault) (s : State) : BeltFrame s (loseEjection b w s) := by
  refine ⟨rfl, rfl, rfl, rfl, rfl, rfl, rfl, rfl, rfl, rfl, rfl, fun _ => rfl, ?_, .inl rfl⟩
  intro n
  unfold loseEjection
  dsimp only
  rw [vmap_get]; split <;> rfl

theorem faultBin_beltFrame (b : BinNo) (w : BinFault) (s : State) : BeltFrame s (faultBin b w s) := by
  unfold faultBin
  split
  · exact .refl s
  · exact .refl s
  · dsimp only
    refine BeltFrame.trans ?_ (syncGates_beltFrame _)
    refine BeltFrame.trans ?_ (loseEntries_beltFrame _ _)
    have h (s : State) :
        BeltFrame s { s with outfeed := { s.outfeed with queue := s.outfeed.queue.filter (fun c => c != b) } } :=
      ⟨rfl, rfl, rfl, rfl, rfl, rfl, rfl, rfl, rfl, rfl, rfl, fun _ => rfl, fun _ => rfl, .inl rfl⟩
    split
    · refine BeltFrame.trans ?_ (loseEjection_beltFrame _ _ _)
      refine BeltFrame.trans ?_ (h _)
      refine BeltFrame.trans ?_ (raise_beltFrame _ _)
      exact setBin_beltFrame _ _ _ (fun _ => rfl)
    · refine BeltFrame.trans ?_ (h _)
      refine BeltFrame.trans ?_ (raise_beltFrame _ _)
      exact setBin_beltFrame _ _ _ (fun _ => rfl)

theorem bumpSuspicion_beltFrame (b : BinNo) (s : State) : BeltFrame s (bumpSuspicion b s) :=
  setBin_beltFrame _ _ _ (fun _ => rfl)

theorem anomalyTest_beltFrame (b : BinNo) (w : Anomaly) (s : State) : BeltFrame s (anomalyTest b w s) := by
  unfold anomalyTest
  split
  · exact raise_beltFrame _ _
  · split
    · exact faultBin_beltFrame _ _ _
    · exact .refl s

theorem landEntry_beltFrame (b : BinNo) (e : Entry) (s : State) : BeltFrame s (landEntry b e s) := by
  unfold landEntry
  dsimp only
  refine BeltFrame.trans ?_ (completeDrain_beltFrame _ _)
  refine BeltFrame.trans ?_ (syncGates_beltFrame _)
  split
  · refine BeltFrame.trans ?_ (tally_beltFrame _ _)
    refine BeltFrame.trans ?_ (removeEntry_beltFrame _ _)
    exact setBin_beltFrame _ _ _ (fun _ => rfl)
  · refine BeltFrame.trans ?_ (removeEntry_beltFrame _ _)
    exact setBin_beltFrame _ _ _ (fun _ => rfl)

theorem strayLanding_beltFrame (b : BinNo) (s : State) : BeltFrame s (strayLanding b s) :=
  ((bumpSuspicion_beltFrame b s).trans (tally_beltFrame _ _)).trans (anomalyTest_beltFrame _ _ _)

theorem landedEdge_beltFrame (b : BinNo) (s : State) : BeltFrame s (landedEdge b s) := by
  unfold landedEdge
  split
  · exact .refl s
  · split
    · exact .refl s
    · exact .refl s
    · split
      · exact landEntry_beltFrame _ _ _
      · exact strayLanding_beltFrame _ _
    · split
      · exact landEntry_beltFrame _ _ _
      · exact strayLanding_beltFrame _ _
    · exact strayLanding_beltFrame _ _

theorem missEntry_beltFrame (b : BinNo) (n : EntryId) (s : State) : BeltFrame s (missEntry b n s) := by
  unfold missEntry
  dsimp only
  refine BeltFrame.trans ?_ (completeDrain_beltFrame _ _)
  refine BeltFrame.trans ?_ (anomalyTest_beltFrame _ _ _)
  refine BeltFrame.trans ?_ (syncGates_beltFrame _)
  refine BeltFrame.trans ?_ (tally_beltFrame _ _)
  refine BeltFrame.trans ?_ (removeEntry_beltFrame _ _)
  refine BeltFrame.trans ?_ (bumpSuspicion_beltFrame _ _)
  exact mapBinLift_beltFrame _ _ _

/-! ### The passages -/

theorem expireDecision_beltFrame (s : State) (n : EntryId) : BeltFrame s (expireDecision s n) := by
  unfold expireDecision
  split
  · exact (rejectEntry_beltFrame _ _ _ _).trans (countMismatch_beltFrame _)
  · exact .refl s

theorem expireWindow_beltFrame (s : State) (n : EntryId) : BeltFrame s (expireWindow s n) := by
  unfold expireWindow
  split
  · exact missEntry_beltFrame _ _ _
  · exact .refl s

theorem expireEye_beltFrame (s : State) (b : BinNo) : BeltFrame s (expireEye s b) := by
  unfold expireEye
  split
  · exact faultBin_beltFrame _ _ _
  · exact .refl s

theorem passDecision_beltFrame (s : State) (n : EntryId) : BeltFrame s (passDecision s n) := by
  unfold passDecision
  split
  · exact (expireDecision_beltFrame _ _).trans (finish_beltFrame _)
  · exact .refl s

theorem passGateOpen_beltFrame (s : State) (n : EntryId) : BeltFrame s (passGateOpen s n) := by
  unfold passGateOpen
  split
  · exact (setEntry_beltFrame _ _ _).trans (syncGates_beltFrame _)
  · exact .refl s

theorem passGateClose_beltFrame (s : State) (n : EntryId) : BeltFrame s (passGateClose s n) := by
  unfold passGateClose
  split
  · exact (setEntry_beltFrame _ _ _).trans (syncGates_beltFrame _)
  · exact .refl s

theorem passWindowEnd_beltFrame (s : State) (n : EntryId) : BeltFrame s (passWindowEnd s n) := by
  unfold passWindowEnd
  split
  · exact (expireWindow_beltFrame _ _).trans (finish_beltFrame _)
  · exact .refl s

theorem passRedryOpen_beltFrame (s : State) (n : EntryId) : BeltFrame s (passRedryOpen s n) := by
  unfold passRedryOpen
  split
  · exact (setEntry_beltFrame _ _ _).trans (syncGates_beltFrame _)
  · exact .refl s

theorem passRedryClose_beltFrame (s : State) (n : EntryId) : BeltFrame s (passRedryClose s n) := by
  unfold passRedryClose
  split
  · exact ((removeEntry_beltFrame _ _).trans (tally_beltFrame _ _)).trans (finish_beltFrame _)
  · exact .refl s

theorem passBeltEnd_beltFrame (s : State) (n : EntryId) : BeltFrame s (passBeltEnd s n) := by
  unfold passBeltEnd
  split
  · exact (dropAtBeltEnd_beltFrame _ _).trans (finish_beltFrame _)
  · exact .refl s

theorem passEyeStuck_beltFrame (s : State) (b : BinNo) : BeltFrame s (passEyeStuck s b) := by
  unfold passEyeStuck
  split
  · exact (expireEye_beltFrame _ _).trans (finish_beltFrame _)
  · exact .refl s

theorem passesOf_beltFrame (s : State) (n : EntryId) : BeltFrame s (passesOf s n) :=
  ((((((passDecision_beltFrame s n).trans (passGateOpen_beltFrame _ n)).trans (passRedryOpen_beltFrame _ n)).trans
    (passGateClose_beltFrame _ n)).trans (passWindowEnd_beltFrame _ n)).trans
    (passRedryClose_beltFrame _ n)).trans (passBeltEnd_beltFrame _ n)

theorem duePassages_beltFrame (s : State) : BeltFrame s (duePassages s) :=
  (BeltFrame.foldl _ passesOf_beltFrame _ s).trans (BeltFrame.foldl _ passEyeStuck_beltFrame _ _)

theorem nearerPassages_beltFrame (p : GeomParam) (old : Geometry) (s : State) :
    BeltFrame s (nearerPassages p old s) := by
  unfold nearerPassages
  split
  · split
    · exact BeltFrame.foldl _ passDecision_beltFrame _ s
    · exact BeltFrame.foldl _ passBeltEnd_beltFrame _ s
    · exact BeltFrame.foldl _ passWindowEnd_beltFrame _ s
    · exact BeltFrame.foldl _ passEyeStuck_beltFrame _ s
    · exact .refl s
  · exact .refl s

theorem timeOutEjection_beltFrame (s : State) : BeltFrame s (timeOutEjection s) := by
  unfold timeOutEjection
  split
  · exact (faultBin_beltFrame _ _ _).trans (finish_beltFrame _)
  · exact .refl s

end Sys2Proof.Machine
end

