-- ==== Sys2Proof/Laws/BeltFields.lean ====
section
/-! SUPPORT. The fields that the belt's events leave alone, one lemma an operation and field, for `simp`. -/

namespace Sys2Proof.Machine

@[simp] theorem dropAtBeltEnd_tracker_travel (n : EntryId) (s : State) :
    (dropAtBeltEnd n s).tracker.travel = s.tracker.travel := (dropAtBeltEnd_beltFrame n s).travel
@[simp] theorem dropAtBeltEnd_tracker_nextNumber (n : EntryId) (s : State) :
    (dropAtBeltEnd n s).tracker.nextNumber = s.tracker.nextNumber := (dropAtBeltEnd_beltFrame n s).number
@[simp] theorem dropAtBeltEnd_banks (n : EntryId) (s : State) :
    (dropAtBeltEnd n s).banks = s.banks := (dropAtBeltEnd_beltFrame n s).banks
@[simp] theorem dropAtBeltEnd_geometry (n : EntryId) (s : State) :
    (dropAtBeltEnd n s).geometry = s.geometry := (dropAtBeltEnd_beltFrame n s).geometry
@[simp] theorem dropAtBeltEnd_arbiter (n : EntryId) (s : State) :
    (dropAtBeltEnd n s).arbiter = s.arbiter := (dropAtBeltEnd_beltFrame n s).arbiter
@[simp] theorem dropAtBeltEnd_ports (n : EntryId) (s : State) :
    (dropAtBeltEnd n s).ports = s.ports := (dropAtBeltEnd_beltFrame n s).ports
@[simp] theorem dropAtBeltEnd_refusal (n : EntryId) (s : State) :
    (dropAtBeltEnd n s).refusal = s.refusal := (dropAtBeltEnd_beltFrame n s).refusal
@[simp] theorem dropAtBeltEnd_pending (n : EntryId) (s : State) :
    (dropAtBeltEnd n s).pending = s.pending := (dropAtBeltEnd_beltFrame n s).pending
@[simp] theorem dropAtBeltEnd_events_mask (n : EntryId) (s : State) :
    (dropAtBeltEnd n s).events.mask = s.events.mask := (dropAtBeltEnd_beltFrame n s).mask
@[simp] theorem dropAtBeltEnd_outfeed_timeout (n : EntryId) (s : State) :
    (dropAtBeltEnd n s).outfeed.timeout = s.outfeed.timeout := (dropAtBeltEnd_beltFrame n s).timeout

@[simp] theorem rejectEntry_tracker_travel (n : EntryId) (w : RejectReason) (v : Option Computed) (s : State) :
    (rejectEntry n w v s).tracker.travel = s.tracker.travel := (rejectEntry_beltFrame n w v s).travel
@[simp] theorem rejectEntry_tracker_nextNumber (n : EntryId) (w : RejectReason) (v : Option Computed) (s : State) :
    (rejectEntry n w v s).tracker.nextNumber = s.tracker.nextNumber := (rejectEntry_beltFrame n w v s).number
@[simp] theorem rejectEntry_banks (n : EntryId) (w : RejectReason) (v : Option Computed) (s : State) :
    (rejectEntry n w v s).banks = s.banks := (rejectEntry_beltFrame n w v s).banks
@[simp] theorem rejectEntry_geometry (n : EntryId) (w : RejectReason) (v : Option Computed) (s : State) :
    (rejectEntry n w v s).geometry = s.geometry := (rejectEntry_beltFrame n w v s).geometry
@[simp] theorem rejectEntry_arbiter (n : EntryId) (w : RejectReason) (v : Option Computed) (s : State) :
    (rejectEntry n w v s).arbiter = s.arbiter := (rejectEntry_beltFrame n w v s).arbiter
@[simp] theorem rejectEntry_ports (n : EntryId) (w : RejectReason) (v : Option Computed) (s : State) :
    (rejectEntry n w v s).ports = s.ports := (rejectEntry_beltFrame n w v s).ports
@[simp] theorem rejectEntry_refusal (n : EntryId) (w : RejectReason) (v : Option Computed) (s : State) :
    (rejectEntry n w v s).refusal = s.refusal := (rejectEntry_beltFrame n w v s).refusal
@[simp] theorem rejectEntry_pending (n : EntryId) (w : RejectReason) (v : Option Computed) (s : State) :
    (rejectEntry n w v s).pending = s.pending := (rejectEntry_beltFrame n w v s).pending
@[simp] theorem rejectEntry_events_mask (n : EntryId) (w : RejectReason) (v : Option Computed) (s : State) :
    (rejectEntry n w v s).events.mask = s.events.mask := (rejectEntry_beltFrame n w v s).mask
@[simp] theorem rejectEntry_outfeed_timeout (n : EntryId) (w : RejectReason) (v : Option Computed) (s : State) :
    (rejectEntry n w v s).outfeed.timeout = s.outfeed.timeout := (rejectEntry_beltFrame n w v s).timeout

@[simp] theorem setMismatches_tracker_travel (m : Nat) (s : State) :
    (setMismatches m s).tracker.travel = s.tracker.travel := (setMismatches_beltFrame m s).travel
@[simp] theorem setMismatches_tracker_nextNumber (m : Nat) (s : State) :
    (setMismatches m s).tracker.nextNumber = s.tracker.nextNumber := (setMismatches_beltFrame m s).number
@[simp] theorem setMismatches_banks (m : Nat) (s : State) :
    (setMismatches m s).banks = s.banks := (setMismatches_beltFrame m s).banks
@[simp] theorem setMismatches_geometry (m : Nat) (s : State) :
    (setMismatches m s).geometry = s.geometry := (setMismatches_beltFrame m s).geometry
@[simp] theorem setMismatches_arbiter (m : Nat) (s : State) :
    (setMismatches m s).arbiter = s.arbiter := (setMismatches_beltFrame m s).arbiter
@[simp] theorem setMismatches_ports (m : Nat) (s : State) :
    (setMismatches m s).ports = s.ports := (setMismatches_beltFrame m s).ports
@[simp] theorem setMismatches_refusal (m : Nat) (s : State) :
    (setMismatches m s).refusal = s.refusal := (setMismatches_beltFrame m s).refusal
@[simp] theorem setMismatches_pending (m : Nat) (s : State) :
    (setMismatches m s).pending = s.pending := (setMismatches_beltFrame m s).pending
@[simp] theorem setMismatches_events_mask (m : Nat) (s : State) :
    (setMismatches m s).events.mask = s.events.mask := (setMismatches_beltFrame m s).mask
@[simp] theorem setMismatches_outfeed_timeout (m : Nat) (s : State) :
    (setMismatches m s).outfeed.timeout = s.outfeed.timeout := (setMismatches_beltFrame m s).timeout

@[simp] theorem countMismatch_tracker_travel (s : State) :
    (countMismatch s).tracker.travel = s.tracker.travel := (countMismatch_beltFrame s).travel
@[simp] theorem countMismatch_tracker_nextNumber (s : State) :
    (countMismatch s).tracker.nextNumber = s.tracker.nextNumber := (countMismatch_beltFrame s).number
@[simp] theorem countMismatch_banks (s : State) :
    (countMismatch s).banks = s.banks := (countMismatch_beltFrame s).banks
@[simp] theorem countMismatch_geometry (s : State) :
    (countMismatch s).geometry = s.geometry := (countMismatch_beltFrame s).geometry
@[simp] theorem countMismatch_arbiter (s : State) :
    (countMismatch s).arbiter = s.arbiter := (countMismatch_beltFrame s).arbiter
@[simp] theorem countMismatch_ports (s : State) :
    (countMismatch s).ports = s.ports := (countMismatch_beltFrame s).ports
@[simp] theorem countMismatch_refusal (s : State) :
    (countMismatch s).refusal = s.refusal := (countMismatch_beltFrame s).refusal
@[simp] theorem countMismatch_pending (s : State) :
    (countMismatch s).pending = s.pending := (countMismatch_beltFrame s).pending
@[simp] theorem countMismatch_events_mask (s : State) :
    (countMismatch s).events.mask = s.events.mask := (countMismatch_beltFrame s).mask
@[simp] theorem countMismatch_outfeed_timeout (s : State) :
    (countMismatch s).outfeed.timeout = s.outfeed.timeout := (countMismatch_beltFrame s).timeout

@[simp] theorem waitForOutfeed_tracker_travel (b : BinNo) (l : Lift) (s : State) :
    (waitForOutfeed b l s).tracker.travel = s.tracker.travel := (waitForOutfeed_beltFrame b l s).travel
@[simp] theorem waitForOutfeed_tracker_nextNumber (b : BinNo) (l : Lift) (s : State) :
    (waitForOutfeed b l s).tracker.nextNumber = s.tracker.nextNumber := (waitForOutfeed_beltFrame b l s).number
@[simp] theorem waitForOutfeed_banks (b : BinNo) (l : Lift) (s : State) :
    (waitForOutfeed b l s).banks = s.banks := (waitForOutfeed_beltFrame b l s).banks
@[simp] theorem waitForOutfeed_geometry (b : BinNo) (l : Lift) (s : State) :
    (waitForOutfeed b l s).geometry = s.geometry := (waitForOutfeed_beltFrame b l s).geometry
@[simp] theorem waitForOutfeed_arbiter (b : BinNo) (l : Lift) (s : State) :
    (waitForOutfeed b l s).arbiter = s.arbiter := (waitForOutfeed_beltFrame b l s).arbiter
@[simp] theorem waitForOutfeed_ports (b : BinNo) (l : Lift) (s : State) :
    (waitForOutfeed b l s).ports = s.ports := (waitForOutfeed_beltFrame b l s).ports
@[simp] theorem waitForOutfeed_refusal (b : BinNo) (l : Lift) (s : State) :
    (waitForOutfeed b l s).refusal = s.refusal := (waitForOutfeed_beltFrame b l s).refusal
@[simp] theorem waitForOutfeed_pending (b : BinNo) (l : Lift) (s : State) :
    (waitForOutfeed b l s).pending = s.pending := (waitForOutfeed_beltFrame b l s).pending
@[simp] theorem waitForOutfeed_events_mask (b : BinNo) (l : Lift) (s : State) :
    (waitForOutfeed b l s).events.mask = s.events.mask := (waitForOutfeed_beltFrame b l s).mask
@[simp] theorem waitForOutfeed_outfeed_timeout (b : BinNo) (l : Lift) (s : State) :
    (waitForOutfeed b l s).outfeed.timeout = s.outfeed.timeout := (waitForOutfeed_beltFrame b l s).timeout

@[simp] theorem closeLift_tracker_travel (b : BinNo) (w : CloseReason) (l : Lift) (s : State) :
    (closeLift b w l s).tracker.travel = s.tracker.travel := (closeLift_beltFrame b w l s).travel
@[simp] theorem closeLift_tracker_nextNumber (b : BinNo) (w : CloseReason) (l : Lift) (s : State) :
    (closeLift b w l s).tracker.nextNumber = s.tracker.nextNumber := (closeLift_beltFrame b w l s).number
@[simp] theorem closeLift_banks (b : BinNo) (w : CloseReason) (l : Lift) (s : State) :
    (closeLift b w l s).banks = s.banks := (closeLift_beltFrame b w l s).banks
@[simp] theorem closeLift_geometry (b : BinNo) (w : CloseReason) (l : Lift) (s : State) :
    (closeLift b w l s).geometry = s.geometry := (closeLift_beltFrame b w l s).geometry
@[simp] theorem closeLift_arbiter (b : BinNo) (w : CloseReason) (l : Lift) (s : State) :
    (closeLift b w l s).arbiter = s.arbiter := (closeLift_beltFrame b w l s).arbiter
@[simp] theorem closeLift_ports (b : BinNo) (w : CloseReason) (l : Lift) (s : State) :
    (closeLift b w l s).ports = s.ports := (closeLift_beltFrame b w l s).ports
@[simp] theorem closeLift_refusal (b : BinNo) (w : CloseReason) (l : Lift) (s : State) :
    (closeLift b w l s).refusal = s.refusal := (closeLift_beltFrame b w l s).refusal
@[simp] theorem closeLift_pending (b : BinNo) (w : CloseReason) (l : Lift) (s : State) :
    (closeLift b w l s).pending = s.pending := (closeLift_beltFrame b w l s).pending
@[simp] theorem closeLift_events_mask (b : BinNo) (w : CloseReason) (l : Lift) (s : State) :
    (closeLift b w l s).events.mask = s.events.mask := (closeLift_beltFrame b w l s).mask
@[simp] theorem closeLift_outfeed_timeout (b : BinNo) (w : CloseReason) (l : Lift) (s : State) :
    (closeLift b w l s).outfeed.timeout = s.outfeed.timeout := (closeLift_beltFrame b w l s).timeout

@[simp] theorem discardLift_tracker_travel (b : BinNo) (w : DiscardReason) (l : Lift) (x : BinState) (s : State) :
    (discardLift b w l x s).tracker.travel = s.tracker.travel := (discardLift_beltFrame b w l x s).travel
@[simp] theorem discardLift_tracker_nextNumber (b : BinNo) (w : DiscardReason) (l : Lift) (x : BinState) (s : State) :
    (discardLift b w l x s).tracker.nextNumber = s.tracker.nextNumber := (discardLift_beltFrame b w l x s).number
@[simp] theorem discardLift_banks (b : BinNo) (w : DiscardReason) (l : Lift) (x : BinState) (s : State) :
    (discardLift b w l x s).banks = s.banks := (discardLift_beltFrame b w l x s).banks
@[simp] theorem discardLift_geometry (b : BinNo) (w : DiscardReason) (l : Lift) (x : BinState) (s : State) :
    (discardLift b w l x s).geometry = s.geometry := (discardLift_beltFrame b w l x s).geometry
@[simp] theorem discardLift_arbiter (b : BinNo) (w : DiscardReason) (l : Lift) (x : BinState) (s : State) :
    (discardLift b w l x s).arbiter = s.arbiter := (discardLift_beltFrame b w l x s).arbiter
@[simp] theorem discardLift_ports (b : BinNo) (w : DiscardReason) (l : Lift) (x : BinState) (s : State) :
    (discardLift b w l x s).ports = s.ports := (discardLift_beltFrame b w l x s).ports
@[simp] theorem discardLift_refusal (b : BinNo) (w : DiscardReason) (l : Lift) (x : BinState) (s : State) :
    (discardLift b w l x s).refusal = s.refusal := (discardLift_beltFrame b w l x s).refusal
@[simp] theorem discardLift_pending (b : BinNo) (w : DiscardReason) (l : Lift) (x : BinState) (s : State) :
    (discardLift b w l x s).pending = s.pending := (discardLift_beltFrame b w l x s).pending
@[simp] theorem discardLift_events_mask (b : BinNo) (w : DiscardReason) (l : Lift) (x : BinState) (s : State) :
    (discardLift b w l x s).events.mask = s.events.mask := (discardLift_beltFrame b w l x s).mask
@[simp] theorem discardLift_outfeed_timeout (b : BinNo) (w : DiscardReason) (l : Lift) (x : BinState) (s : State) :
    (discardLift b w l x s).outfeed.timeout = s.outfeed.timeout := (discardLift_beltFrame b w l x s).timeout

@[simp] theorem completeDrain_tracker_travel (b : BinNo) (s : State) :
    (completeDrain b s).tracker.travel = s.tracker.travel := (completeDrain_beltFrame b s).travel
@[simp] theorem completeDrain_tracker_nextNumber (b : BinNo) (s : State) :
    (completeDrain b s).tracker.nextNumber = s.tracker.nextNumber := (completeDrain_beltFrame b s).number
@[simp] theorem completeDrain_banks (b : BinNo) (s : State) :
    (completeDrain b s).banks = s.banks := (completeDrain_beltFrame b s).banks
@[simp] theorem completeDrain_geometry (b : BinNo) (s : State) :
    (completeDrain b s).geometry = s.geometry := (completeDrain_beltFrame b s).geometry
@[simp] theorem completeDrain_arbiter (b : BinNo) (s : State) :
    (completeDrain b s).arbiter = s.arbiter := (completeDrain_beltFrame b s).arbiter
@[simp] theorem completeDrain_ports (b : BinNo) (s : State) :
    (completeDrain b s).ports = s.ports := (completeDrain_beltFrame b s).ports
@[simp] theorem completeDrain_refusal (b : BinNo) (s : State) :
    (completeDrain b s).refusal = s.refusal := (completeDrain_beltFrame b s).refusal
@[simp] theorem completeDrain_pending (b : BinNo) (s : State) :
    (completeDrain b s).pending = s.pending := (completeDrain_beltFrame b s).pending
@[simp] theorem completeDrain_events_mask (b : BinNo) (s : State) :
    (completeDrain b s).events.mask = s.events.mask := (completeDrain_beltFrame b s).mask
@[simp] theorem completeDrain_outfeed_timeout (b : BinNo) (s : State) :
    (completeDrain b s).outfeed.timeout = s.outfeed.timeout := (completeDrain_beltFrame b s).timeout

@[simp] theorem completeDrains_tracker_travel (s : State) :
    (completeDrains s).tracker.travel = s.tracker.travel := (completeDrains_beltFrame s).travel
@[simp] theorem completeDrains_tracker_nextNumber (s : State) :
    (completeDrains s).tracker.nextNumber = s.tracker.nextNumber := (completeDrains_beltFrame s).number
@[simp] theorem completeDrains_banks (s : State) :
    (completeDrains s).banks = s.banks := (completeDrains_beltFrame s).banks
@[simp] theorem completeDrains_geometry (s : State) :
    (completeDrains s).geometry = s.geometry := (completeDrains_beltFrame s).geometry
@[simp] theorem completeDrains_arbiter (s : State) :
    (completeDrains s).arbiter = s.arbiter := (completeDrains_beltFrame s).arbiter
@[simp] theorem completeDrains_ports (s : State) :
    (completeDrains s).ports = s.ports := (completeDrains_beltFrame s).ports
@[simp] theorem completeDrains_refusal (s : State) :
    (completeDrains s).refusal = s.refusal := (completeDrains_beltFrame s).refusal
@[simp] theorem completeDrains_pending (s : State) :
    (completeDrains s).pending = s.pending := (completeDrains_beltFrame s).pending
@[simp] theorem completeDrains_events_mask (s : State) :
    (completeDrains s).events.mask = s.events.mask := (completeDrains_beltFrame s).mask
@[simp] theorem completeDrains_outfeed_timeout (s : State) :
    (completeDrains s).outfeed.timeout = s.outfeed.timeout := (completeDrains_beltFrame s).timeout

@[simp] theorem ejectionTest_tracker_travel (s : State) :
    (ejectionTest s).tracker.travel = s.tracker.travel := (ejectionTest_beltFrame s).travel
@[simp] theorem ejectionTest_tracker_nextNumber (s : State) :
    (ejectionTest s).tracker.nextNumber = s.tracker.nextNumber := (ejectionTest_beltFrame s).number
@[simp] theorem ejectionTest_banks (s : State) :
    (ejectionTest s).banks = s.banks := (ejectionTest_beltFrame s).banks
@[simp] theorem ejectionTest_geometry (s : State) :
    (ejectionTest s).geometry = s.geometry := (ejectionTest_beltFrame s).geometry
@[simp] theorem ejectionTest_arbiter (s : State) :
    (ejectionTest s).arbiter = s.arbiter := (ejectionTest_beltFrame s).arbiter
@[simp] theorem ejectionTest_ports (s : State) :
    (ejectionTest s).ports = s.ports := (ejectionTest_beltFrame s).ports
@[simp] theorem ejectionTest_refusal (s : State) :
    (ejectionTest s).refusal = s.refusal := (ejectionTest_beltFrame s).refusal
@[simp] theorem ejectionTest_pending (s : State) :
    (ejectionTest s).pending = s.pending := (ejectionTest_beltFrame s).pending
@[simp] theorem ejectionTest_events_mask (s : State) :
    (ejectionTest s).events.mask = s.events.mask := (ejectionTest_beltFrame s).mask
@[simp] theorem ejectionTest_outfeed_timeout (s : State) :
    (ejectionTest s).outfeed.timeout = s.outfeed.timeout := (ejectionTest_beltFrame s).timeout

@[simp] theorem closeEvent_tracker_travel (s : State) :
    (closeEvent s).tracker.travel = s.tracker.travel := (closeEvent_beltFrame s).travel
@[simp] theorem closeEvent_tracker_nextNumber (s : State) :
    (closeEvent s).tracker.nextNumber = s.tracker.nextNumber := (closeEvent_beltFrame s).number
@[simp] theorem closeEvent_banks (s : State) :
    (closeEvent s).banks = s.banks := (closeEvent_beltFrame s).banks
@[simp] theorem closeEvent_geometry (s : State) :
    (closeEvent s).geometry = s.geometry := (closeEvent_beltFrame s).geometry
@[simp] theorem closeEvent_arbiter (s : State) :
    (closeEvent s).arbiter = s.arbiter := (closeEvent_beltFrame s).arbiter
@[simp] theorem closeEvent_ports (s : State) :
    (closeEvent s).ports = s.ports := (closeEvent_beltFrame s).ports
@[simp] theorem closeEvent_refusal (s : State) :
    (closeEvent s).refusal = s.refusal := (closeEvent_beltFrame s).refusal
@[simp] theorem closeEvent_pending (s : State) :
    (closeEvent s).pending = s.pending := (closeEvent_beltFrame s).pending
@[simp] theorem closeEvent_events_mask (s : State) :
    (closeEvent s).events.mask = s.events.mask := (closeEvent_beltFrame s).mask
@[simp] theorem closeEvent_outfeed_timeout (s : State) :
    (closeEvent s).outfeed.timeout = s.outfeed.timeout := (closeEvent_beltFrame s).timeout

@[simp] theorem endDrainIfDue_tracker_travel (s : State) :
    (endDrainIfDue s).tracker.travel = s.tracker.travel := (endDrainIfDue_beltFrame s).travel
@[simp] theorem endDrainIfDue_tracker_nextNumber (s : State) :
    (endDrainIfDue s).tracker.nextNumber = s.tracker.nextNumber := (endDrainIfDue_beltFrame s).number
@[simp] theorem endDrainIfDue_banks (s : State) :
    (endDrainIfDue s).banks = s.banks := (endDrainIfDue_beltFrame s).banks
@[simp] theorem endDrainIfDue_geometry (s : State) :
    (endDrainIfDue s).geometry = s.geometry := (endDrainIfDue_beltFrame s).geometry
@[simp] theorem endDrainIfDue_arbiter (s : State) :
    (endDrainIfDue s).arbiter = s.arbiter := (endDrainIfDue_beltFrame s).arbiter
@[simp] theorem endDrainIfDue_ports (s : State) :
    (endDrainIfDue s).ports = s.ports := (endDrainIfDue_beltFrame s).ports
@[simp] theorem endDrainIfDue_refusal (s : State) :
    (endDrainIfDue s).refusal = s.refusal := (endDrainIfDue_beltFrame s).refusal
@[simp] theorem endDrainIfDue_pending (s : State) :
    (endDrainIfDue s).pending = s.pending := (endDrainIfDue_beltFrame s).pending
@[simp] theorem endDrainIfDue_events_mask (s : State) :
    (endDrainIfDue s).events.mask = s.events.mask := (endDrainIfDue_beltFrame s).mask
@[simp] theorem endDrainIfDue_outfeed_timeout (s : State) :
    (endDrainIfDue s).outfeed.timeout = s.outfeed.timeout := (endDrainIfDue_beltFrame s).timeout

@[simp] theorem finish_tracker_travel (s : State) :
    (finish s).tracker.travel = s.tracker.travel := (finish_beltFrame s).travel
@[simp] theorem finish_tracker_nextNumber (s : State) :
    (finish s).tracker.nextNumber = s.tracker.nextNumber := (finish_beltFrame s).number
@[simp] theorem finish_banks (s : State) :
    (finish s).banks = s.banks := (finish_beltFrame s).banks
@[simp] theorem finish_geometry (s : State) :
    (finish s).geometry = s.geometry := (finish_beltFrame s).geometry
@[simp] theorem finish_arbiter (s : State) :
    (finish s).arbiter = s.arbiter := (finish_beltFrame s).arbiter
@[simp] theorem finish_ports (s : State) :
    (finish s).ports = s.ports := (finish_beltFrame s).ports
@[simp] theorem finish_refusal (s : State) :
    (finish s).refusal = s.refusal := (finish_beltFrame s).refusal
@[simp] theorem finish_pending (s : State) :
    (finish s).pending = s.pending := (finish_beltFrame s).pending
@[simp] theorem finish_events_mask (s : State) :
    (finish s).events.mask = s.events.mask := (finish_beltFrame s).mask
@[simp] theorem finish_outfeed_timeout (s : State) :
    (finish s).outfeed.timeout = s.outfeed.timeout := (finish_beltFrame s).timeout

@[simp] theorem applyRoute_tracker_travel (n : EntryId) (p : RoutePlan) (s : State) :
    (applyRoute n p s).tracker.travel = s.tracker.travel := (applyRoute_beltFrame n p s).travel
@[simp] theorem applyRoute_tracker_nextNumber (n : EntryId) (p : RoutePlan) (s : State) :
    (applyRoute n p s).tracker.nextNumber = s.tracker.nextNumber := (applyRoute_beltFrame n p s).number
@[simp] theorem applyRoute_banks (n : EntryId) (p : RoutePlan) (s : State) :
    (applyRoute n p s).banks = s.banks := (applyRoute_beltFrame n p s).banks
@[simp] theorem applyRoute_geometry (n : EntryId) (p : RoutePlan) (s : State) :
    (applyRoute n p s).geometry = s.geometry := (applyRoute_beltFrame n p s).geometry
@[simp] theorem applyRoute_arbiter (n : EntryId) (p : RoutePlan) (s : State) :
    (applyRoute n p s).arbiter = s.arbiter := (applyRoute_beltFrame n p s).arbiter
@[simp] theorem applyRoute_ports (n : EntryId) (p : RoutePlan) (s : State) :
    (applyRoute n p s).ports = s.ports := (applyRoute_beltFrame n p s).ports
@[simp] theorem applyRoute_refusal (n : EntryId) (p : RoutePlan) (s : State) :
    (applyRoute n p s).refusal = s.refusal := (applyRoute_beltFrame n p s).refusal
@[simp] theorem applyRoute_pending (n : EntryId) (p : RoutePlan) (s : State) :
    (applyRoute n p s).pending = s.pending := (applyRoute_beltFrame n p s).pending
@[simp] theorem applyRoute_events_mask (n : EntryId) (p : RoutePlan) (s : State) :
    (applyRoute n p s).events.mask = s.events.mask := (applyRoute_beltFrame n p s).mask
@[simp] theorem applyRoute_outfeed_timeout (n : EntryId) (p : RoutePlan) (s : State) :
    (applyRoute n p s).outfeed.timeout = s.outfeed.timeout := (applyRoute_beltFrame n p s).timeout

@[simp] theorem faultBin_tracker_travel (b : BinNo) (w : BinFault) (s : State) :
    (faultBin b w s).tracker.travel = s.tracker.travel := (faultBin_beltFrame b w s).travel
@[simp] theorem faultBin_tracker_nextNumber (b : BinNo) (w : BinFault) (s : State) :
    (faultBin b w s).tracker.nextNumber = s.tracker.nextNumber := (faultBin_beltFrame b w s).number
@[simp] theorem faultBin_banks (b : BinNo) (w : BinFault) (s : State) :
    (faultBin b w s).banks = s.banks := (faultBin_beltFrame b w s).banks
@[simp] theorem faultBin_geometry (b : BinNo) (w : BinFault) (s : State) :
    (faultBin b w s).geometry = s.geometry := (faultBin_beltFrame b w s).geometry
@[simp] theorem faultBin_arbiter (b : BinNo) (w : BinFault) (s : State) :
    (faultBin b w s).arbiter = s.arbiter := (faultBin_beltFrame b w s).arbiter
@[simp] theorem faultBin_ports (b : BinNo) (w : BinFault) (s : State) :
    (faultBin b w s).ports = s.ports := (faultBin_beltFrame b w s).ports
@[simp] theorem faultBin_refusal (b : BinNo) (w : BinFault) (s : State) :
    (faultBin b w s).refusal = s.refusal := (faultBin_beltFrame b w s).refusal
@[simp] theorem faultBin_pending (b : BinNo) (w : BinFault) (s : State) :
    (faultBin b w s).pending = s.pending := (faultBin_beltFrame b w s).pending
@[simp] theorem faultBin_events_mask (b : BinNo) (w : BinFault) (s : State) :
    (faultBin b w s).events.mask = s.events.mask := (faultBin_beltFrame b w s).mask
@[simp] theorem faultBin_outfeed_timeout (b : BinNo) (w : BinFault) (s : State) :
    (faultBin b w s).outfeed.timeout = s.outfeed.timeout := (faultBin_beltFrame b w s).timeout

@[simp] theorem landedEdge_tracker_travel (b : BinNo) (s : State) :
    (landedEdge b s).tracker.travel = s.tracker.travel := (landedEdge_beltFrame b s).travel
@[simp] theorem landedEdge_tracker_nextNumber (b : BinNo) (s : State) :
    (landedEdge b s).tracker.nextNumber = s.tracker.nextNumber := (landedEdge_beltFrame b s).number
@[simp] theorem landedEdge_banks (b : BinNo) (s : State) :
    (landedEdge b s).banks = s.banks := (landedEdge_beltFrame b s).banks
@[simp] theorem landedEdge_geometry (b : BinNo) (s : State) :
    (landedEdge b s).geometry = s.geometry := (landedEdge_beltFrame b s).geometry
@[simp] theorem landedEdge_arbiter (b : BinNo) (s : State) :
    (landedEdge b s).arbiter = s.arbiter := (landedEdge_beltFrame b s).arbiter
@[simp] theorem landedEdge_ports (b : BinNo) (s : State) :
    (landedEdge b s).ports = s.ports := (landedEdge_beltFrame b s).ports
@[simp] theorem landedEdge_refusal (b : BinNo) (s : State) :
    (landedEdge b s).refusal = s.refusal := (landedEdge_beltFrame b s).refusal
@[simp] theorem landedEdge_pending (b : BinNo) (s : State) :
    (landedEdge b s).pending = s.pending := (landedEdge_beltFrame b s).pending
@[simp] theorem landedEdge_events_mask (b : BinNo) (s : State) :
    (landedEdge b s).events.mask = s.events.mask := (landedEdge_beltFrame b s).mask
@[simp] theorem landedEdge_outfeed_timeout (b : BinNo) (s : State) :
    (landedEdge b s).outfeed.timeout = s.outfeed.timeout := (landedEdge_beltFrame b s).timeout

@[simp] theorem expireDecision_tracker_travel (s : State) (n : EntryId) :
    (expireDecision s n).tracker.travel = s.tracker.travel := (expireDecision_beltFrame s n).travel
@[simp] theorem expireDecision_tracker_nextNumber (s : State) (n : EntryId) :
    (expireDecision s n).tracker.nextNumber = s.tracker.nextNumber := (expireDecision_beltFrame s n).number
@[simp] theorem expireDecision_banks (s : State) (n : EntryId) :
    (expireDecision s n).banks = s.banks := (expireDecision_beltFrame s n).banks
@[simp] theorem expireDecision_geometry (s : State) (n : EntryId) :
    (expireDecision s n).geometry = s.geometry := (expireDecision_beltFrame s n).geometry
@[simp] theorem expireDecision_arbiter (s : State) (n : EntryId) :
    (expireDecision s n).arbiter = s.arbiter := (expireDecision_beltFrame s n).arbiter
@[simp] theorem expireDecision_ports (s : State) (n : EntryId) :
    (expireDecision s n).ports = s.ports := (expireDecision_beltFrame s n).ports
@[simp] theorem expireDecision_refusal (s : State) (n : EntryId) :
    (expireDecision s n).refusal = s.refusal := (expireDecision_beltFrame s n).refusal
@[simp] theorem expireDecision_pending (s : State) (n : EntryId) :
    (expireDecision s n).pending = s.pending := (expireDecision_beltFrame s n).pending
@[simp] theorem expireDecision_events_mask (s : State) (n : EntryId) :
    (expireDecision s n).events.mask = s.events.mask := (expireDecision_beltFrame s n).mask
@[simp] theorem expireDecision_outfeed_timeout (s : State) (n : EntryId) :
    (expireDecision s n).outfeed.timeout = s.outfeed.timeout := (expireDecision_beltFrame s n).timeout

@[simp] theorem passDecision_tracker_travel (s : State) (n : EntryId) :
    (passDecision s n).tracker.travel = s.tracker.travel := (passDecision_beltFrame s n).travel
@[simp] theorem passDecision_tracker_nextNumber (s : State) (n : EntryId) :
    (passDecision s n).tracker.nextNumber = s.tracker.nextNumber := (passDecision_beltFrame s n).number
@[simp] theorem passDecision_banks (s : State) (n : EntryId) :
    (passDecision s n).banks = s.banks := (passDecision_beltFrame s n).banks
@[simp] theorem passDecision_geometry (s : State) (n : EntryId) :
    (passDecision s n).geometry = s.geometry := (passDecision_beltFrame s n).geometry
@[simp] theorem passDecision_arbiter (s : State) (n : EntryId) :
    (passDecision s n).arbiter = s.arbiter := (passDecision_beltFrame s n).arbiter
@[simp] theorem passDecision_ports (s : State) (n : EntryId) :
    (passDecision s n).ports = s.ports := (passDecision_beltFrame s n).ports
@[simp] theorem passDecision_refusal (s : State) (n : EntryId) :
    (passDecision s n).refusal = s.refusal := (passDecision_beltFrame s n).refusal
@[simp] theorem passDecision_pending (s : State) (n : EntryId) :
    (passDecision s n).pending = s.pending := (passDecision_beltFrame s n).pending
@[simp] theorem passDecision_events_mask (s : State) (n : EntryId) :
    (passDecision s n).events.mask = s.events.mask := (passDecision_beltFrame s n).mask
@[simp] theorem passDecision_outfeed_timeout (s : State) (n : EntryId) :
    (passDecision s n).outfeed.timeout = s.outfeed.timeout := (passDecision_beltFrame s n).timeout

@[simp] theorem passGateOpen_tracker_travel (s : State) (n : EntryId) :
    (passGateOpen s n).tracker.travel = s.tracker.travel := (passGateOpen_beltFrame s n).travel
@[simp] theorem passGateOpen_tracker_nextNumber (s : State) (n : EntryId) :
    (passGateOpen s n).tracker.nextNumber = s.tracker.nextNumber := (passGateOpen_beltFrame s n).number
@[simp] theorem passGateOpen_banks (s : State) (n : EntryId) :
    (passGateOpen s n).banks = s.banks := (passGateOpen_beltFrame s n).banks
@[simp] theorem passGateOpen_geometry (s : State) (n : EntryId) :
    (passGateOpen s n).geometry = s.geometry := (passGateOpen_beltFrame s n).geometry
@[simp] theorem passGateOpen_arbiter (s : State) (n : EntryId) :
    (passGateOpen s n).arbiter = s.arbiter := (passGateOpen_beltFrame s n).arbiter
@[simp] theorem passGateOpen_ports (s : State) (n : EntryId) :
    (passGateOpen s n).ports = s.ports := (passGateOpen_beltFrame s n).ports
@[simp] theorem passGateOpen_refusal (s : State) (n : EntryId) :
    (passGateOpen s n).refusal = s.refusal := (passGateOpen_beltFrame s n).refusal
@[simp] theorem passGateOpen_pending (s : State) (n : EntryId) :
    (passGateOpen s n).pending = s.pending := (passGateOpen_beltFrame s n).pending
@[simp] theorem passGateOpen_events_mask (s : State) (n : EntryId) :
    (passGateOpen s n).events.mask = s.events.mask := (passGateOpen_beltFrame s n).mask
@[simp] theorem passGateOpen_outfeed_timeout (s : State) (n : EntryId) :
    (passGateOpen s n).outfeed.timeout = s.outfeed.timeout := (passGateOpen_beltFrame s n).timeout

@[simp] theorem passGateClose_tracker_travel (s : State) (n : EntryId) :
    (passGateClose s n).tracker.travel = s.tracker.travel := (passGateClose_beltFrame s n).travel
@[simp] theorem passGateClose_tracker_nextNumber (s : State) (n : EntryId) :
    (passGateClose s n).tracker.nextNumber = s.tracker.nextNumber := (passGateClose_beltFrame s n).number
@[simp] theorem passGateClose_banks (s : State) (n : EntryId) :
    (passGateClose s n).banks = s.banks := (passGateClose_beltFrame s n).banks
@[simp] theorem passGateClose_geometry (s : State) (n : EntryId) :
    (passGateClose s n).geometry = s.geometry := (passGateClose_beltFrame s n).geometry
@[simp] theorem passGateClose_arbiter (s : State) (n : EntryId) :
    (passGateClose s n).arbiter = s.arbiter := (passGateClose_beltFrame s n).arbiter
@[simp] theorem passGateClose_ports (s : State) (n : EntryId) :
    (passGateClose s n).ports = s.ports := (passGateClose_beltFrame s n).ports
@[simp] theorem passGateClose_refusal (s : State) (n : EntryId) :
    (passGateClose s n).refusal = s.refusal := (passGateClose_beltFrame s n).refusal
@[simp] theorem passGateClose_pending (s : State) (n : EntryId) :
    (passGateClose s n).pending = s.pending := (passGateClose_beltFrame s n).pending
@[simp] theorem passGateClose_events_mask (s : State) (n : EntryId) :
    (passGateClose s n).events.mask = s.events.mask := (passGateClose_beltFrame s n).mask
@[simp] theorem passGateClose_outfeed_timeout (s : State) (n : EntryId) :
    (passGateClose s n).outfeed.timeout = s.outfeed.timeout := (passGateClose_beltFrame s n).timeout

@[simp] theorem passWindowEnd_tracker_travel (s : State) (n : EntryId) :
    (passWindowEnd s n).tracker.travel = s.tracker.travel := (passWindowEnd_beltFrame s n).travel
@[simp] theorem passWindowEnd_tracker_nextNumber (s : State) (n : EntryId) :
    (passWindowEnd s n).tracker.nextNumber = s.tracker.nextNumber := (passWindowEnd_beltFrame s n).number
@[simp] theorem passWindowEnd_banks (s : State) (n : EntryId) :
    (passWindowEnd s n).banks = s.banks := (passWindowEnd_beltFrame s n).banks
@[simp] theorem passWindowEnd_geometry (s : State) (n : EntryId) :
    (passWindowEnd s n).geometry = s.geometry := (passWindowEnd_beltFrame s n).geometry
@[simp] theorem passWindowEnd_arbiter (s : State) (n : EntryId) :
    (passWindowEnd s n).arbiter = s.arbiter := (passWindowEnd_beltFrame s n).arbiter
@[simp] theorem passWindowEnd_ports (s : State) (n : EntryId) :
    (passWindowEnd s n).ports = s.ports := (passWindowEnd_beltFrame s n).ports
@[simp] theorem passWindowEnd_refusal (s : State) (n : EntryId) :
    (passWindowEnd s n).refusal = s.refusal := (passWindowEnd_beltFrame s n).refusal
@[simp] theorem passWindowEnd_pending (s : State) (n : EntryId) :
    (passWindowEnd s n).pending = s.pending := (passWindowEnd_beltFrame s n).pending
@[simp] theorem passWindowEnd_events_mask (s : State) (n : EntryId) :
    (passWindowEnd s n).events.mask = s.events.mask := (passWindowEnd_beltFrame s n).mask
@[simp] theorem passWindowEnd_outfeed_timeout (s : State) (n : EntryId) :
    (passWindowEnd s n).outfeed.timeout = s.outfeed.timeout := (passWindowEnd_beltFrame s n).timeout

@[simp] theorem passRedryOpen_tracker_travel (s : State) (n : EntryId) :
    (passRedryOpen s n).tracker.travel = s.tracker.travel := (passRedryOpen_beltFrame s n).travel
@[simp] theorem passRedryOpen_tracker_nextNumber (s : State) (n : EntryId) :
    (passRedryOpen s n).tracker.nextNumber = s.tracker.nextNumber := (passRedryOpen_beltFrame s n).number
@[simp] theorem passRedryOpen_banks (s : State) (n : EntryId) :
    (passRedryOpen s n).banks = s.banks := (passRedryOpen_beltFrame s n).banks
@[simp] theorem passRedryOpen_geometry (s : State) (n : EntryId) :
    (passRedryOpen s n).geometry = s.geometry := (passRedryOpen_beltFrame s n).geometry
@[simp] theorem passRedryOpen_arbiter (s : State) (n : EntryId) :
    (passRedryOpen s n).arbiter = s.arbiter := (passRedryOpen_beltFrame s n).arbiter
@[simp] theorem passRedryOpen_ports (s : State) (n : EntryId) :
    (passRedryOpen s n).ports = s.ports := (passRedryOpen_beltFrame s n).ports
@[simp] theorem passRedryOpen_refusal (s : State) (n : EntryId) :
    (passRedryOpen s n).refusal = s.refusal := (passRedryOpen_beltFrame s n).refusal
@[simp] theorem passRedryOpen_pending (s : State) (n : EntryId) :
    (passRedryOpen s n).pending = s.pending := (passRedryOpen_beltFrame s n).pending
@[simp] theorem passRedryOpen_events_mask (s : State) (n : EntryId) :
    (passRedryOpen s n).events.mask = s.events.mask := (passRedryOpen_beltFrame s n).mask
@[simp] theorem passRedryOpen_outfeed_timeout (s : State) (n : EntryId) :
    (passRedryOpen s n).outfeed.timeout = s.outfeed.timeout := (passRedryOpen_beltFrame s n).timeout

@[simp] theorem passRedryClose_tracker_travel (s : State) (n : EntryId) :
    (passRedryClose s n).tracker.travel = s.tracker.travel := (passRedryClose_beltFrame s n).travel
@[simp] theorem passRedryClose_tracker_nextNumber (s : State) (n : EntryId) :
    (passRedryClose s n).tracker.nextNumber = s.tracker.nextNumber := (passRedryClose_beltFrame s n).number
@[simp] theorem passRedryClose_banks (s : State) (n : EntryId) :
    (passRedryClose s n).banks = s.banks := (passRedryClose_beltFrame s n).banks
@[simp] theorem passRedryClose_geometry (s : State) (n : EntryId) :
    (passRedryClose s n).geometry = s.geometry := (passRedryClose_beltFrame s n).geometry
@[simp] theorem passRedryClose_arbiter (s : State) (n : EntryId) :
    (passRedryClose s n).arbiter = s.arbiter := (passRedryClose_beltFrame s n).arbiter
@[simp] theorem passRedryClose_ports (s : State) (n : EntryId) :
    (passRedryClose s n).ports = s.ports := (passRedryClose_beltFrame s n).ports
@[simp] theorem passRedryClose_refusal (s : State) (n : EntryId) :
    (passRedryClose s n).refusal = s.refusal := (passRedryClose_beltFrame s n).refusal
@[simp] theorem passRedryClose_pending (s : State) (n : EntryId) :
    (passRedryClose s n).pending = s.pending := (passRedryClose_beltFrame s n).pending
@[simp] theorem passRedryClose_events_mask (s : State) (n : EntryId) :
    (passRedryClose s n).events.mask = s.events.mask := (passRedryClose_beltFrame s n).mask
@[simp] theorem passRedryClose_outfeed_timeout (s : State) (n : EntryId) :
    (passRedryClose s n).outfeed.timeout = s.outfeed.timeout := (passRedryClose_beltFrame s n).timeout

@[simp] theorem passBeltEnd_tracker_travel (s : State) (n : EntryId) :
    (passBeltEnd s n).tracker.travel = s.tracker.travel := (passBeltEnd_beltFrame s n).travel
@[simp] theorem passBeltEnd_tracker_nextNumber (s : State) (n : EntryId) :
    (passBeltEnd s n).tracker.nextNumber = s.tracker.nextNumber := (passBeltEnd_beltFrame s n).number
@[simp] theorem passBeltEnd_banks (s : State) (n : EntryId) :
    (passBeltEnd s n).banks = s.banks := (passBeltEnd_beltFrame s n).banks
@[simp] theorem passBeltEnd_geometry (s : State) (n : EntryId) :
    (passBeltEnd s n).geometry = s.geometry := (passBeltEnd_beltFrame s n).geometry
@[simp] theorem passBeltEnd_arbiter (s : State) (n : EntryId) :
    (passBeltEnd s n).arbiter = s.arbiter := (passBeltEnd_beltFrame s n).arbiter
@[simp] theorem passBeltEnd_ports (s : State) (n : EntryId) :
    (passBeltEnd s n).ports = s.ports := (passBeltEnd_beltFrame s n).ports
@[simp] theorem passBeltEnd_refusal (s : State) (n : EntryId) :
    (passBeltEnd s n).refusal = s.refusal := (passBeltEnd_beltFrame s n).refusal
@[simp] theorem passBeltEnd_pending (s : State) (n : EntryId) :
    (passBeltEnd s n).pending = s.pending := (passBeltEnd_beltFrame s n).pending
@[simp] theorem passBeltEnd_events_mask (s : State) (n : EntryId) :
    (passBeltEnd s n).events.mask = s.events.mask := (passBeltEnd_beltFrame s n).mask
@[simp] theorem passBeltEnd_outfeed_timeout (s : State) (n : EntryId) :
    (passBeltEnd s n).outfeed.timeout = s.outfeed.timeout := (passBeltEnd_beltFrame s n).timeout

@[simp] theorem passEyeStuck_tracker_travel (s : State) (b : BinNo) :
    (passEyeStuck s b).tracker.travel = s.tracker.travel := (passEyeStuck_beltFrame s b).travel
@[simp] theorem passEyeStuck_tracker_nextNumber (s : State) (b : BinNo) :
    (passEyeStuck s b).tracker.nextNumber = s.tracker.nextNumber := (passEyeStuck_beltFrame s b).number
@[simp] theorem passEyeStuck_banks (s : State) (b : BinNo) :
    (passEyeStuck s b).banks = s.banks := (passEyeStuck_beltFrame s b).banks
@[simp] theorem passEyeStuck_geometry (s : State) (b : BinNo) :
    (passEyeStuck s b).geometry = s.geometry := (passEyeStuck_beltFrame s b).geometry
@[simp] theorem passEyeStuck_arbiter (s : State) (b : BinNo) :
    (passEyeStuck s b).arbiter = s.arbiter := (passEyeStuck_beltFrame s b).arbiter
@[simp] theorem passEyeStuck_ports (s : State) (b : BinNo) :
    (passEyeStuck s b).ports = s.ports := (passEyeStuck_beltFrame s b).ports
@[simp] theorem passEyeStuck_refusal (s : State) (b : BinNo) :
    (passEyeStuck s b).refusal = s.refusal := (passEyeStuck_beltFrame s b).refusal
@[simp] theorem passEyeStuck_pending (s : State) (b : BinNo) :
    (passEyeStuck s b).pending = s.pending := (passEyeStuck_beltFrame s b).pending
@[simp] theorem passEyeStuck_events_mask (s : State) (b : BinNo) :
    (passEyeStuck s b).events.mask = s.events.mask := (passEyeStuck_beltFrame s b).mask
@[simp] theorem passEyeStuck_outfeed_timeout (s : State) (b : BinNo) :
    (passEyeStuck s b).outfeed.timeout = s.outfeed.timeout := (passEyeStuck_beltFrame s b).timeout

@[simp] theorem duePassages_tracker_travel (s : State) :
    (duePassages s).tracker.travel = s.tracker.travel := (duePassages_beltFrame s).travel
@[simp] theorem duePassages_tracker_nextNumber (s : State) :
    (duePassages s).tracker.nextNumber = s.tracker.nextNumber := (duePassages_beltFrame s).number
@[simp] theorem duePassages_banks (s : State) :
    (duePassages s).banks = s.banks := (duePassages_beltFrame s).banks
@[simp] theorem duePassages_geometry (s : State) :
    (duePassages s).geometry = s.geometry := (duePassages_beltFrame s).geometry
@[simp] theorem duePassages_arbiter (s : State) :
    (duePassages s).arbiter = s.arbiter := (duePassages_beltFrame s).arbiter
@[simp] theorem duePassages_ports (s : State) :
    (duePassages s).ports = s.ports := (duePassages_beltFrame s).ports
@[simp] theorem duePassages_refusal (s : State) :
    (duePassages s).refusal = s.refusal := (duePassages_beltFrame s).refusal
@[simp] theorem duePassages_pending (s : State) :
    (duePassages s).pending = s.pending := (duePassages_beltFrame s).pending
@[simp] theorem duePassages_events_mask (s : State) :
    (duePassages s).events.mask = s.events.mask := (duePassages_beltFrame s).mask
@[simp] theorem duePassages_outfeed_timeout (s : State) :
    (duePassages s).outfeed.timeout = s.outfeed.timeout := (duePassages_beltFrame s).timeout

@[simp] theorem nearerPassages_tracker_travel (p : GeomParam) (old : Geometry) (s : State) :
    (nearerPassages p old s).tracker.travel = s.tracker.travel := (nearerPassages_beltFrame p old s).travel
@[simp] theorem nearerPassages_tracker_nextNumber (p : GeomParam) (old : Geometry) (s : State) :
    (nearerPassages p old s).tracker.nextNumber = s.tracker.nextNumber := (nearerPassages_beltFrame p old s).number
@[simp] theorem nearerPassages_banks (p : GeomParam) (old : Geometry) (s : State) :
    (nearerPassages p old s).banks = s.banks := (nearerPassages_beltFrame p old s).banks
@[simp] theorem nearerPassages_geometry (p : GeomParam) (old : Geometry) (s : State) :
    (nearerPassages p old s).geometry = s.geometry := (nearerPassages_beltFrame p old s).geometry
@[simp] theorem nearerPassages_arbiter (p : GeomParam) (old : Geometry) (s : State) :
    (nearerPassages p old s).arbiter = s.arbiter := (nearerPassages_beltFrame p old s).arbiter
@[simp] theorem nearerPassages_ports (p : GeomParam) (old : Geometry) (s : State) :
    (nearerPassages p old s).ports = s.ports := (nearerPassages_beltFrame p old s).ports
@[simp] theorem nearerPassages_refusal (p : GeomParam) (old : Geometry) (s : State) :
    (nearerPassages p old s).refusal = s.refusal := (nearerPassages_beltFrame p old s).refusal
@[simp] theorem nearerPassages_pending (p : GeomParam) (old : Geometry) (s : State) :
    (nearerPassages p old s).pending = s.pending := (nearerPassages_beltFrame p old s).pending
@[simp] theorem nearerPassages_events_mask (p : GeomParam) (old : Geometry) (s : State) :
    (nearerPassages p old s).events.mask = s.events.mask := (nearerPassages_beltFrame p old s).mask
@[simp] theorem nearerPassages_outfeed_timeout (p : GeomParam) (old : Geometry) (s : State) :
    (nearerPassages p old s).outfeed.timeout = s.outfeed.timeout := (nearerPassages_beltFrame p old s).timeout

@[simp] theorem timeOutEjection_tracker_travel (s : State) :
    (timeOutEjection s).tracker.travel = s.tracker.travel := (timeOutEjection_beltFrame s).travel
@[simp] theorem timeOutEjection_tracker_nextNumber (s : State) :
    (timeOutEjection s).tracker.nextNumber = s.tracker.nextNumber := (timeOutEjection_beltFrame s).number
@[simp] theorem timeOutEjection_banks (s : State) :
    (timeOutEjection s).banks = s.banks := (timeOutEjection_beltFrame s).banks
@[simp] theorem timeOutEjection_geometry (s : State) :
    (timeOutEjection s).geometry = s.geometry := (timeOutEjection_beltFrame s).geometry
@[simp] theorem timeOutEjection_arbiter (s : State) :
    (timeOutEjection s).arbiter = s.arbiter := (timeOutEjection_beltFrame s).arbiter
@[simp] theorem timeOutEjection_ports (s : State) :
    (timeOutEjection s).ports = s.ports := (timeOutEjection_beltFrame s).ports
@[simp] theorem timeOutEjection_refusal (s : State) :
    (timeOutEjection s).refusal = s.refusal := (timeOutEjection_beltFrame s).refusal
@[simp] theorem timeOutEjection_pending (s : State) :
    (timeOutEjection s).pending = s.pending := (timeOutEjection_beltFrame s).pending
@[simp] theorem timeOutEjection_events_mask (s : State) :
    (timeOutEjection s).events.mask = s.events.mask := (timeOutEjection_beltFrame s).mask
@[simp] theorem timeOutEjection_outfeed_timeout (s : State) :
    (timeOutEjection s).outfeed.timeout = s.outfeed.timeout := (timeOutEjection_beltFrame s).timeout

end Sys2Proof.Machine
end

