-- ==== Sys2Proof/Laws/Gates.lean ====
section
/-! SUPPORT. The gates after every event of the belt (R89, R90): what brings them up to date, and what leaves
them so. -/

namespace Sys2Proof.Machine

theorem gateDue_congr {s t : State} (b : BinNo)
    (hb : (t.bin b).state.takesSheets = (s.bin b).state.takesSheets)
    (hq : t.tracker.queue = s.tracker.queue) : gateDue t b = gateDue s b := by
  unfold gateDue
  rw [hb, hq]

/-- The gates stay up to date while no gate, no entry and no bin's being FILLING or DRAIN_CLOSE changes. -/
theorem GatesUpToDate.of_same {s t : State} (h : GatesUpToDate s)
    (hg : ∀ b : BinNo, (t.bin b).gate = (s.bin b).gate)
    (hb : ∀ b : BinNo, (t.bin b).state.takesSheets = (s.bin b).state.takesSheets)
    (hq : t.tracker.queue = s.tracker.queue) (hr : t.redryGate = s.redryGate) : GatesUpToDate t := by
  refine ⟨fun b => ?_, ?_⟩
  · rw [hg, h.1 b, gateDue_congr b (hb b) hq]
  · rw [hr, h.2]
    unfold redryDue
    rw [hq]

theorem syncGates_gates (s : State) : GatesUpToDate (syncGates s) := by
  refine ⟨fun b => ?_, ?_⟩
  · have h : gateDue (syncGates s) b = gateDue s b := by
      apply gateDue_congr
      · simp only [State.bin, syncGates_bins, vmap_get]
      · simp
    rw [h]
    simp only [State.bin, syncGates_bins, vmap_get]
  · simp only [syncGates_redryGate, redryDue, syncGates_tracker]

theorem startEjection_gates (b : BinNo) (l m : Lift) (n : SlotNo) (s : State)
    (hb : (s.bin b).state = .fullWait m) (h : GatesUpToDate s) : GatesUpToDate (startEjection b l n s) := by
  have key : (startEjection b l n s).bins
      = vset s.bins b { s.bins[b] with state := .ejecting { l with state := .ejecting, slot := some n },
                                       eject := true } := rfl
  refine h.of_same (fun c => ?_) (fun c => ?_) rfl rfl
  · simp only [State.bin, key, vset_get]
    split
    · next e => subst e; rfl
    · rfl
  · simp only [State.bin, key, vset_get]
    split
    · next e =>
      subst e
      have hb' : s.bins[c].state = .fullWait m := hb
      rw [hb']
      rfl
    · rfl

theorem ejectionTest_gates (s : State) (h : GatesUpToDate s) : GatesUpToDate (ejectionTest s) := by
  unfold ejectionTest
  split
  · split
    · next hb => exact startEjection_gates _ _ _ _ _ hb h
    · exact h
  · exact h

theorem closeEvent_gates (s : State) : GatesUpToDate (closeEvent s) := ejectionTest_gates _ (syncGates_gates s)

theorem finish_gates (s : State) : GatesUpToDate (finish s) := closeEvent_gates _

/-- An event that leaves the state as it is or ends with the gates brought up to date. -/
theorem ite_gates (c : Bool) (s t : State) (h : GatesUpToDate s) (k : GatesUpToDate t) :
    GatesUpToDate (if c then t else s) := by
  split
  · exact k
  · exact h

theorem passDecision_gates (s : State) (n : EntryId) (h : GatesUpToDate s) : GatesUpToDate (passDecision s n) :=
  ite_gates _ _ _ h (finish_gates _)

theorem passGateOpen_gates (s : State) (n : EntryId) (h : GatesUpToDate s) : GatesUpToDate (passGateOpen s n) :=
  ite_gates _ _ _ h (syncGates_gates _)

theorem passRedryOpen_gates (s : State) (n : EntryId) (h : GatesUpToDate s) : GatesUpToDate (passRedryOpen s n) :=
  ite_gates _ _ _ h (syncGates_gates _)

theorem passGateClose_gates (s : State) (n : EntryId) (h : GatesUpToDate s) : GatesUpToDate (passGateClose s n) :=
  ite_gates _ _ _ h (syncGates_gates _)

theorem passWindowEnd_gates (s : State) (n : EntryId) (h : GatesUpToDate s) : GatesUpToDate (passWindowEnd s n) :=
  ite_gates _ _ _ h (finish_gates _)

theorem passRedryClose_gates (s : State) (n : EntryId) (h : GatesUpToDate s) :
    GatesUpToDate (passRedryClose s n) :=
  ite_gates _ _ _ h (finish_gates _)

theorem passBeltEnd_gates (s : State) (n : EntryId) (h : GatesUpToDate s) : GatesUpToDate (passBeltEnd s n) :=
  ite_gates _ _ _ h (finish_gates _)

theorem passEyeStuck_gates (s : State) (b : BinNo) (h : GatesUpToDate s) : GatesUpToDate (passEyeStuck s b) :=
  ite_gates _ _ _ h (finish_gates _)

theorem passesOf_gates (s : State) (n : EntryId) (h : GatesUpToDate s) : GatesUpToDate (passesOf s n) :=
  passBeltEnd_gates _ n (passRedryClose_gates _ n (passWindowEnd_gates _ n (passGateClose_gates _ n
    (passRedryOpen_gates _ n (passGateOpen_gates _ n (passDecision_gates s n h))))))

theorem duePassages_gates (s : State) (h : GatesUpToDate s) : GatesUpToDate (duePassages s) :=
  foldl_keeps GatesUpToDate _ passEyeStuck_gates _ _ (foldl_keeps GatesUpToDate _ passesOf_gates _ _ h)

theorem nearerPassages_gates (p : GeomParam) (old : Geometry) (s : State) (h : GatesUpToDate s) :
    GatesUpToDate (nearerPassages p old s) := by
  unfold nearerPassages
  split
  · split
    · exact foldl_keeps GatesUpToDate _ passDecision_gates _ _ h
    · exact foldl_keeps GatesUpToDate _ passBeltEnd_gates _ _ h
    · exact foldl_keeps GatesUpToDate _ passWindowEnd_gates _ _ h
    · exact foldl_keeps GatesUpToDate _ passEyeStuck_gates _ _ h
    · exact h
  · exact h

theorem timeOutEjection_gates (s : State) (h : GatesUpToDate s) : GatesUpToDate (timeOutEjection s) := by
  unfold timeOutEjection
  split
  · exact finish_gates _
  · exact h

end Sys2Proof.Machine
end

