-- ==== Sys2Proof/Laws/Geometry.lean ====
section
/-! SUPPORT. The form check and the consistency check of a geometry write, said once in the terms of the manual (R75,
R76). -/

namespace Sys2Proof.Machine

theorem asBin_isSome (n : Nat) : (asBin n).isSome = true ↔ n ≤ 15 := by
  unfold asBin; split <;> simp <;> omega

theorem inTableRange_iff (x : Nat) (p : GeomParam) :
    inRange (geomRange p).1 (geomRange p).2 x = true ↔ InTableRange x p := by
  unfold inRange
  rw [Bool.and_eq_true, decide_eq_true_iff, decide_eq_true_iff]
  cases p <;> simp [geomRange, InTableRange]

/-- The form check is the form of a geometry write (R75). -/
theorem geomFormed_iff (p : GeomParam) (v : Option Nat) : geomFormed p v = true ↔ GeomWriteFormed p v := by
  unfold geomFormed
  rw [Bool.and_eq_true]
  constructor
  · rintro ⟨h, k⟩
    refine ⟨fun n e => ?_, fun e => ?_, fun x e => ?_⟩
    · subst e; exact (asBin_isSome n).mp h
    · subst e; exact of_decide_eq_true k
    · subst e; exact (inTableRange_iff x p).mp k
  · intro h
    constructor
    · cases p <;> simp only
      exact (asBin_isSome _).mpr (h.bin _ rfl)
    · cases v with
      | none => rw [h.unset rfl]; rfl
      | some x => exact (inTableRange_iff x p).mpr (h.range x rfl)

theorem allBins_get : ∀ (j : Nat) (h : j < allBins.length), allBins[j] = (⟨j, h⟩ : Fin 16) := by
  have all : ∀ b : Fin allBins.length, allBins[b.val] = (⟨b.val, b.isLt⟩ : Fin 16) := by decide
  exact fun j h => all ⟨j, h⟩

/-- A search of the bins finds the first, by bin number, that breaks a relation. -/
theorem find_allBins_iff (test : BinNo → Bool) (broken : BinNo → Prop) (h : ∀ b, test b = true ↔ broken b)
    (b : BinNo) : allBins.find? test = some b ↔ FirstBreaking broken b := by
  rw [List.find?_eq_some_iff_getElem]
  simp only [allBins_get]
  constructor
  · rintro ⟨hb, i, hi, eq, before⟩
    subst eq
    refine ⟨(h _).mp hb, fun c hc k => ?_⟩
    have := before c.val hc
    rw [(h _).mpr k] at this
    cases this
  · rintro ⟨hb, first⟩
    refine ⟨(h b).mpr hb, b.val, b.isLt, rfl, fun j hj => ?_⟩
    cases t : test ⟨j, Nat.lt_trans hj b.isLt⟩
    · rfl
    · exact absurd ((h _).mp t) (first _ hj)

theorem find_allBins_none (test : BinNo → Bool) (broken : BinNo → Prop) (h : ∀ b, test b = true ↔ broken b) :
    allBins.find? test = none ↔ ∀ b, ¬broken b := by
  rw [List.find?_eq_none]
  exact ⟨fun k b e => k b (mem_allBins b) ((h b).mpr e), fun k b _ e => k b ((h b).mp e)⟩

/-- The test of `decisionConflict`, and that of `beltEndConflict`, for one bin. -/
theorem breaksDecision_iff (g : Geometry) (b : BinNo) :
    (match g.binPosition[b] with
      | some p => decide (p ≤ g.decisionDistance + g.gateLead)
      | none => false) = true ↔ BreaksDecision g b := by
  unfold BreaksDecision
  cases g.binPosition[b] with
  | none => simp
  | some x => simp only [decide_eq_true_eq, Option.some.injEq, exists_eq_left', not_lt]; omega

theorem breaksBeltEnd_iff (g : Geometry) (b : BinNo) :
    (match g.binPosition[b], g.beltEnd with
      | some p, some e => decide (e ≤ p)
      | _, _ => false) = true ↔ BreaksBeltEnd g g.binPosition[b] := by
  unfold BreaksBeltEnd
  cases g.binPosition[b] <;> cases g.beltEnd <;> simp

theorem decisionConflict_iff (g : Geometry) (c : GeomConflict) :
    decisionConflict g = some c ↔ ∃ b, FirstBreaking (BreaksDecision g) b ∧ c = .bin .binBeyondDecision b :=
  Option.map_eq_some_iff.trans
    (exists_congr fun b => and_congr (find_allBins_iff _ _ (breaksDecision_iff g) b) eq_comm)

theorem decisionConflict_none (g : Geometry) : decisionConflict g = none ↔ ∀ b, ¬BreaksDecision g b :=
  Option.map_eq_none_iff.trans (find_allBins_none _ _ (breaksDecision_iff g))

theorem beltEndConflict_iff (g : Geometry) (c : GeomConflict) :
    beltEndConflict g = some c ↔
      ∃ b, FirstBreaking (fun b => BreaksBeltEnd g g.binPosition[b]) b ∧ c = .bin .binBeforeBeltEnd b :=
  Option.map_eq_some_iff.trans
    (exists_congr fun b => and_congr (find_allBins_iff _ _ (breaksBeltEnd_iff g) b) eq_comm)

theorem beltEndConflict_none (g : Geometry) :
    beltEndConflict g = none ↔ ∀ b : BinNo, ¬BreaksBeltEnd g g.binPosition[b] :=
  Option.map_eq_none_iff.trans (find_allBins_none _ _ (breaksBeltEnd_iff g))

theorem redryConflict_iff (g : Geometry) (c : GeomConflict) :
    redryConflict g = some c ↔ BreaksBeltEnd g g.redryGate ∧ c = .redryGate .redryBeforeBeltEnd := by
  unfold redryConflict BreaksBeltEnd
  cases g.redryGate <;> cases g.beltEnd <;> simp [eq_comm]

/-- The consistency check names the conflict that the table of R76 names. -/
theorem geomConflict_iff (g : Geometry) (p : GeomParam) (c : GeomConflict) :
    geomConflict g p = some c ↔ ConflictNamed g c p := by
  cases p <;>
    simp only [geomConflict, ConflictNamed, decisionConflict_iff, redryConflict_iff, Option.or_eq_some_iff,
      beltEndConflict_iff, decisionConflict_none, beltEndConflict_none, reduceCtorEq]

end Sys2Proof.Machine
end

