-- ==== Sys2Proof/Laws/Matching.lean ====
section
/-! SUPPORT. What the matching pass leaves alone, and that it leaves no STORED lift with a candidate (R152,
R153); what a candidate is. -/

namespace Sys2Proof.Machine

namespace PassFrame

theorem refl (s : State) : PassFrame s s :=
  ⟨rfl, rfl, rfl, rfl, rfl, rfl, rfl, rfl, rfl, rfl, rfl, rfl, rfl, rfl⟩

theorem trans {s t u : State} (h : PassFrame s t) (k : PassFrame t u) : PassFrame s u :=
  ⟨k.tracker.trans h.tracker, k.banks.trans h.banks, k.geometry.trans h.geometry, k.bins.trans h.bins,
    k.redryGate.trans h.redryGate, k.store.trans h.store, k.outfeed.trans h.outfeed, k.mode.trans h.mode,
    k.tallies.trans h.tallies, k.events.trans h.events, k.refusal.trans h.refusal, k.pending.trans h.pending,
    k.scan.trans h.scan, k.setup.trans h.setup⟩

end PassFrame

theorem setPort_port_ne (p q : Port) (f : PortState → PortState) (s : State) (h : q.idx ≠ p.idx) :
    (setPort p f s).port q = s.port q := by
  simp only [State.port, setPort_ports]
  exact vset_get_ne _ _ _ _ h

theorem line_idx_ne_scan (i : LineNo) : Port.scan.idx ≠ (Port.line i).idx := by
  revert i; decide

theorem line_idx_ne_setup (i : LineNo) : Port.setup.idx ≠ (Port.line i).idx := by
  revert i; decide

theorem queueNotice_passFrame (i : LineNo) (x : Notice) (s : State) : PassFrame s (queueNotice i x s) :=
  ⟨rfl, rfl, rfl, rfl, rfl, rfl, rfl, rfl, rfl, rfl, rfl, rfl,
    setPort_port_ne _ _ _ _ (line_idx_ne_scan i), setPort_port_ne _ _ _ _ (line_idx_ne_setup i)⟩

theorem setSlot_passFrame (n : SlotNo) (f : Slot → Slot) (s : State) : PassFrame s (setSlot n f s) :=
  ⟨rfl, rfl, rfl, rfl, rfl, rfl, rfl, rfl, rfl, rfl, rfl, rfl, rfl, rfl⟩

theorem setArbiter_passFrame (f : Arbiter → Arbiter) (s : State) : PassFrame s (setArbiter f s) :=
  ⟨rfl, rfl, rfl, rfl, rfl, rfl, rfl, rfl, rfl, rfl, rfl, rfl, rfl, rfl⟩

theorem assignLift_passFrame (n : SlotNo) (l : Lift) (w : Pull) (s : State) :
    PassFrame s (assignLift n l w s) := by
  unfold assignLift
  refine PassFrame.trans ?_ (queueNotice_passFrame _ _ _)
  refine PassFrame.trans ?_ (setSlot_passFrame _ _ _)
  exact setArbiter_passFrame _ _

theorem matchSlot_passFrame (s : State) (n : SlotNo) : PassFrame s (matchSlot s n) := by
  unfold matchSlot
  split
  · split
    · exact assignLift_passFrame _ _ _ _
    · exact .refl s
  · exact .refl s

theorem matchingPass_passFrame (s : State) : PassFrame s (matchingPass s) :=
  foldl_rel PassFrame PassFrame.refl (fun _ _ _ => PassFrame.trans) _ matchSlot_passFrame _ s

@[simp] theorem matchingPass_tracker (s : State) : (matchingPass s).tracker = s.tracker :=
  (matchingPass_passFrame s).tracker
@[simp] theorem matchingPass_banks (s : State) : (matchingPass s).banks = s.banks :=
  (matchingPass_passFrame s).banks
@[simp] theorem matchingPass_geometry (s : State) : (matchingPass s).geometry = s.geometry :=
  (matchingPass_passFrame s).geometry
@[simp] theorem matchingPass_bins (s : State) : (matchingPass s).bins = s.bins :=
  (matchingPass_passFrame s).bins
@[simp] theorem matchingPass_redryGate (s : State) : (matchingPass s).redryGate = s.redryGate :=
  (matchingPass_passFrame s).redryGate
@[simp] theorem matchingPass_store (s : State) : (matchingPass s).store = s.store :=
  (matchingPass_passFrame s).store
@[simp] theorem matchingPass_outfeed (s : State) : (matchingPass s).outfeed = s.outfeed :=
  (matchingPass_passFrame s).outfeed
@[simp] theorem matchingPass_mode (s : State) : (matchingPass s).mode = s.mode :=
  (matchingPass_passFrame s).mode
@[simp] theorem matchingPass_tallies (s : State) : (matchingPass s).tallies = s.tallies :=
  (matchingPass_passFrame s).tallies
@[simp] theorem matchingPass_events (s : State) : (matchingPass s).events = s.events :=
  (matchingPass_passFrame s).events
@[simp] theorem matchingPass_refusal (s : State) : (matchingPass s).refusal = s.refusal :=
  (matchingPass_passFrame s).refusal
@[simp] theorem matchingPass_pending (s : State) : (matchingPass s).pending = s.pending :=
  (matchingPass_passFrame s).pending

/-! ### The candidates (R148, R152) -/

theorem optMatches_iff (x : Option Nat) (y : Nat) : optMatches x y = true ↔ ∀ k, x = some k → k = y := by
  cases x <;> simp [optMatches]

theorem lineBusy_eq_false (s : State) (i : LineNo) :
    lineBusy s i = false ↔ ∀ q ∈ s.arbiter.pulls, q.line = i → q.state = .waiting := by
  simp only [lineBusy, List.any_eq_false, Bool.and_eq_true, beq_iff_eq, Pull.isAssigned, not_and]
  refine forall₂_congr fun q _ => imp_congr_right fun _ => ?_
  cases q.state <;> simp

/-- The model's test of a candidate is R152's. -/
theorem candidateFor_iff (s : State) (l : Lift) (p : Pull) : CandidateFor s l p ↔ isCandidate s l p = true := by
  have h := lineBusy_eq_false s p.line
  simp only [isCandidate, keyMatches, Bool.and_eq_true, Bool.not_eq_true', beq_iff_eq, optMatches_iff, h]
  exact ⟨fun c => ⟨⟨c.waiting, ⟨c.code, c.bank⟩, c.cls⟩, c.lineFree⟩,
    fun c => ⟨c.1.1, c.1.2.1.1, c.1.2.1.2, c.1.2.2, c.2⟩⟩

end Sys2Proof.Machine
end

