-- ==== Sys2Proof/Laws/Ops.lean ====
section
/-! SUPPORT. For each shared operation over the entries, the bins, the outfeed and the reports: everything it
can do, said once. -/

namespace Sys2Proof.Machine

/-! ### Lists -/

theorem mem_insertBefore {α : Type} (p : α → Bool) (a x : α) (l : List α) :
    x ∈ insertBefore p a l ↔ x = a ∨ x ∈ l := by
  induction l with
  | nil => simp [insertBefore]
  | cons y ys ih =>
    unfold insertBefore
    split
    · simp
    · simp only [List.mem_cons, ih]; tauto

theorem insertBefore_nodup {α : Type} (p : α → Bool) (a : α) (l : List α) (h : l.Nodup) (ha : a ∉ l) :
    (insertBefore p a l).Nodup := by
  induction l with
  | nil => simp [insertBefore]
  | cons y ys ih =>
    rw [List.nodup_cons] at h
    simp only [List.mem_cons, not_or] at ha
    unfold insertBefore
    split
    · exact List.nodup_cons.mpr ⟨by simp [ha], List.nodup_cons.mpr h⟩
    · refine List.nodup_cons.mpr ⟨?_, ih h.2 ha.2⟩
      rw [mem_insertBefore]
      rintro (e | e)
      · exact ha.1 e.symm
      · exact h.1 e

theorem insertBefore_length {α : Type} (p : α → Bool) (a : α) (l : List α) :
    (insertBefore p a l).length = l.length + 1 := by
  induction l with
  | nil => rfl
  | cons y ys ih =>
    unfold insertBefore
    split
    · rfl
    · simp [ih]

/-- An item that the replacement in a list leaves, or the replaced one. -/
theorem mem_updFirst {α : Type} (p : α → Bool) (f : α → α) (x : α) (l : List α) (h : x ∈ updFirst p f l) :
    x ∈ l ∨ ∃ y ∈ l, p y = true ∧ x = f y := by
  induction l with
  | nil => cases h
  | cons y ys ih =>
    unfold updFirst at h
    split at h
    · rename_i hy
      rcases List.mem_cons.mp h with e | e
      · exact .inr ⟨y, List.mem_cons_self, hy, e⟩
      · exact .inl (List.mem_cons_of_mem _ e)
    · rcases List.mem_cons.mp h with e | e
      · exact .inl (e ▸ List.mem_cons_self)
      · rcases ih e with k | ⟨z, hz, pz, e'⟩
        · exact .inl (List.mem_cons_of_mem _ k)
        · exact .inr ⟨z, List.mem_cons_of_mem _ hz, pz, e'⟩

/-- The replacement of the item of a number, when it keeps the number, is found under that number. -/
theorem find_updFirst {α : Type} (p : α → Bool) (f : α → α) (l : List α) (x : α) (h : l.find? p = some x)
    (k : p (f x) = true) : (updFirst p f l).find? p = some (f x) := by
  induction l with
  | nil => cases h
  | cons y ys ih =>
    rw [List.find?_cons] at h
    unfold updFirst
    split at h
    · rename_i hy
      cases h
      rw [if_pos hy, List.find?_cons, k]
    · rename_i hy
      rw [hy]
      simp only [Bool.false_eq_true, ↓reduceIte, List.find?_cons, hy]
      exact ih h

/-- The replacement under a number leaves what is found under another test, when the test sees neither the item
replaced nor its replacement. -/
theorem find_updFirst_ne {α : Type} (p q : α → Bool) (f : α → α) (l : List α)
    (h : ∀ x ∈ l, p x = true → q x = false ∧ q (f x) = false) : (updFirst p f l).find? q = l.find? q := by
  induction l with
  | nil => rfl
  | cons y ys ih =>
    unfold updFirst
    split
    · rename_i hy
      have := h y List.mem_cons_self hy
      simp only [List.find?_cons, this.1, this.2]
    · simp only [List.find?_cons, ih (fun x hx => h x (List.mem_cons_of_mem _ hx))]

/-! ### Numbers (R116, R147) -/

/-- The number given out is reached from the first by passing over numbers in use, and is itself not in use unless
the search looked at as many as it may. -/
theorem firstFree_spec (used : List Nat) (fuel n : Nat) :
    ∃ k ≤ fuel, firstFree used fuel n = nextNumberAfter^[k] n ∧ (∀ j < k, nextNumberAfter^[j] n ∈ used)
      ∧ (k < fuel → firstFree used fuel n ∉ used) := by
  induction fuel generalizing n with
  | zero => exact ⟨0, le_refl 0, rfl, fun j h => absurd h (Nat.not_lt_zero j), fun h => absurd h (Nat.lt_irrefl 0)⟩
  | succ fuel ih =>
    unfold firstFree
    by_cases hn : used.contains n = true
    · obtain ⟨k, hk, e, before, free⟩ := ih (nextNumberAfter n)
      refine ⟨k + 1, by omega, by rw [if_pos hn, e]; rfl, fun j hj => ?_, fun h => ?_⟩
      · cases j with
        | zero => simpa using hn
        | succ j => exact before j (by omega)
      · rw [if_pos hn]; exact free (by omega)
    · exact ⟨0, by omega, by rw [if_neg hn]; rfl, fun j h => absurd h (Nat.not_lt_zero j),
        fun _ => by rw [if_neg hn]; simpa using hn⟩

/-! ### Events and notices (R180, R181) -/

/-- An event raised is entered, dropped with the overflow mark set, or masked. -/
theorem append_cases (l : EventLog) (e : Event) :
    (maskEnables l.mask e = false ∧ l.append e = l)
    ∨ (maskEnables l.mask e = true ∧ l.list.length < 32 ∧ l.append e = { l with list := l.list ++ [e] })
    ∨ (maskEnables l.mask e = true ∧ 32 ≤ l.list.length ∧ l.append e = { l with overflow := true }) := by
  unfold EventLog.append
  by_cases h : maskEnables l.mask e = true
  · by_cases k : l.list.length < Config.maxEvents
    · exact .inr (.inl ⟨h, k, by rw [if_pos h, if_pos k]⟩)
    · exact .inr (.inr ⟨h, by unfold Config.maxEvents at k; omega, by rw [if_pos h, if_neg k]⟩)
  · exact .inl ⟨by simpa using h, by rw [if_neg h]⟩

/-- The event list never grows past its capacity. -/
theorem append_length (l : EventLog) (e : Event) (h : l.list.length ≤ 32) : (l.append e).list.length ≤ 32 := by
  rcases append_cases l e with ⟨-, k⟩ | ⟨-, j, k⟩ | ⟨-, -, k⟩ <;> rw [k]
  · exact h
  · simp only [List.length_append, List.length_singleton]; omega
  · exact h

/-- A notice is queued at the end of its line's queue, or dropped with the notice-lost mark set. -/
theorem queueNotice_cases (i : LineNo) (n : Notice) (s : State) :
    queueNotice i n s
      = withPort (.line i)
          (if (s.port (.line i)).queue.length < 16
            then { s.port (.line i) with queue := (s.port (.line i)).queue ++ [.notice n] }
            else { s.port (.line i) with lost := true }) s := rfl

/-! ### Bins, drains and ejections -/

/-- A drain's completion: nothing when it is not due, the discard of an empty lift, or the close of any other. -/
theorem completeDrain_cases (b : BinNo) (s : State) :
    (completeDrain b s = s ∧ ∀ why l, (s.bin b).state = .drainClose why l → l.inFlight ≠ 0)
    ∨ (∃ why l, (s.bin b).state = .drainClose why l ∧ l.inFlight = 0 ∧ l.landed = 0
        ∧ completeDrain b s = discardLift b (.close why) l .ready s)
    ∨ (∃ why l, (s.bin b).state = .drainClose why l ∧ l.inFlight = 0 ∧ l.landed ≠ 0
        ∧ completeDrain b s = closeLift b why l s) := by
  unfold completeDrain
  split
  · rename_i why l e
    by_cases h : l.inFlight = 0
    · by_cases k : l.landed = 0
      · exact .inr (.inl ⟨why, l, e, h, k, by rw [if_pos h, if_pos k]⟩)
      · exact .inr (.inr ⟨why, l, e, h, k, by rw [if_pos h, if_neg k]⟩)
    · refine .inl ⟨by rw [if_neg h], fun why' l' e' => ?_⟩
      rw [e] at e'; cases e'; exact h
  · rename_i h
    exact .inl ⟨rfl, fun why l e => absurd e (h why l)⟩

/-- The ejection test: it starts an ejection of a FULL_WAIT head into the lowest EMPTY slot, or does nothing. -/
theorem ejectionTest_cases (s : State) :
    ejectionTest s = s
    ∨ ∃ b rest n l, s.outfeed.state = .free ∧ s.outfeed.queue = b :: rest ∧ lowestEmpty s = some n
        ∧ (s.bin b).state = .fullWait l ∧ ejectionTest s = startEjection b l n s := by
  unfold ejectionTest
  split
  · rename_i b rest n e q k
    split
    · rename_i l h
      exact .inr ⟨b, rest, n, l, e, q, k, h, rfl⟩
    · exact .inl rfl
  · exact .inl rfl

/-- With the outfeed not FREE, the queue empty or no slot EMPTY, the ejection test does nothing. -/
theorem ejectionTest_idle (s : State)
    (h : s.outfeed.state ≠ .free ∨ s.outfeed.queue = [] ∨ ∀ n : SlotNo, s.slots[n].state ≠ .empty) :
    ejectionTest s = s := by
  rcases ejectionTest_cases s with e | ⟨b, rest, n, l, f, q, k, -, -⟩
  · exact e
  · rcases h with h | h | h
    · exact absurd f h
    · rw [h] at q; cases q
    · unfold lowestEmpty at k
      have := List.find?_some k
      exact absurd (by simpa using this) (h n)

/-- The lowest EMPTY slot is EMPTY, and every slot below it is not. -/
theorem lowestEmpty_some {s : State} {n : SlotNo} (h : lowestEmpty s = some n) : s.slots[n].state = .empty := by
  unfold lowestEmpty at h
  simpa using List.find?_some h

/-- No slot is EMPTY when none is found. -/
theorem lowestEmpty_none {s : State} (h : lowestEmpty s = none) (n : SlotNo) : s.slots[n].state ≠ .empty := by
  unfold lowestEmpty at h
  rw [List.find?_eq_none] at h
  simpa using h n (mem_allSlots n)

/-- The end of a drain is taken exactly in DRAIN with an empty queue. -/
theorem endDrainIfDue_cases (s : State) :
    (s.mode = .drain ∧ s.tracker.queue = [] ∧ endDrainIfDue s = endDrain s)
    ∨ ((s.mode ≠ .drain ∨ s.tracker.queue ≠ []) ∧ endDrainIfDue s = s) := by
  unfold endDrainIfDue
  by_cases h : s.mode = .drain ∧ s.tracker.queue = []
  · exact .inl ⟨h.1, h.2, by rw [if_pos h]⟩
  · refine .inr ⟨?_, by rw [if_neg h]⟩
    by_cases k : s.mode = .drain
    · exact .inr (fun e => h ⟨k, e⟩)
    · exact .inl k

/-- The end of an event outside a drain that is over is `closeEvent`. -/
theorem finish_eq_closeEvent (s : State) (h : s.mode ≠ .drain ∨ s.tracker.queue ≠ []) :
    finish s = closeEvent s := by
  unfold finish
  rcases endDrainIfDue_cases s with ⟨m, q, -⟩ | ⟨-, e⟩
  · rcases h with h | h
    · exact absurd m h
    · exact absurd q h
  · rw [e]

/-! ### Entries and scan sync -/

/-- A rejected entry at the belt end leaves the queue and is counted; otherwise nothing happens. -/
theorem dropAtBeltEnd_cases (n : EntryId) (s : State) :
    dropAtBeltEnd n s = s
    ∨ ∃ e, findEntry n s = some e ∧ e.state = .toReject ∧ atBeltEnd e s = true
        ∧ dropAtBeltEnd n s = tally (countVerdict e.verdict) (removeEntry n s) := by
  unfold dropAtBeltEnd
  split
  · rename_i e h
    split
    · rename_i k
      rw [Bool.and_eq_true] at k
      exact .inr ⟨e, h, by simpa using k.1, k.2, rfl⟩
    · exact .inl rfl
  · exact .inl rfl

/-- A new mismatch count: no change of sync, a change that sweeps nothing, or entry into OUT_OF_STEP. -/
theorem setMismatches_cases (m : Nat) (s : State) :
    let t := setTracker (fun t => { t with mismatches := m }) s
    (syncOf m = s.sync ∧ setMismatches m s = t)
    ∨ (syncOf m ≠ s.sync ∧ syncOf m ≠ .outOfStep ∧ setMismatches m s = raise (.syncChanged (syncOf m)) t)
    ∨ (s.sync ≠ .outOfStep ∧ syncOf m = .outOfStep
        ∧ setMismatches m s = sweepAwaiting (raise (.syncChanged .outOfStep) t)) := by
  intro t
  unfold setMismatches
  by_cases h : syncOf m = s.sync
  · exact .inl ⟨h, by simp only [h, ↓reduceIte]; rfl⟩
  · by_cases k : syncOf m = .outOfStep
    · refine .inr (.inr ⟨fun e => h (k.trans e.symm), k, ?_⟩)
      simp only [k, ↓reduceIte]
      rw [if_neg (fun e => h (k.trans e))]
    · exact .inr (.inl ⟨h, k, by rw [if_neg h, if_neg k]⟩)

/-- A count of 0 leaves the entries as they are. -/
theorem setMismatches_zero (s : State) :
    setMismatches 0 s
      = { s with
          tracker := { s.tracker with mismatches := 0 }
          events := if s.sync = .inStep then s.events else s.events.append (.syncChanged .inStep) } := by
  rcases setMismatches_cases 0 s with ⟨h, e⟩ | ⟨h, -, e⟩ | ⟨-, h, -⟩
  · have : s.sync = .inStep := h.symm
    rw [e, if_pos this]; rfl
  · have : s.sync ≠ .inStep := fun k => h k.symm
    rw [e, if_neg this]; rfl
  · cases h

/-- The fault of a bin: no effect on a bin OFFLINE or FAULTED. -/
theorem faultBin_idle (b : BinNo) (why : BinFault) (s : State)
    (h : (s.bin b).state = .offline ∨ ∃ w l, (s.bin b).state = .faulted w l) : faultBin b why s = s := by
  unfold faultBin
  rcases h with h | ⟨w, l, h⟩ <;> rw [h]

/-- The test after an anomaly: BIN_SUSPECT at one, the bin's fault at three, and nothing at two. -/
theorem anomalyTest_cases (b : BinNo) (what : Anomaly) (s : State) :
    ((s.bin b).suspicion = 1 ∧ anomalyTest b what s = raise (.binSuspect b what) s)
    ∨ ((s.bin b).suspicion = 3 ∧ anomalyTest b what s = faultBin b .landing s)
    ∨ ((s.bin b).suspicion ≠ 1 ∧ (s.bin b).suspicion ≠ 3 ∧ anomalyTest b what s = s) := by
  unfold anomalyTest
  by_cases h : (s.bin b).suspicion = 1
  · exact .inl ⟨h, by rw [if_pos h]⟩
  · by_cases k : (s.bin b).suspicion = 3
    · exact .inr (.inl ⟨k, by rw [if_neg h, if_pos k]⟩)
    · exact .inr (.inr ⟨h, k, by rw [if_neg h, if_neg k]⟩)

/-! ### Matching -/

/-- One lift of a matching pass: the slot holds no STORED lift, the lift has no candidate, or it is assigned to
one of its candidates. -/
theorem matchSlot_cases (s : State) (n : SlotNo) :
    (s.slots[n].stored? = none ∧ matchSlot s n = s)
    ∨ (∃ l, s.slots[n].stored? = some l ∧ winnerOf s (s.arbiter.pulls.filter (isCandidate s l)) = none
        ∧ matchSlot s n = s)
    ∨ (∃ l w, s.slots[n].stored? = some l
        ∧ winnerOf s (s.arbiter.pulls.filter (isCandidate s l)) = some w ∧ matchSlot s n = assignLift n l w s) := by
  unfold matchSlot
  split
  · rename_i l h
    split
    · rename_i w k
      exact .inr (.inr ⟨l, w, h, k, rfl⟩)
    · rename_i k
      exact .inr (.inl ⟨l, h, k, rfl⟩)
  · rename_i h
    exact .inl ⟨h, rfl⟩

/-- The winner is one of the candidates. -/
theorem winnerOf_mem {s : State} {l : List Pull} {w : Pull} (h : winnerOf s l = some w) : w ∈ l := by
  induction l generalizing w with
  | nil => cases h
  | cons p rest ih =>
    unfold winnerOf at h
    split at h
    · cases h; exact List.mem_cons_self
    · rename_i q e
      split at h
      · cases h; exact List.mem_cons_of_mem _ (ih e)
      · cases h; exact List.mem_cons_self

/-- There is no winner exactly when there is no candidate. -/
theorem winnerOf_none {s : State} {l : List Pull} : winnerOf s l = none ↔ l = [] := by
  cases l with
  | nil => exact ⟨fun _ => rfl, fun _ => rfl⟩
  | cons p rest =>
    refine ⟨fun h => ?_, fun h => nomatch h⟩
    unfold winnerOf at h
    split at h
    · cases h
    · split at h <;> cases h

/-! ### Commands in turn -/

/-- Commands that each answer the next state of one function run as the fold of that function. -/
theorem execAll_eq_foldl {α : Type} (c : α → Instr) (f : State → α → State)
    (h : ∀ a s, exec (c a) s = .next (f s a)) (l : List α) (s : State) :
    execAll (l.map c) s = .next (l.foldl f s) := by
  induction l generalizing s with
  | nil => rfl
  | cons a rest ih =>
    simp only [List.map_cons, List.foldl_cons, execAll, h]
    exact ih _

theorem execAll_append (l m : List Instr) (s t : State) (h : execAll l s = .next t) :
    execAll (l ++ m) s = execAll m t := by
  induction l generalizing s with
  | nil => cases h; rfl
  | cons c rest ih =>
    rw [List.cons_append, execAll]
    rw [execAll] at h
    split at h
    · exact ih _ h
    · cases h
    · cases h

/-! ### The bin search -/

/-- The model's test of an eligible bin is R81's. -/
theorem canTakeSheet_iff (s : State) (key : Key) (travel : Nat) (lost : Option BinNo) (b : BinNo) :
    CanTakeSheet s key travel lost b ↔ eligible s key travel lost b = true := by
  have room : (fillingRoom s key b || isReady s b) = true
      ↔ (s.bin b).state = .ready
        ∨ ∃ l, (s.bin b).state = .filling l ∧ l.key = key ∧ l.landed + l.inFlight < l.target := by
    unfold fillingRoom isReady
    cases (s.bin b).state <;> simp
  have reach : reaches s travel b = true
      ↔ ∃ p, s.geometry.binPosition[b] = some p ∧ travel < p - s.geometry.gateLead := by
    unfold reaches
    cases s.geometry.binPosition[b]
    · simp
    · simp; omega
  simp only [eligible, Bool.and_eq_true, bne_iff_ne, room, reach]
  exact ⟨fun c => ⟨⟨c.room, c.reach⟩, c.other⟩, fun c => ⟨c.1.1, c.1.2, c.2⟩⟩

end Sys2Proof.Machine
end

