-- ==== Sys2Proof/Laws/PerInstr.lean ====
section
/-! SUPPORT. The statements made of every command, one lemma for each constructor of `Instr`. -/

namespace Sys2Proof.Laws.CarriedByALink

/-- Every list that a well-formed command carries fits the payload of one frame, at most 240 bytes (R176). -/
def Statement (i : Instr) : Prop := i.wellFormed = true → ∀ n ∈ i.listLengths, n ≤ 240

/-- The one proof behind the lemmas: it uses nothing of the command but its lengths. -/
theorem of_wellFormed (i : Instr) : Statement i := by
  intro h n hn
  unfold Instr.wellFormed at h
  rw [Bool.and_eq_true, List.all_eq_true] at h
  exact of_decide_eq_true (h.1 n hn)

theorem sheetReport : ∀ port tag payload, Statement (.sheetReport port tag payload) := by
  intros; exact of_wellFormed _
theorem scanResync : ∀ r, Statement (.scanResync r) := by
  intros; exact of_wellFormed _
theorem selectBank : ∀ r bank, Statement (.selectBank r bank) := by
  intros; exact of_wellFormed _
theorem writeClasses : ∀ r places, Statement (.writeClasses r places) := by
  intros; exact of_wellFormed _
theorem writeWeights : ∀ r weights, Statement (.writeWeights r weights) := by
  intros; exact of_wellFormed _
theorem writeLimits : ∀ r redryLimit fullWidth, Statement (.writeLimits r redryLimit fullWidth) := by
  intros; exact of_wellFormed _
theorem writeGrade : ∀ r pos rule, Statement (.writeGrade r pos rule) := by
  intros; exact of_wellFormed _
theorem deleteGrade : ∀ r pos, Statement (.deleteGrade r pos) := by
  intros; exact of_wellFormed _
theorem clearBank : ∀ r, Statement (.clearBank r) := by
  intros; exact of_wellFormed _
theorem readBank : ∀ r bank, Statement (.readBank r bank) := by
  intros; exact of_wellFormed _
theorem readGrade : ∀ r bank pos, Statement (.readGrade r bank pos) := by
  intros; exact of_wellFormed _
theorem validate : ∀ r bank, Statement (.validate r bank) := by
  intros; exact of_wellFormed _
theorem activate : ∀ r bank, Statement (.activate r bank) := by
  intros; exact of_wellFormed _
theorem writeGeometry : ∀ r param value, Statement (.writeGeometry r param value) := by
  intros; exact of_wellFormed _
theorem clearBin : ∀ r bin, Statement (.clearBin r bin) := by
  intros; exact of_wellFormed _
theorem binOnline : ∀ r bin, Statement (.binOnline r bin) := by
  intros; exact of_wellFormed _
theorem binOffline : ∀ r bin, Statement (.binOffline r bin) := by
  intros; exact of_wellFormed _
theorem closeBin : ∀ r bin, Statement (.closeBin r bin) := by
  intros; exact of_wellFormed _
theorem forceClose : ∀ r code cls, Statement (.forceClose r code cls) := by
  intros; exact of_wellFormed _
theorem writeEjectTimeout : ∀ r seconds, Statement (.writeEjectTimeout r seconds) := by
  intros; exact of_wellFormed _
theorem clearOutfeed : ∀ r, Statement (.clearOutfeed r) := by
  intros; exact of_wellFormed _
theorem slotOnline : ∀ r slot, Statement (.slotOnline r slot) := by
  intros; exact of_wellFormed _
theorem slotOffline : ∀ r slot, Statement (.slotOffline r slot) := by
  intros; exact of_wellFormed _
theorem clearSlot : ∀ r slot, Statement (.clearSlot r slot) := by
  intros; exact of_wellFormed _
theorem writeLine : ∀ r line access force rank, Statement (.writeLine r line access force rank) := by
  intros; exact of_wellFormed _
theorem writePassLimit : ∀ r limit, Statement (.writePassLimit r limit) := by
  intros; exact of_wellFormed _
theorem writeHandoverTimeout : ∀ r seconds, Statement (.writeHandoverTimeout r seconds) := by
  intros; exact of_wellFormed _
theorem pull : ∀ r code bank cls nowait, Statement (.pull r code bank cls nowait) := by
  intros; exact of_wellFormed _
theorem release : ∀ r number, Statement (.release r number) := by
  intros; exact of_wellFormed _
theorem cancel : ∀ r number, Statement (.cancel r number) := by
  intros; exact of_wellFormed _
theorem start : ∀ r, Statement (.start r) := by
  intros; exact of_wellFormed _
theorem drain : ∀ r, Statement (.drain r) := by
  intros; exact of_wellFormed _
theorem stop : ∀ r, Statement (.stop r) := by
  intros; exact of_wellFormed _
theorem restart : ∀ r, Statement (.restart r) := by
  intros; exact of_wellFormed _
theorem tallyRead : ∀ r bank, Statement (.tallyRead r bank) := by
  intros; exact of_wellFormed _
theorem tallyClear : ∀ r, Statement (.tallyClear r) := by
  intros; exact of_wellFormed _
theorem writeEventMask : ∀ r mask, Statement (.writeEventMask r mask) := by
  intros; exact of_wellFormed _
theorem eventRead : ∀ r count, Statement (.eventRead r count) := by
  intros; exact of_wellFormed _
theorem queryTracker : ∀ r first, Statement (.queryTracker r first) := by
  intros; exact of_wellFormed _
theorem queryBins : ∀ r first, Statement (.queryBins r first) := by
  intros; exact of_wellFormed _
theorem queryStoredLifts : ∀ r first, Statement (.queryStoredLifts r first) := by
  intros; exact of_wellFormed _
theorem queryPulls : ∀ r first, Statement (.queryPulls r first) := by
  intros; exact of_wellFormed _
theorem queryOutfeed : ∀ r first, Statement (.queryOutfeed r first) := by
  intros; exact of_wellFormed _
theorem querySettings : ∀ r first, Statement (.querySettings r first) := by
  intros; exact of_wellFormed _
theorem queryLines : ∀ r first, Statement (.queryLines r first) := by
  intros; exact of_wellFormed _
theorem queryRefusals : ∀ r first, Statement (.queryRefusals r first) := by
  intros; exact of_wellFormed _
theorem queryPorts : ∀ r first, Statement (.queryPorts r first) := by
  intros; exact of_wellFormed _
theorem queryMode : ∀ r first, Statement (.queryMode r first) := by
  intros; exact of_wellFormed _
theorem unknownRequest : ∀ port tag what, Statement (.unknownRequest port tag what) := by
  intros; exact of_wellFormed _
theorem frameReceived : ∀ port bytes, Statement (.frameReceived port bytes) := by
  intros; exact of_wellFormed _
theorem sendItem : ∀ port, Statement (.sendItem port) := by
  intros; exact of_wellFormed _
theorem travelPulse : Statement .travelPulse := of_wellFormed _
theorem entryEyeLeadingEdge : Statement .entryEyeLeadingEdge := of_wellFormed _
theorem entryEyeTrailingEdge : Statement .entryEyeTrailingEdge := of_wellFormed _
theorem decisionPointPassage : ∀ entry, Statement (.decisionPointPassage entry) := by
  intros; exact of_wellFormed _
theorem gateOpenPassage : ∀ entry, Statement (.gateOpenPassage entry) := by
  intros; exact of_wellFormed _
theorem gateClosePassage : ∀ entry, Statement (.gateClosePassage entry) := by
  intros; exact of_wellFormed _
theorem landingWindowEnd : ∀ entry, Statement (.landingWindowEnd entry) := by
  intros; exact of_wellFormed _
theorem redryGateOpenPassage : ∀ entry, Statement (.redryGateOpenPassage entry) := by
  intros; exact of_wellFormed _
theorem redryGateClosePassage : ∀ entry, Statement (.redryGateClosePassage entry) := by
  intros; exact of_wellFormed _
theorem beltEndPassage : ∀ entry, Statement (.beltEndPassage entry) := by
  intros; exact of_wellFormed _
theorem eyeStuckPassage : ∀ bin, Statement (.eyeStuckPassage bin) := by
  intros; exact of_wellFormed _
theorem landedEyeBlocked : ∀ bin, Statement (.landedEyeBlocked bin) := by
  intros; exact of_wellFormed _
theorem landedEyeClears : ∀ bin, Statement (.landedEyeClears bin) := by
  intros; exact of_wellFormed _
theorem drainCompletion : ∀ bin, Statement (.drainCompletion bin) := by
  intros; exact of_wellFormed _
theorem endOfDrain : Statement .endOfDrain := of_wellFormed _
theorem ejectionStart : Statement .ejectionStart := of_wellFormed _
theorem slotEyeBlocked : ∀ slot, Statement (.slotEyeBlocked slot) := by
  intros; exact of_wellFormed _
theorem slotEyeClears : ∀ slot, Statement (.slotEyeClears slot) := by
  intros; exact of_wellFormed _
theorem ejectTimeout : Statement .ejectTimeout := of_wellFormed _
theorem handoverExpired : ∀ line, Statement (.handoverExpired line) := by
  intros; exact of_wellFormed _
theorem fullReset : ∀ pins, Statement (.fullReset pins) := by
  intros; exact of_wellFormed _
theorem interByteGapTimeout : ∀ port, Statement (.interByteGapTimeout port) := by
  intros; exact of_wellFormed _
theorem partFrameEnds : ∀ port, Statement (.partFrameEnds port) := by
  intros; exact of_wellFormed _

end Sys2Proof.Laws.CarriedByALink
end

