-- ==== Sys2Proof/Laws/Requests.lean ====
section
/-! SUPPORT. The taking of a request: what `take`, `serve`, `serveWrite` and `serveQuery` can do, once each, and
what a reply leaves. -/

namespace Sys2Proof.Machine

@[simp] theorem queueReply_freeBuffer_ports (p : Port) (k : EchoKind) (tag : Byte) (x : ReplyBody) (s : State) :
    (queueReply p k tag x (freeBuffer p s)).ports = answeredPorts p (.reply k tag x) s := by
  simp only [queueReply_ports, freeBuffer_ports, answeredPorts, State.port, vset_get_self, vset_vset]

/-- A DONE reply is all that happens to a taken request that changes nothing else. -/
theorem done_freeBuffer (r : Req) (k : ReqKind) (x : Result) (s : State) :
    done r k x (freeBuffer r.port s) = answered r.port (doneItem r k x) s := by
  have h := queueReply_freeBuffer_ports r.port (.request k) r.tag (.done x) s
  unfold done answered doneItem
  rw [← h]
  rfl

theorem refuse_freeBuffer (r : Req) (k : ReqKind) (x : RefusalReason) (s : State) :
    refuse r k x (freeBuffer r.port s) = answered r.port (refusedItem r k x) s := by
  have h := queueReply_freeBuffer_ports r.port (.request k) r.tag (.refused x none) s
  unfold refuse answered refusedItem
  rw [← h]
  rfl

theorem refuseWith_freeBuffer (r : Req) (k : ReqKind) (x : FailureReport) (s : State) :
    refuseWith r k x (freeBuffer r.port s)
      = answered r.port (.reply (.request k) r.tag (.refused .invalid (some x))) s := by
  have h := queueReply_freeBuffer_ports r.port (.request k) r.tag (.refused .invalid (some x)) s
  unfold refuseWith answered
  rw [← h]
  rfl

theorem refuseRecorded_freeBuffer (r : Req) (k : ReqKind) (x : RefusalReason) (g : Option Target) (s : State) :
    refuseRecorded r k x g (freeBuffer r.port s)
      = { answered r.port (refusedItem r k x) s with refusal := some ⟨r.port, k, g⟩ } := by
  have h := refuse_freeBuffer r k x s
  unfold refuse at h
  unfold refuseRecorded refuse
  rw [← h]
  rfl

/-- A DONE reply added to a state whose ports are those of the taken request. -/
theorem done_ports_of (r : Req) (k : ReqKind) (x : Result) (s t : State)
    (h : t.ports = (freeBuffer r.port s).ports) :
    (done r k x t).ports = answeredPorts r.port (doneItem r k x) s := by
  have e := done_freeBuffer r k x s
  have e' : (done r k x (freeBuffer r.port s)).ports = answeredPorts r.port (doneItem r k x) s := by
    rw [e]; rfl
  rw [← e']
  unfold done
  rw [queueReply_ports, queueReply_ports, h]

/-- The two outcomes of a frame's taking (R177): it waits, or there is none, and nothing happens; or the buffer is
freed and the frame is handled. -/
theorem takeFrame_cases (p : Port) (test : Frame → Bool) (f : State → State) (s : State) :
    (s.hasPlace p = true ∧ s.holdsFrame p test = true) ∧ takeFrame p test f s = f (freeBuffer p s)
    ∨ (s.hasPlace p = false ∨ s.holdsFrame p test = false) ∧ takeFrame p test f s = s := by
  unfold takeFrame
  cases h : s.hasPlace p <;> cases g : s.holdsFrame p test <;> simp

/-- The two outcomes of a request's taking (R177). -/
theorem take_cases (r : Req) (k : ReqKind) (c : Instr) (f : State → State) (s : State) :
    CanTake r k c s ∧ take r k c f s = f (freeBuffer r.port s) ∨ ¬CanTake r k c s ∧ take r k c f s = s := by
  rcases takeFrame_cases r.port (requestFrame r k c) f s with ⟨⟨h, w⟩, e⟩ | ⟨h, e⟩
  · exact .inl ⟨⟨h, w⟩, e⟩
  · refine .inr ⟨fun t => ?_, e⟩
    rcases h with h | h
    · exact absurd t.place (by rw [h]; decide)
    · exact absurd t.waits (by rw [h]; decide)

theorem take_taken {r : Req} {k : ReqKind} {c : Instr} {f : State → State} {s : State} (h : CanTake r k c s) :
    take r k c f s = f (freeBuffer r.port s) := by
  unfold take takeFrame
  simp [h.place, h.waits]

/-- A frame's kind and tag are those of the request that it is taken as, and its payload is that of a request in
form. -/
theorem requestFrame_iff (r : Req) (k : ReqKind) (c : Instr) (f : Frame) :
    requestFrame r k c f = true
      ↔ f.kind = kindByte k ∧ f.tag = r.tag ∧ (r.formed = true → f.payload = payloadOf c) := by
  unfold requestFrame
  cases r.formed <;> simp [and_assoc]

theorem holdsFrame_iff (s : State) (p : Port) (test : Frame → Bool) :
    s.holdsFrame p test = true ↔ ∃ f, (s.port p).buffer = some f ∧ test f = true := by
  unfold State.holdsFrame
  cases (s.port p).buffer <;> simp

/-- The four outcomes of a request whose rights are the port class's (R177, R179). -/
theorem serve_cases (r : Req) (k : ReqKind) (c : Instr) (g : Option Target) (f : State → State) (s : State) :
    CanServe r k c s ∧ serve r k c g f s = f (freeBuffer r.port s)
    ∨ ¬CanTake r k c s ∧ serve r k c g f s = s
    ∨ CanTake r k c s ∧ mayMake r.port k = false
      ∧ serve r k c g f s = { answered r.port (refusedItem r k .denied) s with refusal := some ⟨r.port, k, g⟩ }
    ∨ CanTake r k c s ∧ mayMake r.port k = true ∧ r.formed = false
      ∧ serve r k c g f s = answered r.port (refusedItem r k .invalid) s := by
  unfold serve
  rcases take_cases r k c
    (fun s => if mayMake r.port k then if r.formed then f s else refuse r k .invalid s
      else refuseRecorded r k .denied g s) s with ⟨h, e⟩ | ⟨h, e⟩
  · rw [e]
    cases m : mayMake r.port k
    · simp [h, refuseRecorded_freeBuffer]
    · cases d : r.formed
      · simp [h, refuse_freeBuffer]
      · simp [show CanServe r k c s from ⟨h, m, d⟩]
  · exact .inr (.inl ⟨h, e⟩)

theorem serve_admitted {r : Req} {k : ReqKind} {c : Instr} {g : Option Target} {f : State → State} {s : State}
    (h : CanServe r k c s) : serve r k c g f s = f (freeBuffer r.port s) := by
  unfold serve
  rw [take_taken h.toCanTake]
  simp [h.right, h.formed]

/-- The rights, the form and the protection of a bank write that is handled (R33). -/
structure CanWrite (r : Req) (k : ReqKind) (c : Instr) (s : State) : Prop extends CanServe r k c s where
  unprotected : s.banks.active ≠ some s.banks.edit

theorem serveWrite_admitted {r : Req} {k : ReqKind} {c : Instr} {f : State → State} {s : State}
    (h : CanWrite r k c s) : serveWrite r k c f s = f (freeBuffer r.port s) := by
  unfold serveWrite
  rw [take_taken h.toCanTake]
  simp [h.right, h.formed, h.unprotected]

/-- The five outcomes of a bank write (R33). -/
theorem serveWrite_cases (r : Req) (k : ReqKind) (c : Instr) (f : State → State) (s : State) :
    CanWrite r k c s ∧ serveWrite r k c f s = f (freeBuffer r.port s)
    ∨ ¬CanTake r k c s ∧ serveWrite r k c f s = s
    ∨ CanTake r k c s ∧ mayMake r.port k = false
      ∧ serveWrite r k c f s
        = { answered r.port (refusedItem r k .denied) s with
            refusal := some ⟨r.port, k, some (.bank s.banks.edit.val)⟩ }
    ∨ CanTake r k c s ∧ mayMake r.port k = true ∧ s.banks.active = some s.banks.edit
      ∧ serveWrite r k c f s
        = { answered r.port (refusedItem r k .protectedBank) s with
            refusal := some ⟨r.port, k, some (.bank s.banks.edit.val)⟩ }
    ∨ CanTake r k c s ∧ mayMake r.port k = true ∧ s.banks.active ≠ some s.banks.edit
      ∧ r.formed = false ∧ serveWrite r k c f s = answered r.port (refusedItem r k .invalid) s := by
  by_cases h : CanTake r k c s
  · unfold serveWrite
    rw [take_taken h]
    cases m : mayMake r.port k
    · simp [h, refuseRecorded_freeBuffer]
    · by_cases a : s.banks.active = some s.banks.edit
      · simp [h, a, refuseRecorded_freeBuffer]
      · cases d : r.formed
        · simp [h, a, refuse_freeBuffer]
        · simp [a, show CanWrite r k c s from ⟨⟨h, m, d⟩, a⟩]
  · refine .inr (.inl ⟨h, ?_⟩)
    unfold serveWrite
    rcases take_cases r k c
      (fun s =>
        let target := some (Target.bank s.banks.edit.val)
        if mayMake r.port k then
          if s.banks.active = some s.banks.edit then refuseRecorded r k .protectedBank target s
          else if r.formed then f s
          else refuse r k .invalid s
        else refuseRecorded r k .denied target s) s with ⟨t, _⟩ | ⟨_, e⟩
    · exact absurd t h
    · exact e

/-- An accepted QUERY answers, and does nothing else (R183). -/
theorem serveQuery_admitted {r : Req} {c : Instr} {subject : Subject} {first : Nat} {count : State → Nat}
    {data : State → QueryData} {s : State} (t : CanTake r .query c s) (m : mayQuery r.port subject = true)
    (d : r.formed = true) (x : firstAccepted first (count (freeBuffer r.port s)) = true) :
    serveQuery r c subject first count data s
      = answered r.port
          (doneItem r .query
            (.query (count (freeBuffer r.port s)) first (data (freeBuffer r.port s)))) s := by
  unfold serveQuery
  rw [take_taken t]
  simp [m, d, x, done_freeBuffer]

/-- A QUERY, whatever becomes of it, changes the ports and the refusal record at most (R183). -/
theorem serveQuery_cases (r : Req) (c : Instr) (subject : Subject) (first : Nat) (count : State → Nat)
    (data : State → QueryData) (s : State) :
    serveQuery r c subject first count data s = s
    ∨ (∃ x, serveQuery r c subject first count data s = answered r.port x s)
    ∨ CanTake r .query c s ∧ mayQuery r.port subject = false
      ∧ serveQuery r c subject first count data s
        = { answered r.port (refusedItem r .query .denied) s with refusal := some ⟨r.port, .query, none⟩ } := by
  unfold serveQuery
  rcases take_cases r .query c
    (fun s =>
      if mayQuery r.port subject then
        if r.formed && firstAccepted first (count s) then
          done r .query (.query (count s) first (data s)) s
        else refuse r .query .invalid s
      else refuseRecorded r .query .denied none s) s with ⟨h, e⟩ | ⟨_, e⟩
  · rw [e]
    cases m : mayQuery r.port subject
    · simp [h, refuseRecorded_freeBuffer]
    · right; left
      simp only [↓reduceIte]
      split
      · exact ⟨_, done_freeBuffer _ _ _ _⟩
      · exact ⟨_, refuse_freeBuffer _ _ _ _⟩
  · exact .inl e

end Sys2Proof.Machine
end

