-- ==== Sys2Proof/Laws/Report.lean ====
section
/-! SUPPORT. Everything a SHEET_REPORT can do, once (R6, R59, R60, R62). -/

namespace Sys2Proof.Machine

/-- What a taken report binds to: the entry, the parsed report, the eye length and the active bank (R59). -/
structure Binds (payload : List Byte) (s : State) (raw : SheetData) (e : Entry) (eye : Nat) (k : BankNo) :
    Prop where
  parsed : parseReport payload = some raw
  inStep : s.sync ≠ .outOfStep
  oldest : oldestAwaiting s = some e
  measured : e.eyeLen = some eye
  bank : s.banks.active = some k

/-- The outcomes of a SHEET_REPORT: nothing, one of the refusals of Figure 1-1, or a binding. -/
inductive ReportOutcome (r : Req) (payload : List Byte) (t : State) :
    Host.Outcome State Fault Refusal → Prop where
  | denied : ReportOutcome r payload t (.next (refuseRecorded r .sheetReport .denied none t))
  | invalid : ReportOutcome r payload t (.next (refuse r .sheetReport .invalid t))
  | outOfStep : ReportOutcome r payload t (.next (refuse r .sheetReport .outOfStep t))
  | noSheet : ReportOutcome r payload t (.next (refuseNoSheet r t))
  | noBank : ReportOutcome r payload t (.fault .noActiveBank)
  | mismatch (raw : SheetData) (e : Entry) (eye : Nat) (k : BankNo) (b : Binds payload t raw e eye k) :
      ReportOutcome r payload t (.next (bindMismatch r k e raw t))
  | good (raw : SheetData) (e : Entry) (eye : Nat) (k : BankNo) (b : Binds payload t raw e eye k) :
      ReportOutcome r payload t (.next (bindGood r k e raw t))

theorem sheetReport_cases (port : Port) (tag : Byte) (payload : List Byte) (s : State) :
    ¬CanTake (reportReq port tag) .sheetReport (.sheetReport port tag payload) s
      ∧ execSheetReport port tag payload s = .next s
    ∨ ReportOutcome (reportReq port tag) payload (freeBuffer port s) (execSheetReport port tag payload s) := by
  unfold execSheetReport
  by_cases h : (s.hasPlace port && s.holdsFrame port
      (requestFrame (reportReq port tag) .sheetReport (.sheetReport port tag payload))) = true
  swap
  · refine .inl ⟨fun t => h ?_, by simp only [h]; rfl⟩
    rw [Bool.and_eq_true]
    exact ⟨t.place, t.waits⟩
  · right
    simp only [h, Bool.not_true, Bool.false_eq_true, ↓reduceIte]
    cases m : mayMake port .sheetReport
    · exact .denied
    · simp only [Bool.not_true, Bool.false_eq_true, ↓reduceIte]
      split
      · exact .invalid
      · next raw hp =>
        split
        · exact .outOfStep
        · next hs =>
          split
          · exact .noSheet
          · next e he =>
            split
            · exact .noSheet
            · exact .noBank
            · next eye k hl hk =>
              have b : Binds payload (freeBuffer port s) raw e eye k := ⟨hp, hs, he, hl, hk⟩
              split
              · exact .mismatch raw e eye k b
              · exact .good raw e eye k b

end Sys2Proof.Machine
end

