-- ==== Sys2Proof/Tests/Slice0.lean ====
section
/-! SUPPORT. The model's own tests: the well-formedness checks, the manual's worked figures, one step of some
commands on small states, and for each statement of the certificate a state and operands that meet its
hypotheses. -/

namespace Sys2Proof.Tests

open Sys2Proof.Machine

/-! ### Well-formedness -/

/-- A setup request, a scan request and a request of line 0. -/
def setupReq : Req := ⟨.setup, 7, true⟩
def scanReq : Req := ⟨.scan, 7, true⟩
def lineReq : Req := ⟨.line 0, 7, true⟩

/-- A setup request and a request of line 0 whose payloads are out of form. -/
def unformedReq : Req := ⟨.setup, 7, false⟩
def unformedLine : Req := ⟨.line 0, 7, false⟩

/-- A grade rule with every field in range. -/
def someRule : GradeRule where
  code := 5
  width := .any
  classes := [1]
  moistureMin := 0
  moistureMax := 80
  densityLimit := 200
  countLimit := PerKind.all none
  sizeLimit := PerKind.all 999
  acceptPartial := false
  spill := none
  bins := [0]
  target := 20
  shortMin := 1

theorem test_longest_payload_well_formed :
    (Instr.sheetReport .scan 0 (List.replicate 240 0)).wellFormed = true := by decide +kernel

theorem test_overlong_payload_ill_formed :
    (Instr.sheetReport .scan 0 (List.replicate 241 0)).wellFormed = false := by decide +kernel

theorem test_overlong_classes_ill_formed :
    (Instr.writeClasses setupReq (List.replicate 241 none)).wellFormed = false := by decide +kernel

theorem test_overlong_weights_ill_formed :
    (Instr.writeWeights setupReq (List.replicate 241 0)).wellFormed = false := by decide +kernel

theorem test_overlong_bin_list_ill_formed :
    (Instr.writeGrade setupReq 0 { someRule with bins := List.replicate 241 0 }).wellFormed = false := by
  decide +kernel

theorem test_overlong_class_list_ill_formed :
    (Instr.writeGrade setupReq 0 { someRule with classes := List.replicate 241 0 }).wellFormed = false := by
  decide +kernel

theorem test_overlong_access_list_ill_formed :
    (Instr.writeLine setupReq 0 (.codes (List.replicate 241 1)) false 0).wellFormed = false := by decide +kernel

theorem test_sheet_report_is_not_unknown :
    (Instr.unknownRequest .scan 0 (.kind 0x21)).wellFormed = false := by decide

/-- No word spells a command (log entry 13). -/
theorem test_no_word_spells_a_command : decodeTableWord 8 0x21 = none := by decide

/-! ### The manual's worked figures -/

/-- R184: the check of the nine bytes "123456789". -/
theorem test_crc_check_value :
    crc16 [0x31, 0x32, 0x33, 0x34, 0x35, 0x36, 0x37, 0x38, 0x39] = 0x29B1#16 := by decide +kernel

/-- R9: a sheet of 2600 mm by 1320 mm has an area of 343. -/
theorem test_area_of_worked_sheet : sheetArea ⟨2600, 1320, 3000, [64], [], false⟩ = 343 := by decide

/-- R14: the largest score of one defect. -/
theorem test_largest_defect_score :
    defectPoints (PerKind.all 255) ⟨.hole, 999, .centre⟩ = 31844 := by decide

/-- R16: a total of 160 on an area of 343. -/
theorem test_density_of_worked_sheet : densityOf 160 343 = 46 := by decide

/-- R16: the quotient saturates. -/
theorem test_density_saturates : densityOf 65535 3 = 65535 := by decide

/-- R42: ranges that touch at one micrometre overlap. -/
theorem test_touching_ranges_overlap :
    overlapFailure #v[some ⟨2400, 2700⟩, some ⟨2700, 3300⟩, none, none] = some (.overlap 1 0) := by decide

/-- R123: close orders compare through their difference modulo 2^32. -/
theorem test_close_order_wraps : seqEarlier 0xFFFFFFFF 0 = true ∧ seqEarlier 0 0xFFFFFFFF = false := by decide

/-- R38: the position equal to the count appends. -/
theorem test_place_rule_appends : (placeRule [someRule] 1 { someRule with code := 6 }).length = 2 := by decide

/-- R116: the id in use is passed over, and 65,535 is followed by 1. -/
theorem test_ids_pass_over_and_wrap : firstFree [65535, 1] 40 65535 = 2 := by decide

/-! ### Small states -/

/-- The state with one bin in a given state. -/
def withBin (b : BinNo) (x : BinState) (s : State) : State := setBin b (fun y => { y with state := x }) s

/-- The state with one slot in a given state. -/
def withSlot (n : SlotNo) (x : SlotState) (eye : Bool) (s : State) : State := setSlot n (fun _ => ⟨x, eye⟩) s

/-- The state with a tracking queue. -/
def withQueue (l : List Entry) (s : State) : State := { s with tracker := { s.tracker with queue := l } }

/-- The state after reset, in RUN. -/
def running : State := { State.reset with mode := .run }

/-- An open lift with one sheet in flight. -/
def openLift0 : Lift := { newLift 1 ⟨0, 5, 1⟩ 0 20 with landed := 3, inFlight := 1 }

/-- The same lift with nothing in flight. -/
def idleLift0 : Lift := { openLift0 with inFlight := 0 }

/-- The same lift closed, and ejecting into slot 2. -/
def closedLift0 : Lift := idleLift0.closeAs .full 1
def ejectingLift0 : Lift := { closedLift0 with state := .ejecting, slot := some 2 }

/-- The same lift in its slot, waiting for a pull, and assigned to pull 9. -/
def storedLift0 : Lift := { ejectingLift0 with state := .stored }
def assignedLift0 : Lift := { storedLift0 with state := .assigned, pull := some 9 }

/-- A waiting and an assigned pull of line 0. -/
def waitingPull : Pull := ⟨9, 0, 5, none, none, 1, 0, .waiting⟩
def assignedPull : Pull := { waitingPull with state := .assigned 1 120000 }

/-- The state with a list of pulls. -/
def withPulls (l : List Pull) (s : State) : State := setArbiter (fun a => { a with pulls := l }) s

/-- Computed values of a dry sheet. -/
def someValues : Computed := ⟨343, 0, 0, 64, 71⟩

/-- An entry of number 4 whose leading edge crossed the eye at position 0. -/
def entry4 (x : EntryState) : Entry := ⟨4, 0, some 2600, x, some (.graded 5 1 someValues), some 0⟩

/-- The entry while it waits for its report. -/
def waiting4 : Entry := ⟨4, 0, some 2600, .awaitReport, none, none⟩

/-- The state with the belt at a position. -/
def beltAt (n : Travel) (s : State) : State := { s with tracker := { s.tracker with travel := n } }

theorem not_faulted_of_ready {x : BinState} (h : x.tag = .ready) : ∀ w l, x ≠ .faulted w l := by
  intro w l e; subst e; cases h

theorem not_filling_of_ready {x : BinState} (h : x.tag = .ready) : ∀ l, x ≠ .filling l := by
  intro l e; subst e; cases h

/-- The frame of a request in its port's receive buffer. -/
def offering (c : Instr) (s : State) : State :=
  match c.request? with
  | some (r, k) => setPort r.port (fun q => { q with buffer := some ⟨kindByte k, r.tag, payloadOf c⟩ }) s
  | none => s

/-- Offering a request changes the ports alone: what a test below says of `s` beside an offered request holds of
`offering c s` too. -/
theorem offering_rest (c : Instr) (s : State) : offering c s = { s with ports := (offering c s).ports } := by
  unfold offering
  cases c.request? <;> rfl

/-- A state with the request's frame in its port's buffer: the request can be taken, is admitted, or is admitted as a
line's or a query's. -/
def OffersTaken (c : Instr) (s : State) : Prop := Taken c (offering c s)
def Offers (c : Instr) (s : State) : Prop := Admitted c (offering c s)
def OffersLine (r : Req) (i : LineNo) (c : Instr) (s : State) : Prop := LineAdmitted r i c (offering c s)
def OffersQuery (r : Req) (c : Instr) (x : Subject) (first count : Nat) (s : State) : Prop :=
  QueryAdmitted r c x first count (offering c s)

theorem canTake_offering {c : Instr} {r : Req} {k : ReqKind} {s : State} (h : c.request? = some (r, k))
    (p : s.hasPlace r.port = true) : CanTake r k c (offering c s) := by
  have b : (offering c s).port r.port
      = { s.port r.port with buffer := some ⟨kindByte k, r.tag, payloadOf c⟩ } := by
    simp only [offering, h, setPort, State.port, vset_get_self]
  constructor
  · simpa only [State.hasPlace, b] using p
  · simp [State.holdsFrame, b, requestFrame]

theorem offersTaken {c : Instr} {r : Req} {k : ReqKind} {s : State} (h : c.request? = some (r, k))
    (p : s.hasPlace r.port = true) : OffersTaken c s := by
  unfold OffersTaken Taken
  rw [h]
  exact canTake_offering h p

theorem canServe_offering {c : Instr} {r : Req} {k : ReqKind} {s : State} (h : c.request? = some (r, k))
    (m : mayMake r.port k = true) (f : r.formed = true) (p : s.hasPlace r.port = true) :
    CanServe r k c (offering c s) := ⟨canTake_offering h p, m, f⟩

theorem offers {c : Instr} {r : Req} {k : ReqKind} {s : State} (h : c.request? = some (r, k))
    (m : mayMake r.port k = true) (f : r.formed = true) (p : s.hasPlace r.port = true) : Offers c s := by
  unfold Offers Admitted
  rw [h]
  exact canServe_offering h m f p

theorem offersLine {c : Instr} {r : Req} {i : LineNo} {k : ReqKind} {s : State} (h : c.request? = some (r, k))
    (l : r.port = .line i) (f : r.formed = true) (p : s.hasPlace r.port = true) : OffersLine r i c s :=
  ⟨l, offersTaken h p, f⟩

theorem offersQuery {c : Instr} {r : Req} {x : Subject} {k : ReqKind} {first count : Nat} {s : State}
    (h : c.request? = some (r, k)) (m : mayQuery r.port x = true) (f : r.formed = true)
    (i : firstAccepted first count = true) (p : s.hasPlace r.port = true) : OffersQuery r c x first count s :=
  ⟨offersTaken h p, m, f, i⟩

/-! ### One step of some commands -/

/-- R53: in IDLE a sheet runs untracked. -/
theorem test_idle_edge_untracked :
    (match exec .entryEyeLeadingEdge State.reset with
      | .next t => decide (t.tracker.eye = .blockedUntracked) && t.tracker.queue.isEmpty
      | _ => false) = true := by decide

/-- R56: a trailing edge 0 mm after the leading edge gives an eye length of 1. -/
theorem test_eye_length_at_least_one : eyeLength { waiting4 with lead := 9 } (beltAt 9 running) = 1 := by decide

/-- R50: the counter returns to 0 after 2^32 - 1. -/
theorem test_travel_wraps :
    (match exec .travelPulse (beltAt 0xFFFFFFFF running) with
      | .next t => decide (t.tracker.travel = 0)
      | _ => false) = true := by decide +kernel

/-- R165: START with no active bank is refused NOT_NOW. -/
theorem test_start_refused_without_bank :
    (match exec (.start setupReq) (offering (.start setupReq) State.reset) with
      | .next t => decide ((t.port .setup).queue = [refusedItem setupReq .start .notNow])
      | _ => false) = true := by
  have h : CanServe setupReq .start (.start setupReq) (offering (.start setupReq) State.reset) :=
    canServe_offering rfl (by decide) rfl (by decide)
  simp only [exec, execStart, serve_admitted h]
  decide

/-- R177: a request whose frame has not arrived is not taken. -/
theorem test_no_frame_no_request : exec (.start setupReq) State.reset = .next State.reset := rfl

/-- R176: the shortest good frame, byte by byte, lands in the buffer. -/
theorem test_shortest_frame_received :
    (match exec (.frameReceived .scan ((frameBytes 0x21 7 []).map (fun b => ⟨b, false⟩))) State.reset with
      | .next t => decide ((t.port .scan).buffer = some ⟨0x21, 7, []⟩ ∧ (t.port .scan).errors = 0)
      | _ => false) = true := by decide +kernel

/-- R176: a flipped check byte is discarded and counted. -/
theorem test_bad_check_counted :
    (match exec (.frameReceived .scan
        ((frameBytes 0x21 7 []).dropLast.map (fun b => ⟨b, false⟩) ++ [⟨0, false⟩])) State.reset with
      | .next t => decide ((t.port .scan).buffer = none ∧ (t.port .scan).errors = 1)
      | _ => false) = true := by decide +kernel

/-- R135: the lowest EMPTY slot is taken. -/
theorem test_lowest_slot_chosen :
    (match exec .ejectionStart
        (withSlot 7 .empty false (withSlot 2 .empty false (waitForOutfeed 3 closedLift0 State.reset))) with
      | .next t => decide (t.outfeed.state = .busy 3 2)
      | _ => false) = true := by decide

/-- R121: a drain with nothing landed returns the bin to READY. -/
theorem test_empty_drain_discards :
    (match exec (.drainCompletion 0)
        (withBin 0 (.drainClose .short { idleLift0 with landed := 0 }) State.reset) with
      | .next t => decide ((t.bin 0).state = .ready)
      | _ => false) = true := by decide

/-- R185: a payload read field by field. -/
theorem test_report_parsed :
    parseReport [0x0A, 0x28, 0x05, 0x28, 0x0B, 0xB8, 2, 1, 1, 0, 57, 0, 71, 2, 0, 12, 1]
      = some ⟨2600, 1320, 3000, [57, 71], [⟨.hole, 12, .edge⟩], true⟩ := by decide

/-- R186: the reason and routing bytes of a rejected sheet's reply. -/
theorem test_reject_reply_bytes :
    (Result.sheet 9 (.reject .mismatch none) .beltEnd true).bytes
      = [9, 2, 0, 0xFF, 3, 2, 0x11, 0, 0, 0, 0, 0, 0, 0, 0, 0, 0] := by decide

/-! ### The manual's worked sheet (section 1.7) -/

/-- Table 1-9: the rules FACE and BACK. -/
def faceRule : GradeRule :=
  { someRule with
    code := 1, width := .full, classes := [1], moistureMin := 40, moistureMax := 80, densityLimit := 25
    countLimit := ⟨some 4, some 0, some 0, some 1, some 0, some 0, some 0, some 0⟩
    sizeLimit := ⟨20, 1, 1, 150, 1, 1, 1, 1⟩ }
def backRule : GradeRule :=
  { someRule with
    code := 2, width := .full, classes := [0, 1, 2], moistureMin := 30, moistureMax := 90, densityLimit := 80
    countLimit := ⟨none, some 2, some 0, some 2, none, none, none, none⟩
    sizeLimit := ⟨60, 25, 1, 400, 999, 999, 999, 999⟩ }

/-- Tables 1-7 and 1-8: bank 1 of the worked case. -/
def workedBank : Bank where
  state := .active
  classes := #v[some ⟨1500, 2399⟩, some ⟨2400, 2700⟩, some ⟨2701, 3300⟩, none]
  weights := ⟨4, 24, 40, 6, 10, 2, 3, 8⟩
  redryLimit := 110
  fullWidth := 1200
  rules := [faceRule, backRule]

/-- The sheet of the worked case. -/
def workedSheet : SheetData where
  length := 2600
  width := 1320
  thickness := 2540
  readings := [62, 71, 58, 66]
  defects := [⟨.openKnot, 18, .centre⟩, ⟨.split, 240, .edge⟩, ⟨.soundKnot, 30, .centre⟩]
  partialFlag := false

/-- Figure 1-2: GRADED 2, class 1, with the five computed values. -/
theorem test_worked_sheet_graded :
    evaluate workedBank (clampReport workedSheet) = .graded 2 1 ⟨343, 160, 46, 64, 71⟩
    ∧ clampedMark workedSheet = false := by decide +kernel

/-- The state after reset with bank 0 active and bin 0 positioned and READY. -/
def sorting : State :=
  { withBin 0 .ready running with
    banks :=
      { bank := vset State.reset.banks.bank 0 { workedBank with rules := [{ backRule with bins := [0] }] }
        active := some 0, edit := 1 }
    geometry :=
      { State.reset.geometry with
        binPosition := vset State.reset.geometry.binPosition 0 (some 4000), beltEnd := some 8000 } }

/-- The worked sheet on the belt at 1400 mm, waiting for its report. -/
def awaiting : State := beltAt 1400 (withQueue [waiting4] sorting)

/-! ### The hypotheses of each statement are met -/

theorem witness_StepRunsFrontCommand :
    ({ State.reset with pending := [.travelPulse, .endOfDrain] } : State).pending
      = .travelPulse :: [.endOfDrain] := rfl

theorem witness_IdleStepCountsOneMillisecond :
    let s : State := { withPulls [assignedPull] State.reset with
      outfeed := { State.reset.outfeed with timer := some 2 } }
    s.pending = [] ∧ (∀ n, s.outfeed.timer = some n → 2 ≤ n)
    ∧ (∀ p ∈ s.arbiter.pulls, ∀ lift n, p.state = .assigned lift n → 2 ≤ n)
    ∧ (s.ports[(0 : Fin 6)].receiver = .hunt ∨ s.ports[(0 : Fin 6)].gapMs < 20) := by
  refine ⟨rfl, ?_, ?_, .inl rfl⟩
  · intro n h; cases h; decide
  · intro p hp lift n h
    cases List.mem_singleton.mp hp
    cases h; decide

theorem witness_IdleStep_gap :
    let s : State := setPort .scan (fun q => { q with receiver := .header [], gapMs := 20 }) State.reset
    s.ports[(0 : Fin 6)].receiver ≠ .hunt ∧ 20 ≤ s.ports[(0 : Fin 6)].gapMs := by decide

theorem witness_WholeFrameReceived :
    let bytes : List RxByte := (frameBytes 0x21 7 [0xC3]).map (fun b => ⟨b, false⟩)
    [(0xC3 : Byte)].length ≤ 240 ∧ (State.reset.port .setup).receiver = .hunt
    ∧ (State.reset.port .setup).sending = none ∧ (State.reset.port .setup).buffer = none
    ∧ bytes.map (fun x => x.value) = frameBytes 0x21 7 [0xC3] ∧ (∀ x ∈ bytes.tail, x.late = false) := by
  decide +kernel

theorem witness_BadFramesAreDiscarded :
    let q := State.reset.port .scan
    let busy : PortState := { q with receiver := .payload 0x21 7 2 [1] }
    let full : PortState := { q with buffer := some ⟨0x21, 7, []⟩ }
    let sending : PortState :=
      { q with sending := some ⟨.notice (.taken 1 1 0), false, []⟩ }
    [(0 : Byte), 0].length = 2 ∧ [(0 : Byte), 0] ≠ checkBytes ([0x21, 7, 0] ++ []) ∧ full.buffer ≠ none
    ∧ (checkBytes [0x21, 7, 0]).length = 2 ∧ full.receiver = .hunt ∧ full.sending = none
    ∧ 240 < (0xF1 : Byte).toNat ∧ q.receiver = .hunt ∧ q.sending = none
    ∧ busy.receiver ≠ .hunt ∧ busy.sending = none
    ∧ (0xC2 : Byte) ≠ startMark ∧ sending.sending ≠ none := by decide +kernel

theorem witness_GapAndSending :
    let q := State.reset.port .scan
    ({ q with receiver := .header [] } : PortState).receiver ≠ .hunt ∧ q.receiver = .hunt
    ∧ ({ q with sending := some ⟨.notice (.taken 1 1 0), false, []⟩ } : PortState).sending ≠ none
    ∧ q.sending = none ∧ 1 ≤ ({ q with gapMs := 1 } : PortState).gapMs
    ∧ ({ q with queue := [.notice (.taken 1 1 0)] } : PortState).queue = .notice (.taken 1 1 0) :: []
    ∧ ({ q with gapMs := 0 } : PortState).gapMs = 0 ∧ q.queue = [] := by decide +kernel

/-- A kind value lies in 0x01 to 0x7F (R184), so 0x80 is no request's. -/
theorem kindByte_small (k : ReqKind) : (kindByte k).toNat ≤ 0x7F := by
  have h := (Config.kindOrder (kindPlace k)).isLt
  cases k <;> simp only [kindByte] <;> (try decide) <;>
    (rw [BitVec.toNat_ofNat]; split <;> omega)

/-- A frame of a kind in its port's receive buffer. -/
def holding (p : Port) (kind : Byte) (s : State) : State :=
  setPort p (fun q => { q with buffer := some ⟨kind, 7, []⟩ }) s

theorem witness_UnknownRequestRefused :
    (∀ p : Port, p = .setup ∨ p = .scan → ∀ kind : Byte,
      (holding p kind State.reset).hasPlace p = true
      ∧ ((holding p kind State.reset).port p).buffer = some ⟨kind, 7, []⟩)
    ∧ (∀ k : ReqKind, kindByte k ≠ 0x80#8) ∧ (∃ k : ReqKind, kindByte k = 0x21#8) ∧ Port.scan ≠ .setup := by
  refine ⟨?_, ?_, ⟨.sheetReport, rfl⟩, by decide⟩
  · rintro p (rfl | rfl) kind <;> exact ⟨by rfl, by rfl⟩
  · intro k h
    have := kindByte_small k
    rw [h] at this
    revert this; decide

theorem witness_FullQueueHoldsRequestsBack :
    (Instr.stop setupReq).request? = some (setupReq, .stop)
    ∧ (State.reset.port .setup).buffer = none
    ∧ ((holding .setup 0x80 State.reset).port .setup).buffer = some ⟨0x80, 7, []⟩
    ∧ ([] : List Byte) ≠ [0]
    ∧ (setPort .setup (fun q => { q with queue := List.replicate 16 (.notice (.taken 1 1 0)) })
        State.reset).hasPlace .setup = false := by decide +kernel

/-- Line 0 with or without the force-close right. -/
def forceable (force : Bool) : State :=
  { State.reset with
    arbiter := { State.reset.arbiter with settings := vset State.reset.arbiter.settings 0 ⟨.all, force, 0⟩ } }

theorem witness_PortRightsDenied :
    (Instr.stop scanReq).request? = some (scanReq, .stop) ∧ OffersTaken (.stop scanReq) State.reset
    ∧ ReqKind.stop ≠ .query ∧ mayMake .scan .stop = false
    ∧ (∀ c ∈ [Instr.clearBank unformedReq, .stop unformedReq], OffersTaken c State.reset)
    ∧ OffersTaken (.forceClose unformedLine 5 none) (forceable true)
    ∧ mayMake .setup .clearBank = true ∧ mayMake .setup .stop = true ∧ mayMake (.line 0) .forceClose = true
    ∧ unformedReq.formed = false ∧ unformedLine.formed = false
    ∧ State.reset.banks.active ≠ some State.reset.banks.edit
    ∧ (forceable true).arbiter.settings[(0 : Fin 4)].force = true := by
  refine ⟨rfl, offersTaken rfl (by decide), by decide, by decide, ?_, offersTaken rfl (by decide), by decide,
    by decide, by decide, rfl, rfl, by decide, by decide⟩
  intro c h
  simp only [List.mem_cons, List.not_mem_nil, or_false] at h
  rcases h with rfl | rfl <;> exact offersTaken rfl (by decide)

theorem witness_QueriesReportWithoutChange :
    OffersQuery scanReq (.queryTracker scanReq 0) .tracker 0 State.reset.tracker.queue.length State.reset
    ∧ OffersQuery lineReq (.queryBins lineReq 15) .bins 15 16 State.reset
    ∧ OffersQuery lineReq (.queryStoredLifts lineReq 0) .storedLifts 0 (holdingSlots State.reset).length State.reset
    ∧ OffersQuery lineReq (.queryPulls lineReq 0) .pulls 0 (shownPulls lineReq.port State.reset).length State.reset
    ∧ OffersQuery setupReq (.queryOutfeed setupReq 23) .outfeed 23 (State.reset.outfeed.queue.length + 24)
        State.reset
    ∧ OffersQuery setupReq (.querySettings setupReq 0) .settings 0 0 State.reset
    ∧ OffersQuery setupReq (.queryLines setupReq 3) .lines 3 4 State.reset
    ∧ OffersQuery setupReq (.queryRefusals setupReq 0) .refusals 0 0 State.reset
    ∧ OffersQuery setupReq (.queryPorts setupReq 5) .ports 5 6 State.reset
    ∧ OffersQuery setupReq (.queryMode setupReq 0) .mode 0 0 State.reset
    ∧ OffersTaken (queryOf scanReq 0 .bins) State.reset ∧ mayQuery .scan .bins = false
    ∧ OffersTaken (queryOf lineReq 16 .bins) State.reset ∧ itemCount (.line 0) State.reset .bins = 16
    ∧ OffersTaken (queryOf setupReq 1 .mode) State.reset ∧ itemCount .setup State.reset .mode = 0
    ∧ OffersTaken (queryOf unformedReq 0 .bins) State.reset := by
  refine ⟨?_, ?_, ?_, ?_, ?_, ?_, ?_, ?_, ?_, ?_, offersTaken rfl (by decide), by decide,
    offersTaken rfl (by decide), by decide, offersTaken rfl (by decide), by decide, offersTaken rfl (by decide)⟩ <;>
  exact offersQuery rfl (by decide) rfl (by decide) (by decide)

theorem witness_bank_writes (c : Instr) (k : ReqKind) (h : c.request? = some (setupReq, k))
    (m : mayMake .setup k = true) : WriteAdmitted c (offering c State.reset) :=
  ⟨offers h m rfl (by decide), by
    rw [offering_rest]; exact (by decide : State.reset.banks.active ≠ some State.reset.banks.edit)⟩

theorem witness_WriteLimitsReplacesBoth :
    (let c := Instr.writeLimits setupReq 300 1400; WriteAdmitted c (offering c State.reset))
    ∧ (let c := Instr.writeLimits setupReq 301 1400; WriteAdmitted c (offering c State.reset))
    ∧ 300 ≤ 300 ∧ 100 ≤ 1400 ∧ 300 < 301 :=
  ⟨witness_bank_writes _ _ rfl rfl, witness_bank_writes _ _ rfl rfl, by decide⟩

theorem witness_BankWritesReplaceContents :
    (∀ c ∈ [Instr.writeClasses setupReq [some ⟨500, 6000⟩, none, none, none], .writeClasses setupReq [],
        .writeWeights setupReq [0, 1, 2, 3, 4, 5, 6, 7], .writeWeights setupReq [], .clearBank setupReq,
        .deleteGrade setupReq 0],
      WriteAdmitted c (offering c State.reset))
    ∧ (∀ x ∈ [some (⟨500, 6000⟩ : ClassRange), none, none, none], ∀ y, x = some y →
        500 ≤ y.lo ∧ y.lo ≤ 6000 ∧ 500 ≤ y.hi ∧ y.hi ≤ 6000)
    ∧ ([] : List (Option ClassRange)).length ≠ 4 ∧ ([] : List Byte).length ≠ 8
    ∧ WriteAdmitted (.deleteGrade setupReq 0)
        (offering (.deleteGrade setupReq 0)
          { sorting with banks := { sorting.banks with active := none, edit := 0 } })
    ∧ ({ sorting with banks := { sorting.banks with active := none, edit := 0 } } : State).editBank.rules
        = [] ++ { backRule with bins := [0] } :: []
    ∧ State.reset.editBank.rules.length ≤ 0 := by
  refine ⟨?_, ?_, by decide, by decide,
    ⟨offers rfl (by decide) rfl (by decide), by rw [offering_rest]; decide⟩, by decide, by decide⟩
  · intro c h
    simp only [List.mem_cons, List.not_mem_nil, or_false] at h
    rcases h with rfl | rfl | rfl | rfl | rfl | rfl <;> exact witness_bank_writes _ _ rfl rfl
  intro x hx y hy
  subst hy
  simp only [List.mem_cons, Option.some.injEq, reduceCtorEq, List.not_mem_nil, or_self, or_false] at hx
  subst hx; decide

theorem someRule_formed (rules : List GradeRule) (pos : Nat) (h : pos ≤ 11 ∧ pos ≤ rules.length)
    (u : ∀ i x, rules[i]? = some x → i ≠ pos → x.code ≠ 5) : GradeWriteFormed rules pos someRule where
  position := h
  code := by decide
  unique := u
  classes := by decide
  moisture := by decide
  density := by decide
  counts := by intro k n e; cases k <;> cases e
  sizes := by intro k; cases k <;> decide
  spill := by intro c e; cases e
  bins := by decide
  target := by decide
  shortMin := by decide

theorem witness_WriteGradePlacesRule :
    (∀ pos, WriteAdmitted (.writeGrade setupReq pos someRule)
      (offering (.writeGrade setupReq pos someRule) State.reset))
    ∧ GradeWriteFormed [someRule] 0 someRule ∧ 0 < [someRule].length
    ∧ GradeWriteFormed State.reset.editBank.rules 0 someRule ∧ 0 = State.reset.editBank.rules.length
    ∧ ¬GradeWriteFormed [] 1 someRule := by
  refine ⟨fun pos => witness_bank_writes _ _ rfl rfl, someRule_formed _ _ (by decide) ?_, by decide,
    someRule_formed _ _ (by decide) ?_, by decide, fun h => by simpa using h.position⟩
  · intro i x e hi
    cases i with
    | zero => exact absurd rfl hi
    | succ i => cases e
  · intro i x e; cases e

theorem witness_ProtectedBankWritesRefused :
    (Instr.clearBank setupReq).request? = some (setupReq, .clearBank) ∧ setupReq.port = .setup
    ∧ OffersTaken (.clearBank setupReq) { sorting with banks := { sorting.banks with edit := 0 } }
    ∧ ({ sorting with banks := { sorting.banks with edit := 0 } } : State).banks.active = some 0 :=
  ⟨rfl, rfl, offersTaken rfl (by decide), by decide⟩

theorem witness_SelectReadAndValidateBanks :
    Offers (.selectBank setupReq 0) sorting ∧ Offers (.readBank setupReq 0) sorting
    ∧ Offers (.readGrade setupReq 0 0) sorting ∧ Offers (.validate setupReq 0) sorting
    ∧ Offers (.activate setupReq 0) sorting
    ∧ sorting.banks.bank[(0 : Fin 4)].rules[0]? = some { backRule with bins := [0] }
    ∧ sorting.banks.bank[(0 : Fin 4)].rules.length ≤ 1
    ∧ validationOf sorting.geometry sorting.banks.bank[(0 : Fin 4)] = none
    ∧ validationOf sorting.geometry sorting.banks.bank[(3 : Fin 4)] = some .ruleCount
    ∧ sorting.banks.active = some 0 ∧ sorting.banks.active ≠ some 3 := by
  refine ⟨offers rfl (by decide) rfl (by decide), offers rfl (by decide) rfl (by decide),
    offers rfl (by decide) rfl (by decide),
    offers rfl (by decide) rfl (by decide), offers rfl (by decide) rfl (by decide), by decide, by decide,
    by decide, by decide,
    by decide, by decide⟩

/-- Bank 2 valid and bank 0 active, with bin 0 filling for bank 0. -/
def switching (l : Lift) : State :=
  { withBin 0 (.filling l) sorting with
    banks :=
      { sorting.banks with
        bank := vset sorting.banks.bank 2 { workedBank with state := .valid, rules := [{ backRule with bins := [0] }] } } }

theorem witness_ActivateSwitchesBanks :
    Offers (.activate setupReq 2) (switching openLift0) ∧ (switching openLift0).banks.active ≠ some 2
    ∧ validationOf (switching openLift0).geometry (switching openLift0).banks.bank[(2 : Fin 4)] = none
    ∧ ((switching openLift0).bin 0).state = .filling openLift0 ∧ openLift0.key.bank ≠ 2
    ∧ openLift0.inFlight ≠ 0
    ∧ ((switching idleLift0).bin 0).state = .filling idleLift0 ∧ idleLift0.inFlight = 0
    ∧ idleLift0.landed ≠ 0 ∧ ({ idleLift0 with landed := 0 } : Lift).landed = 0
    ∧ ({ openLift0 with key := ⟨2, 5, 1⟩ } : Lift).key.bank = 2
    ∧ (switching openLift0).banks.active = some 0 := by
  exact ⟨offers rfl (by decide) rfl (by decide), by decide, by decide, by decide, by decide, by decide, by decide,
    by decide, by decide, by decide, by decide, by decide⟩

theorem witness_ActiveContentsStayFixed :
    step sorting = .next (tick sorting) ∧ sorting.banks.active = some 0
    ∧ ∀ (pins : Pins) (rest : List Instr), sorting.pending ≠ .fullReset pins :: rest :=
  ⟨rfl, by decide, fun _ _ h => by cases h⟩

theorem witness_ActiveBankNamedKept : ActiveBankNamed sorting ∧ step sorting = .next (tick sorting) := by
  refine ⟨?_, rfl⟩
  unfold ActiveBankNamed; decide

theorem witness_ComputedValues :
    (∀ k, workedBank.weights.get k ≤ 255) ∧ 1 ≤ workedSheet.readings.length := by
  refine ⟨?_, by decide⟩
  intro k; cases k <;> decide

theorem witness_RedryTest :
    ({ workedBank with redryLimit := 70 } : Bank).redryLimit < moistureMaxOf workedSheet.readings
    ∧ moistureMaxOf workedSheet.readings ≤ workedBank.redryLimit
    ∧ thicknessClass workedBank.classes workedSheet.thickness = some 1
    ∧ thicknessClass Bank.empty.classes workedSheet.thickness = none
    ∧ ∃ m ∈ workedSheet.readings, 0 < m := by decide

theorem witness_GradeSearch :
    moistureMaxOf workedSheet.readings ≤ workedBank.redryLimit
    ∧ workedBank.classes[(1 : Fin 4)] = some ⟨2400, 2700⟩ ∧ 2400 ≤ workedSheet.thickness
    ∧ workedSheet.thickness ≤ 2700
    ∧ (∀ (i : Fin 4) (q : ClassRange), i < 1 → workedBank.classes[i] = some q →
        workedSheet.thickness < q.lo ∨ q.hi < workedSheet.thickness)
    ∧ workedBank.rules = [faceRule] ++ backRule :: []
    ∧ ¬(computedOf workedBank workedSheet).density ≤ faceRule.densityLimit
    ∧ rulePasses backRule .full 1 (computedOf workedBank workedSheet) workedSheet = true
    ∧ Bank.empty.classes[(0 : Fin 4)] = none := by
  refine ⟨by decide, by decide, by decide, by decide, ?_, by decide, by decide +kernel, by decide +kernel,
    by decide⟩
  intro i q hi e
  obtain rfl : i = 0 := by omega
  cases e; decide

theorem witness_SheetReportReadsBack :
    workedSheet.length < 65536 ∧ workedSheet.width < 65536 ∧ workedSheet.thickness < 65536
    ∧ 1 ≤ workedSheet.readings.length ∧ workedSheet.readings.length ≤ 8
    ∧ (∀ m ∈ workedSheet.readings, m < 65536) ∧ workedSheet.defects.length ≤ 32
    ∧ (∀ d ∈ workedSheet.defects, d.size < 65536) ∧ (0xFE : Byte).getLsbD 0 = workedSheet.partialFlag := by
  decide

/-- The payload of the worked sheet, and of a sheet longer than the tolerance allows. -/
def workedPayload : List Byte := reportBytes workedSheet 0
def longPayload : List Byte := reportBytes { workedSheet with length := 2631 } 0

/-- The worked sheet's states: still under the eye, and out of step. -/
def underEye : State := withQueue [{ waiting4 with eyeLen := none }] sorting
def outOfStep : State := { sorting with tracker := { sorting.tracker with mismatches := 3 } }

theorem witness_SheetReportRefused :
    OffersTaken (.sheetReport .scan 7 []) sorting ∧ OffersTaken (.sheetReport .scan 7 workedPayload) sorting
    ∧ OffersTaken (.sheetReport .scan 7 workedPayload) outOfStep
    ∧ OffersTaken (.sheetReport .scan 7 workedPayload) underEye
    ∧ OffersTaken (.sheetReport .scan 7 workedPayload) State.reset ∧ parseReport [] = none
    ∧ parseReport workedPayload ≠ none ∧ outOfStep.sync = .outOfStep
    ∧ sorting.sync ≠ .outOfStep ∧ oldestAwaiting sorting = none ∧ sorting.mode = .run ∧ sorting.tracker.mismatches < 2
    ∧ (oldestAwaiting underEye).map (fun e => e.eyeLen) = some none ∧ underEye.sync ≠ .outOfStep
    ∧ oldestAwaiting State.reset = none ∧ State.reset.sync ≠ .outOfStep ∧ State.reset.mode ≠ .run := by
  refine ⟨offersTaken rfl (by decide), offersTaken rfl (by decide), offersTaken rfl (by decide),
    offersTaken rfl (by decide), offersTaken rfl (by decide), ?_⟩
  decide +kernel

theorem witness_SheetReportMismatched :
    OffersTaken (.sheetReport .scan 7 longPayload) awaiting
    ∧ parseReport longPayload = some { workedSheet with length := 2631 } ∧ awaiting.sync ≠ .outOfStep
    ∧ oldestAwaiting awaiting = some waiting4 ∧ findEntry waiting4.id awaiting = some waiting4
    ∧ waiting4.eyeLen = some 2600 ∧ awaiting.banks.active = some 0
    ∧ 2600 + awaiting.geometry.lengthTolerance < 2631
    ∧ ({ workedSheet with length := 2569 } : SheetData).length + awaiting.geometry.lengthTolerance < 2600
    ∧ atBeltEnd waiting4 awaiting = false := by
  refine ⟨offersTaken rfl (by decide), ?_⟩
  decide +kernel

/-- The three routes of a bound report: the bin whose rule takes the worked sheet, the redry gate of a bank whose
redry limit it exceeds, and the belt end of a bank without a class. -/
def redrying : State :=
  { awaiting with
    banks := { awaiting.banks with bank := vset awaiting.banks.bank 0 { workedBank with redryLimit := 70 } }
    geometry := { awaiting.geometry with redryGate := some 5000 } }
def offGauge : State :=
  { awaiting with
    banks := { awaiting.banks with bank := vset awaiting.banks.bank 0 { workedBank with classes := Bank.empty.classes } } }

theorem witness_SheetReportBindsAndRoutes :
    (∀ s ∈ [awaiting, redrying, offGauge],
      OffersTaken (.sheetReport .scan 7 workedPayload) s ∧ s.sync ≠ .outOfStep ∧ oldestAwaiting s = some waiting4
      ∧ findEntry waiting4.id s = some waiting4 ∧ s.banks.active = some 0
      ∧ workedSheet.length ≤ 2600 + s.geometry.lengthTolerance
      ∧ 2600 ≤ workedSheet.length + s.geometry.lengthTolerance ∧ atBeltEnd waiting4 s = false)
    ∧ parseReport workedPayload = some workedSheet ∧ waiting4.eyeLen = some 2600
    ∧ (let v := fun s : State =>
        overPreset waiting4.verdict (evaluate s.banks.bank[(0 : Fin 4)] (clampReport workedSheet))
      planRoute awaiting (some 0) (v awaiting) (travelOf waiting4 awaiting) none = .bin 0 ⟨0, 2, 1⟩ 20
      ∧ awaiting.geometry.binPosition[(0 : Fin 16)] = some 4000
      ∧ planRoute redrying (some 0) (v redrying) (travelOf waiting4 redrying) none = .redryGate 5000
      ∧ planRoute offGauge (some 0) (v offGauge) (travelOf waiting4 offGauge) none
          = .beltEnd .offGauge (some ⟨343, 160, 46, 64, 71⟩)) := by
  refine ⟨?_, by decide +kernel⟩
  intro s h
  simp only [List.mem_cons, List.not_mem_nil, or_false] at h
  rcases h with rfl | rfl | rfl <;> exact ⟨offersTaken rfl (by decide), by decide +kernel⟩

theorem witness_ScanResync :
    Offers (.scanResync scanReq) outOfStep ∧ outOfStep.sync ≠ .inStep ∧ State.reset.tracker.mismatches = 0
    ∧ setupReq.port ≠ .scan ∧ OffersTaken (.scanResync setupReq) State.reset ∧ State.reset.sync = .inStep :=
  ⟨offers rfl (by decide) rfl (by decide), by decide, by decide, by decide, offersTaken rfl (by decide), by decide⟩

theorem witness_TravelPulseCounts :
    (∀ n : EntryId,
      decisionDue (beltAt 1 State.reset) n = false ∧ gateOpenDue (beltAt 1 State.reset) n = false
      ∧ redryOpenDue (beltAt 1 State.reset) n = false ∧ gateCloseDue (beltAt 1 State.reset) n = false
      ∧ windowEndDue (beltAt 1 State.reset) n = none ∧ redryCloseDue (beltAt 1 State.reset) n = false
      ∧ beltEndDue (beltAt 1 State.reset) n = false)
    ∧ ∀ b : BinNo, eyeStuckDue (beltAt 1 State.reset) b = false := by
  refine ⟨fun n => ⟨rfl, rfl, rfl, rfl, rfl, rfl, rfl⟩, by decide⟩

theorem witness_TravelMovesOnlyByPulses :
    step { State.reset with pending := [.travelPulse] } = exec .travelPulse State.reset
    ∧ step State.reset = .next (tick State.reset)
    ∧ (∀ rest, State.reset.pending ≠ .travelPulse :: rest)
    ∧ ∀ pins rest, State.reset.pending ≠ .fullReset pins :: rest :=
  ⟨rfl, rfl, (fun _ h => nomatch h), fun _ _ h => nomatch h⟩

/-- A tracking queue with every place taken, by sheets of their own. -/
def fullTrack : List Entry :=
  (List.range 48).map (fun i => { waiting4 with number := BitVec.ofNat 8 i, lead := BitVec.ofNat 32 (60 * i) })

theorem witness_EntryEyeEdges :
    State.reset.tracker.eye = .clear ∧ State.reset.mode ≠ .run
    ∧ running.tracker.eye = .clear ∧ running.mode = .run
    ∧ (withQueue (List.replicate 47 waiting4) running).tracker.queue.length < 48
    ∧ 48 ≤ (withQueue fullTrack running).tracker.queue.length
    ∧ (withQueue fullTrack running).tracker.eye = .clear ∧ (withQueue fullTrack running).mode = .run
    ∧ (let s : State := { withQueue [waiting4] running with
        tracker := { (withQueue [waiting4] running).tracker with eye := .blockedTracked } }
      s.tracker.eye ≠ .clear ∧ s.tracker.eye = .blockedTracked ∧ s.tracker.queue = [] ++ [waiting4])
    ∧ ({ running.tracker with eye := .blockedUntracked } : Tracker).eye = .blockedUntracked := by decide

theorem witness_DecisionPointAndBeltEnd :
    let at_ := fun (x : EntryState) (v : Verdict) (n : Travel) =>
      beltAt n (withQueue [{ waiting4 with state := x, verdict := some v }] sorting)
    let e := fun (x : EntryState) (v : Verdict) => ({ waiting4 with state := x, verdict := some v } : Entry)
    let v : Verdict := .reject .offGauge none
    findEntry ⟨4, 0⟩ (at_ .awaitReport v 1500) = some (e .awaitReport v)
    ∧ (at_ .awaitReport v 1500).geometry.decisionDistance
        ≤ travelOf (e .awaitReport v) (at_ .awaitReport v 1500)
    ∧ atBeltEnd (e .awaitReport v) (at_ .awaitReport v 1500) = false
    ∧ travelOf (e .awaitReport v) (at_ .awaitReport v 1499) < 1500
    ∧ (e .toReject v).state ≠ .awaitReport
    ∧ findEntry ⟨4, 0⟩ (at_ .toReject v 8000) = some (e .toReject v)
    ∧ (at_ .toReject v 8000).geometry.beltEnd = some 8000
    ∧ 8000 ≤ travelOf (e .toReject v) (at_ .toReject v 8000)
    ∧ travelOf (e .toReject v) (at_ .toReject v 7999) < 8000 := by decide +kernel

/-- The belt with one entry in a given state, at a position. -/
def oneEntry (x : EntryState) (n : Travel) (s : State) : State := beltAt n (withQueue [entry4 x] s)

theorem witness_GatePassages :
    findEntry ⟨4, 0⟩ (oneEntry (.routed 0 3900 4100) 3900 sorting) = some (entry4 (.routed 0 3900 4100))
    ∧ travelled 3900 (entry4 (.routed 0 3900 4100)).lead
        ≤ travelOf (entry4 (.routed 0 3900 4100)) (oneEntry (.routed 0 3900 4100) 3900 sorting)
    ∧ ((withBin 0 (.filling openLift0) sorting).bin 0).state.takesSheets = true
    ∧ travelOf (entry4 (.routed 0 3900 4100)) (oneEntry (.routed 0 3900 4100) 3899 sorting)
        < travelled 3900 0
    ∧ findEntry ⟨4, 0⟩ (oneEntry (.landing 0 3900 4100 false) 6700 sorting)
        = some (entry4 (.landing 0 3900 4100 false))
    ∧ (entry4 (.landing 0 3900 4100 false)).eyeLen = some 2600
    ∧ travelled 4100 0 + 2600
        ≤ travelOf (entry4 (.landing 0 3900 4100 false)) (oneEntry (.landing 0 3900 4100 false) 6700 sorting)
    ∧ findEntry ⟨4, 0⟩ (oneEntry (.toRedry 4900 5100 false) 4900 sorting)
        = some (entry4 (.toRedry 4900 5100 false))
    ∧ travelled 4900 0
        ≤ travelOf (entry4 (.toRedry 4900 5100 false)) (oneEntry (.toRedry 4900 5100 false) 4900 sorting)
    ∧ findEntry ⟨4, 0⟩ (oneEntry (.toRedry 4900 5100 true) 7700 sorting) = some (entry4 (.toRedry 4900 5100 true))
    ∧ travelled 5100 0 + 2600
        ≤ travelOf (entry4 (.toRedry 4900 5100 true)) (oneEntry (.toRedry 4900 5100 true) 7700 sorting)
    ∧ travelOf (entry4 (.toRedry 4900 5100 true)) (oneEntry (.toRedry 4900 5100 true) 7699 sorting)
        < travelled 5100 0 + 2600 := by decide +kernel

/-- Bin 0 filling with a suspicion count, and the sheet of entry 4 under its gate. -/
def landingAt (n : Travel) (suspicion : Nat) : State :=
  oneEntry (.landing 0 3900 4100 false) n
    (setBin 0 (fun x => { x with state := .filling openLift0, suspicion := suspicion }) sorting)

/-- Bin 0 with its landed eye blocked since position 0. -/
def stuckAt (n : Travel) (x : BinState) : State :=
  beltAt n (setBin 0 (fun y => { y with state := x, eyeMark := some 0 }) sorting)

theorem witness_WindowEndAndEyeStuck :
    findEntry ⟨4, 0⟩ (landingAt 4400 0) = some (entry4 (.landing 0 3900 4100 false))
    ∧ findEntry ⟨4, 0⟩ (landingAt 4400 2) = some (entry4 (.landing 0 3900 4100 false))
    ∧ (landingAt 4400 0).geometry.binPosition[(0 : Fin 16)] = some 4000 ∧ (landingAt 4400 0).mode = .run
    ∧ 4000 + (landingAt 4400 0).geometry.landingAllowance
        ≤ travelOf (entry4 (.landing 0 3900 4100 false)) (landingAt 4400 0)
    ∧ ((landingAt 4400 0).bin 0).state = .filling openLift0 ∧ ((landingAt 4400 0).bin 0).suspicion < 2
    ∧ ((landingAt 4400 2).bin 0).suspicion = 2
    ∧ travelOf (entry4 (.landing 0 3900 4100 false)) (landingAt 4399 0)
        < 4000 + (landingAt 4400 0).geometry.landingAllowance
    ∧ ((stuckAt 4000 .ready).bin 0).eyeMark = some 0 ∧ ((stuckAt 4000 .ready).bin 0).state ≠ .offline
    ∧ ((stuckAt 4000 .ready).bin 0).state.tag = .ready
    ∧ (stuckAt 4000 .ready).geometry.eyeStuck ≤ travelled (stuckAt 4000 .ready).tracker.travel 0
    ∧ (stuckAt 4000 .ready).mode ≠ .drain
    ∧ ((stuckAt 4000 .offline).bin 0).state = .offline
    ∧ travelled (stuckAt 3999 .ready).tracker.travel 0 < (stuckAt 3999 .ready).geometry.eyeStuck := by
  decide +kernel

theorem witness_GatesUpToDateKept :
    GatesUpToDate State.reset ∧ step State.reset = .next (tick State.reset) := by
  refine ⟨⟨by decide, by decide⟩, rfl⟩

/-- A state with a lift in bin 0, with the eye clear and with one sheet of entry 4 under the gate. -/
def underGate (x : BinState) (suspicion : Nat) : State :=
  oneEntry (.landing 0 3900 4100 false) 4000
    (setBin 0 (fun y => { y with state := x, suspicion := suspicion }) sorting)

/-- The outfeed free of every bin and slot: consistent with every bin that is neither FULL_WAIT nor EJECTING. -/
theorem reset_outfeed_consistent : OutfeedConsistent State.reset where
  waiting := by decide
  once := by decide
  busyBin := by
    intro b
    have h : (State.reset.bin b).state.isEjecting = false := by revert b; decide
    exact ⟨(fun e => absurd e (by rw [h]; decide)), (fun e => e.elim (fun n e => nomatch e))⟩
  busySlot := by
    intro b n
    have h : State.reset.slots[n].state = .offline := by revert n; decide
    exact ⟨(fun e => by rw [h] at e; cases e), (fun e => nomatch e)⟩
  started := by decide

theorem reset_gates_up_to_date : GatesUpToDate State.reset := ⟨by decide, by decide⟩

theorem witness_LandedEyeEdges :
    ((stuckAt 4000 .ready).bin 0).eyeMark ≠ none
    ∧ (State.reset.bin 0).eyeMark = none ∧ GatesUpToDate State.reset ∧ OutfeedConsistent State.reset
    ∧ State.reset.mode = .idle
    ∧ (let s := underGate (.filling openLift0) 1
      (s.bin 0).eyeMark = none ∧ s.mode = .run ∧ (s.bin 0).state = .filling openLift0
      ∧ oldestLanding 0 s = some (entry4 (.landing 0 3900 4100 false))
      ∧ (entry4 (.landing 0 3900 4100 false)).verdict.bind Verdict.values = some someValues)
    ∧ (let s := underGate (.drainClose .full openLift0) 0
      (s.bin 0).state = .drainClose .full openLift0 ∧ openLift0.inFlight = 1
      ∧ oldestLanding 0 s = some (entry4 (.landing 0 3900 4100 false)))
    ∧ (let s := withQueue [] (underGate (.filling openLift0) 1)
      (s.bin 0).state.takesSheets = true ∧ oldestLanding 0 s = none ∧ (s.bin 0).suspicion < 2)
    ∧ ((underGate .ready 2).bin 0).state = .ready ∧ ((underGate .ready 2).bin 0).suspicion = 2 :=
  ⟨by decide, by decide, reset_gates_up_to_date, reset_outfeed_consistent, by decide, by decide, by decide,
    by decide, by decide, by decide⟩

/-- In RUN with every bin and slot still offline, the reset state's outfeed and gates stand as they should. -/
theorem witness_LandedEyeEdges_run :
    GatesUpToDate running ∧ OutfeedConsistent running ∧ running.mode = .run
    ∧ (running.bin 0).state = .offline ∧ (running.bin 0).eyeMark = none :=
  ⟨⟨by decide, by decide⟩,
    { waiting := reset_outfeed_consistent.waiting
      once := reset_outfeed_consistent.once
      busyBin := reset_outfeed_consistent.busyBin
      busySlot := reset_outfeed_consistent.busySlot
      started := reset_outfeed_consistent.started },
    by decide, by decide, by decide⟩

theorem witness_ClearBinRecovers :
    (∀ x ∈ [BinState.ready, .faulted .landing none, .faulted .landing (some openLift0),
        .faulted .landing (some { openLift0 with landed := 0 }), .faulted .ejectTimeout (some closedLift0)],
      Offers (.clearBin setupReq 15) (withBin 15 x sorting) ∧ ((withBin 15 x sorting).bin 15).state = x
      ∧ ((withBin 15 x sorting).bin 15).eyeMark = none)
    ∧ BinState.ready.tag = .ready
    ∧ ((stuckAt 4000 (.faulted .eyeStuck none)).bin 0).eyeMark ≠ none
    ∧ openLift0.state = .opened ∧ openLift0.landed ≠ 0 ∧ closedLift0.state ≠ .opened ∧ 16 ≤ 16 := by
  refine ⟨?_, by decide, by decide, by decide, by decide, by decide, by decide⟩
  intro x _
  exact ⟨offers rfl (by decide) rfl rfl, by simp [withBin, setBin, State.bin, vset],
    by simp [withBin, setBin, State.bin, vset]; decide⟩

theorem witness_BinServiceRequests :
    Offers (.binOnline setupReq 0) (withBin 0 .offline sorting)
    ∧ ((withBin 0 .offline sorting).bin 0).state = .offline
    ∧ (withBin 0 .offline sorting).geometry.binPosition[(0 : Fin 16)] ≠ none
    ∧ ((withBin 0 .offline sorting).bin 0).eyeMark = none
    ∧ (State.reset.geometry.binPosition[(15 : Fin 16)]) = none
    ∧ ((stuckAt 4000 .offline).bin 0).eyeMark ≠ none
    ∧ Offers (.binOffline setupReq 0) sorting ∧ (sorting.bin 0).state = .ready
    ∧ ((withBin 0 (.faulted .landing (some openLift0)) sorting).bin 0).state
        = .faulted .landing (some openLift0)
    ∧ Offers (.closeBin setupReq 0) (withBin 0 (.filling openLift0) sorting)
    ∧ (∀ l ∈ [openLift0, idleLift0, { idleLift0 with landed := 0 }],
        ((withBin 0 (.filling l) sorting).bin 0).state = .filling l)
    ∧ openLift0.inFlight ≠ 0 ∧ idleLift0.inFlight = 0 ∧ idleLift0.landed ≠ 0 :=
  ⟨offers rfl (by decide) rfl (by decide), by decide, by decide, by decide, by decide, by decide,
    offers rfl (by decide) rfl (by decide), by decide, by decide, offers rfl (by decide) rfl (by decide),
    by decide, by decide,
    by decide, by decide⟩

/-- Line 0 may force, and bins 0 and 1 fill for code 2 of the active bank, bin 0 with more landed. -/
def forcing (l m : Lift) : State :=
  let s := withBin 1 (.filling m) (withBin 0 (.filling l) sorting)
  { s with arbiter := { s.arbiter with settings := vset s.arbiter.settings 0 ⟨.all, true, 0⟩ } }

/-- Two lifts of code 2, class 1. -/
def codeTwo (landed inFlight : Nat) : Lift := { newLift 1 ⟨0, 2, 1⟩ 0 20 with landed := landed, inFlight := inFlight }

theorem witness_ForceCloseChoosesAndCloses :
    OffersLine lineReq 0 (.forceClose lineReq 2 (some 1)) sorting
    ∧ OffersLine lineReq 0 (.forceClose lineReq 0 none) (forcing (codeTwo 3 1) (codeTwo 3 0))
    ∧ sorting.arbiter.settings[(0 : Fin 4)].force = false
    ∧ OffersLine lineReq 0 (.forceClose lineReq 2 (some 1)) (forcing (codeTwo 3 1) (codeTwo 3 0))
    ∧ (forcing (codeTwo 3 1) (codeTwo 3 0)).arbiter.settings[(0 : Fin 4)].force = true
    ∧ (let s := forcing (codeTwo 3 1) (codeTwo 3 0)
      let candidate := fun (b : BinNo) (l : Lift) =>
        ∃ k g, s.banks.active = some k ∧ ruleIn s k 2 = some g
          ∧ (s.bin b).state = .filling l ∧ l.key.bank = k ∧ l.key.code = 2
          ∧ (∀ c, (some 1 : Option Nat) = some c → l.key.cls = c) ∧ g.shortMin ≤ l.landed
      candidate 0 (codeTwo 3 1)
      ∧ ∀ c m, candidate c m → m.landed < 3 ∨ m.landed = 3 ∧ 0 ≤ c)
    ∧ (codeTwo 3 1).inFlight ≠ 0 ∧ (codeTwo 3 0).inFlight = 0 ∧ (codeTwo 3 0).landed ≠ 0
    ∧ (∀ b l, (sorting.bin b).state ≠ .filling l) := by
  refine ⟨offersLine rfl rfl rfl (by decide), offersLine rfl rfl rfl (by decide), by decide,
    offersLine rfl rfl rfl (by decide), by decide, ⟨?_, ?_⟩, by decide, by decide,
    by decide, ?_⟩
  · exact ⟨0, { backRule with bins := [0] }, by decide, by decide, by decide, rfl, rfl,
      (fun c h => by cases h; rfl), by decide⟩
  · rintro c m ⟨k, g, -, -, hm, -⟩
    have : ∀ c : BinNo, ∀ m, ((forcing (codeTwo 3 1) (codeTwo 3 0)).bin c).state = .filling m → m.landed = 3 := by
      have h : ∀ c : BinNo, ((forcing (codeTwo 3 1) (codeTwo 3 0)).bin c).state.lift?.map (fun l => l.landed)
          = some 3 ∨ ((forcing (codeTwo 3 1) (codeTwo 3 0)).bin c).state = .offline := by decide
      intro c m e
      rcases h c with h | h
      · rw [e] at h; exact Option.some.inj h
      · rw [e] at h; cases h
    exact .inr ⟨this c m hm, Nat.zero_le _⟩
  · intro b l
    have h : ∀ b : BinNo, (sorting.bin b).state = .ready ∨ (sorting.bin b).state = .offline := by decide
    rcases h b with h | h <;> rw [h] <;> intro e <;> cases e

theorem witness_DrainCompletes :
    ((withBin 0 (.drainClose .short { idleLift0 with landed := 0 }) sorting).bin 0).state
      = .drainClose .short { idleLift0 with landed := 0 }
    ∧ ((withBin 0 (.drainClose .short idleLift0) sorting).bin 0).state = .drainClose .short idleLift0
    ∧ idleLift0.inFlight = 0 ∧ idleLift0.landed ≠ 0
    ∧ (∀ why l, (State.reset.bin 0).state = .drainClose why l → l.inFlight ≠ 0)
    ∧ GatesUpToDate State.reset ∧ OutfeedConsistent State.reset :=
  ⟨by decide, by decide, by decide, by decide, (fun _ _ h => nomatch h), reset_gates_up_to_date,
    reset_outfeed_consistent⟩

/-- A lift in bin 0, another in slot 2. -/
def twoLifts : State := withSlot 2 (.holding { storedLift0 with id := 2 }) true (withBin 0 (.filling openLift0) sorting)

theorem witness_LiftIdsStayDistinct :
    LiftIdsDistinct twoLifts ∧ step twoLifts = .next (tick twoLifts) := by
  have hb : ∀ b : BinNo, binLiftId twoLifts b = if b = 0 then some 1 else none := by decide
  have hs : ∀ n : SlotNo, slotLiftId twoLifts n = if n = 2 then some 2 else none := by decide
  refine ⟨⟨?_, ?_, ?_⟩, rfl⟩
  · intro b c i h k
    rw [hb] at h k
    split at h <;> split at k <;> simp_all
  · intro m n i h k
    rw [hs] at h k
    split at h <;> split at k <;> simp_all
  · intro b n i h k
    rw [hb] at h
    rw [hs] at k
    split at h <;> split at k <;> simp_all
    omega

/-- A FULL_WAIT bin at the head of the queue, with slot 2 EMPTY. -/
def ejectable : State := withSlot 2 .empty false (waitForOutfeed 3 closedLift0 State.reset)

theorem witness_EjectionStarts :
    ejectable.outfeed.state = .free ∧ ejectable.outfeed.queue = 3 :: []
    ∧ (ejectable.bin 3).state = .fullWait closedLift0 ∧ ejectable.slots[(2 : Fin 24)].state = .empty
    ∧ (∀ m : SlotNo, m < 2 → ejectable.slots[m].state ≠ .empty)
    ∧ State.reset.outfeed.queue = [] := by decide

/-- An ejection of bin 3 into slot 2 in progress. -/
def ejecting : State :=
  let s := withSlot 2 (.reserved 3) false (withBin 3 (.ejecting ejectingLift0) State.reset)
  { s with outfeed := { s.outfeed with state := .busy 3 2, timer := some 1 } }

theorem witness_SlotEyeEdges :
    (withSlot 23 .offline true State.reset).slots[(23 : Fin 24)].eye = true
    ∧ State.reset.slots[(23 : Fin 24)].eye = false ∧ State.reset.slots[(23 : Fin 24)].state = .offline
    ∧ (withSlot 0 .empty false State.reset).slots[(0 : Fin 24)].state = .empty
    ∧ ejecting.slots[(2 : Fin 24)].eye = false ∧ ejecting.slots[(2 : Fin 24)].state = .reserved 3
    ∧ (ejecting.bin 3).state = .ejecting ejectingLift0
    ∧ (∀ l, (withSlot 23 .offline true State.reset).slots[(23 : Fin 24)].state ≠ .holding l)
    ∧ (withSlot 2 (.holding storedLift0) true State.reset).slots[(2 : Fin 24)].state = .holding storedLift0
    ∧ storedLift0.state = .stored ∧ assignedLift0.state = .assigned
    ∧ assignedLift0.pull = some assignedPull.number
    ∧ (withPulls [assignedPull] State.reset).arbiter.pulls.find? (fun q => q.number == assignedPull.number)
        = some assignedPull := by
  refine ⟨by decide, by decide, by decide, by decide, by decide, by decide, by decide, ?_, by decide, by decide,
    by decide, by decide, by decide⟩
  intro l h
  have : (withSlot 23 .offline true State.reset).slots[(23 : Fin 24)].state = .offline := by decide
  rw [this] at h; cases h

theorem witness_EjectTimeoutAndClearOutfeed :
    ejecting.outfeed.state = .busy 3 2 ∧ (ejecting.bin 3).state = .ejecting ejectingLift0
    ∧ ejecting.pending = [] ∧ ejecting.outfeed.timer = some 1 ∧ ejecting.mode ≠ .drain
    ∧ (∀ b n, State.reset.outfeed.state ≠ .busy b n)
    ∧ Offers (.clearOutfeed setupReq) State.reset ∧ State.reset.outfeed.state ≠ .blocked
    ∧ (let s : State := { ejectable with outfeed := { ejectable.outfeed with state := .blocked } }
      Offers (.clearOutfeed setupReq) s ∧ s.outfeed.state = .blocked) :=
  ⟨by decide, by decide, by decide, by decide, by decide, (fun _ _ h => nomatch h),
    offers rfl (by decide) rfl (by decide), by decide, offers rfl (by decide) rfl (by decide), by decide⟩

theorem witness_SlotServiceRequests :
    Offers (.slotOnline setupReq 23) State.reset ∧ Offers (.slotOffline setupReq 0) State.reset
    ∧ Offers (.clearSlot setupReq 0) State.reset
    ∧ State.reset.slots[(23 : Fin 24)].state = .offline ∧ State.reset.slots[(23 : Fin 24)].eye = false
    ∧ (withSlot 23 .offline true State.reset).slots[(23 : Fin 24)].eye = true
    ∧ (∀ x ∈ [true, false], (withSlot 0 .faulted x State.reset).slots[(0 : Fin 24)] = ⟨.faulted, x⟩)
    ∧ (withSlot 0 .empty false State.reset).slots[(0 : Fin 24)].state = .empty ∧ 24 ≤ 24 :=
  ⟨offers rfl (by decide) rfl (by decide), offers rfl (by decide) rfl (by decide),
    offers rfl (by decide) rfl (by decide), by decide,
    by decide, by decide, by decide, by decide, by decide⟩

theorem witness_OutfeedStaysConsistent :
    OutfeedConsistent State.reset ∧ step State.reset = .next (tick State.reset) :=
  ⟨reset_outfeed_consistent, rfl⟩

theorem witness_ParameterWrites :
    (∀ n, Offers (.writeEjectTimeout setupReq n) State.reset ∧ Offers (.writePassLimit setupReq n) State.reset
      ∧ Offers (.writeHandoverTimeout setupReq n) State.reset)
    ∧ (∀ line access force rank, Offers (.writeLine setupReq line access force rank) State.reset)
    ∧ (∀ mask, Offers (.writeEventMask setupReq mask) State.reset)
    ∧ 5 ≤ 5 ∧ 120 ≤ 120 ∧ 15 ≤ 15 ∧ 600 ≤ 600 ∧ (3 : Nat) ≤ 3
    ∧ (∀ l, AccessSet.codes [1, 250] = .codes l → 1 ≤ l.length ∧ l.length ≤ 8 ∧ l.Nodup ∧ ∀ c ∈ l, 1 ≤ c ∧ c ≤ 250)
    ∧ ¬([1, 1] : List Nat).Nodup := by
  refine ⟨fun n => ⟨offers rfl (by decide) rfl (by decide), offers rfl (by decide) rfl (by decide),
      offers rfl (by decide) rfl (by decide)⟩, fun _ _ _ _ => offers rfl (by decide) rfl (by decide),
    fun _ => offers rfl (by decide) rfl (by decide), by decide, by decide, by decide, by decide, by decide, ?_,
    by decide⟩
  · intro l h; cases h; decide

/-- Slot 2 holds a STORED lift of code 5, class 1, bank 0. -/
def storing : State := withSlot 2 (.holding storedLift0) true State.reset

/-- Line 0 with its four pulls. -/
def fullLine : State := withPulls (List.replicate 4 waitingPull) storing

/-- Line 0 admits the codes of a list alone. -/
def onlyCodes (l : List Nat) : State :=
  { storing with arbiter := { storing.arbiter with settings := vset storing.arbiter.settings 0 ⟨.codes l, false, 0⟩ } }

theorem witness_PullCreates :
    (∀ nowait, OffersLine lineReq 0 (.pull lineReq 5 none none nowait) storing)
    ∧ OffersLine lineReq 0 (.pull lineReq 251 none none false) storing
    ∧ OffersLine lineReq 0 (.pull lineReq 5 none none false) fullLine
    ∧ OffersLine lineReq 0 (.pull lineReq 5 none none false) (onlyCodes [6])
    ∧ OffersLine lineReq 0 (.pull lineReq 5 none none true) State.reset
    ∧ storing.arbiter.settings[(0 : Fin 4)].access = .all
    ∧ (onlyCodes [6]).arbiter.settings[(0 : Fin 4)].access = .codes [6] ∧ 5 ∉ [6]
    ∧ 4 ≤ (fullLine.arbiter.pulls.filter (fun p => p.line == 0)).length
    ∧ (storing.arbiter.pulls.filter (fun p => p.line == 0)).length < 4
    ∧ storing.slots[(2 : Fin 24)].state = .holding storedLift0 ∧ storedLift0.state = .stored
    ∧ storedLift0.key.code = 5 ∧ storedLift0.key.cls = 1 ∧ storedLift0.key.bank.val = 0
    ∧ (∀ n : SlotNo, ∀ l, State.reset.slots[n].state ≠ .holding l) := by
  refine ⟨fun nowait => offersLine rfl rfl rfl (by decide), offersLine rfl rfl rfl (by decide),
    offersLine rfl rfl rfl (by decide), offersLine rfl rfl rfl (by decide), offersLine rfl rfl rfl (by decide),
    by decide, by decide, by decide, by decide, by decide,
    by decide, by decide, by decide, by decide, by decide, ?_⟩
  intro n l
  have h : ∀ n : SlotNo, State.reset.slots[n].state = .offline := by decide
  rw [h n]; intro e; cases e

/-- Pull 9 of line 0 assigned to the lift in slot 2. -/
def handedOver : State := withPulls [assignedPull] (withSlot 2 (.holding assignedLift0) true State.reset)

theorem witness_ReleaseAndHandoverExpiry :
    OffersLine lineReq 0 (.release lineReq 9) handedOver
    ∧ OffersLine lineReq 0 (.release lineReq 0) State.reset ∧ OffersLine lineReq 0 (.release lineReq 65535) State.reset
    ∧ OffersLine lineReq 0 (.release lineReq 9) (withPulls [waitingPull] State.reset)
    ∧ ownPull handedOver 0 9 = some assignedPull ∧ assignedPull.state = .assigned 1 120000
    ∧ slotOfPull handedOver 9 = some (2, assignedLift0)
    ∧ ownPull (withPulls [waitingPull] State.reset) 0 9 = some waitingPull ∧ waitingPull.state = .waiting
    ∧ ownPull State.reset 0 65535 = none ∧ 65535 ∉ State.reset.arbiter.expired[(0 : Fin 4)]
    ∧ (let s := setArbiter (fun a => { a with expired := vset a.expired 0 [65535] }) State.reset
      ownPull s 0 65535 = none ∧ 65535 ∈ s.arbiter.expired[(0 : Fin 4)])
    ∧ handoverOf handedOver 0 = some (assignedPull, 2, assignedLift0)
    ∧ handoverOf State.reset 0 = none :=
  ⟨offersLine rfl rfl rfl (by decide), offersLine rfl rfl rfl (by decide), offersLine rfl rfl rfl (by decide),
    offersLine rfl rfl rfl (by decide), by decide, by decide, by decide, by decide, by decide, by decide, by decide,
    by decide, by decide, by decide⟩

theorem witness_CancelWithdrawsWaitingPull :
    OffersTaken (.cancel scanReq 9) State.reset ∧ (∀ i, scanReq.port ≠ .line i)
    ∧ (∀ s ∈ [State.reset, handedOver, withPulls [waitingPull] State.reset], OffersTaken (.cancel lineReq 9) s)
    ∧ OffersTaken (.cancel lineReq 0) State.reset ∧ lineReq.port = .line 0 ∧ lineReq.formed = true
    ∧ (let own := fun s : State => s.arbiter.pulls.find? (fun p => p.number == 9 && p.line == 0)
      own (withPulls [waitingPull] State.reset) = some waitingPull ∧ waitingPull.state = .waiting
      ∧ own handedOver = some assignedPull ∧ assignedPull.state = .assigned 1 120000
      ∧ own State.reset = none) := by
  refine ⟨offersTaken rfl (by decide), (fun _ h => nomatch h), ?_, offersTaken rfl (by decide), rfl, rfl, by decide⟩
  intro s h
  simp only [List.mem_cons, List.not_mem_nil, or_false] at h
  rcases h with rfl | rfl | rfl <;> exact offersTaken rfl (by decide)

theorem witness_NoCandidateStaysUnmatched :
    NoCandidateLeft (withPulls [{ waitingPull with code := 6 }] storing)
    ∧ storing.slots[(2 : Fin 24)].stored? = some storedLift0
    ∧ step (withPulls [{ waitingPull with code := 6 }] storing)
        = .next (tick (withPulls [{ waitingPull with code := 6 }] storing)) := by
  refine ⟨?_, by decide, rfl⟩
  intro n l h p hp
  have hs : ∀ n : SlotNo, (withPulls [{ waitingPull with code := 6 }] storing).slots[n].stored?
      = if n = 2 then some storedLift0 else none := by decide
  rw [hs] at h
  split at h
  · cases h
    cases List.mem_singleton.mp hp
    decide
  · cases h

theorem witness_StartAndDrain :
    Offers (.start setupReq) { sorting with mode := .idle } ∧ sorting.banks.active ≠ none
    ∧ sorting.geometry.beltEnd ≠ none
    ∧ Offers (.start setupReq) State.reset ∧ State.reset.banks.active = none ∧ State.reset.mode = .idle
    ∧ Offers (.drain setupReq) sorting ∧ sorting.mode = .run ∧ sorting.tracker.queue = []
    ∧ ((withBin 0 (.filling idleLift0) sorting).bin 0).state = .filling idleLift0 ∧ idleLift0.inFlight = 0
    ∧ (withQueue [waiting4] running).tracker.queue ≠ []
    ∧ GatesUpToDate (withQueue [waiting4] running) ∧ OutfeedConsistent (withQueue [waiting4] running)
    ∧ (withQueue [waiting4] running).mode = .run ∧ Offers (.drain setupReq) (withQueue [waiting4] running)
    ∧ ({ sorting with mode := .drain } : State).mode = .drain :=
  ⟨offers rfl (by decide) rfl (by decide), by decide, by decide, offers rfl (by decide) rfl (by decide), by decide,
    by decide,
    offers rfl (by decide) rfl (by decide), by decide, by decide, by decide, by decide, by decide,
    ⟨by decide, by decide⟩,
    { waiting := reset_outfeed_consistent.waiting
      once := reset_outfeed_consistent.once
      busyBin := reset_outfeed_consistent.busyBin
      busySlot := reset_outfeed_consistent.busySlot
      started := reset_outfeed_consistent.started },
    by decide, offers rfl (by decide) rfl (by decide), by decide⟩

theorem witness_StopAndRestart :
    Offers (.stop setupReq) State.reset ∧ State.reset.mode = .idle
    ∧ Offers (.stop setupReq) awaiting ∧ awaiting.mode ≠ .idle
    ∧ Offers (.restart setupReq) handedOver ∧ handedOver.slots[(2 : Fin 24)].state = .holding assignedLift0
    ∧ (∀ x ∈ [BinState.filling openLift0, .drainClose .full openLift0,
          .drainClose .full { openLift0 with landed := 0 }],
        ((withBin 0 x awaiting).bin 0).state = x)
    ∧ openLift0.landed ≠ 0 :=
  ⟨offers rfl (by decide) rfl (by decide), by decide, offers rfl (by decide) rfl (by decide), by decide,
    offers rfl (by decide) rfl (by decide), by decide, by decide, by decide⟩

/-- START in IDLE with a bank active and the belt end set makes the mode RUN. -/
theorem witness_RunOnlyByStart :
    let c := Instr.start setupReq
    let s : State := { offering c { sorting with mode := .idle } with pending := [c] }
    s.mode ≠ .run ∧ ∃ t, step s = .next t ∧ t.mode = .run := by
  have h : CanServe setupReq .start (.start setupReq) (offering (.start setupReq) { sorting with mode := .idle }) :=
    canServe_offering rfl (by decide) rfl (by decide)
  refine ⟨by decide, _, rfl, ?_⟩
  have e : CanServe setupReq .start (.start setupReq)
      { offering (.start setupReq) { sorting with mode := .idle } with pending := [] } :=
    ⟨⟨h.place, h.waits⟩, h.right, h.formed⟩
  simp only [serve_admitted e]
  decide

theorem witness_TallyReadAndClear :
    Offers (.tallyRead setupReq none) sorting ∧ Offers (.tallyClear setupReq) sorting
    ∧ sorting.banks.active = some 0 ∧ 4 ≤ 4 :=
  ⟨offers rfl (by decide) rfl (by decide), offers rfl (by decide) rfl (by decide), by decide, by decide⟩

/-- Nine events in the list. -/
def nineEvents : State := { State.reset with events := { State.reset.events with list := List.replicate 9 .trackFull } }

theorem witness_EventRead :
    Offers (.eventRead setupReq 8) nineEvents
    ∧ nineEvents.events.list = List.replicate 8 .trackFull ++ [.trackFull]
    ∧ (List.replicate 8 Event.trackFull).length = min 8 nineEvents.events.list.length
    ∧ State.reset.events.list = [] ++ [] ∧ ([] : List Event).length = min 1 State.reset.events.list.length :=
  ⟨offers rfl (by decide) rfl (by decide), by decide, by decide, by decide, by decide⟩

theorem witness_GeometryWrites :
    Offers (.writeGeometry setupReq .beltEnd (some 4001)) sorting
    ∧ (∀ x ∈ [(GeomParam.gateLead, some 501), (.beltEnd, none), (.binPosition 16, some 1000),
          (.decisionDistance, some 499)], ¬GeomWriteFormed x.1 x.2)
    ∧ GeomWriteFormed (.binPosition 0) (some 40000) ∧ (sorting.bin 0).state ≠ .offline
    ∧ GeomWriteFormed (.binPosition 1) (some 1000)
    ∧ (∀ b : BinNo, GeomParam.binPosition 1 = .binPosition b.val → (sorting.bin b).state = .offline)
    ∧ ConflictNamed (sorting.geometry.put (.binPosition 1) (some 1000)) (.bin .binBeyondDecision 1) (.binPosition 1)
    ∧ GeomWriteFormed .beltEnd (some 4001) ∧ GeomWriteFormed .beltEnd (some 4000)
    ∧ (∀ c, ¬ConflictNamed (sorting.geometry.put .beltEnd (some 4001)) c .beltEnd)
    ∧ ConflictNamed (sorting.geometry.put .beltEnd (some 4000)) (.bin .binBeforeBeltEnd 0) .beltEnd
    ∧ ConflictNamed (sorting.geometry.put .redryGate (some 8000)) (.redryGate .redryBeforeBeltEnd) .redryGate
    ∧ ConflictNamed (sorting.geometry.put .decisionDistance (some 3900)) (.bin .binBeyondDecision 0)
        .decisionDistance := by
  refine ⟨offers rfl (by decide) rfl (by decide), ?_⟩
  simp only [← geomFormed_iff, ← geomConflict_iff]
  refine ⟨by decide, by decide, by decide, by decide, ?_, by decide, by decide, by decide, ?_, by decide, by decide,
    by decide⟩
  · intro b h
    obtain rfl : b = 1 := Fin.ext (GeomParam.binPosition.inj h).symm
    decide
  · intro c h
    rw [show geomConflict (sorting.geometry.put .beltEnd (some 4001)) .beltEnd = none by decide] at h
    cases h

theorem witness_GeometryStaysConsistent :
    GeometryConsistent sorting.geometry ∧ GeometryInRange sorting.geometry
    ∧ step sorting = .next (tick sorting) := by
  have hp : ∀ b : BinNo, sorting.geometry.binPosition[b] = if b = 0 then some 4000 else none := by decide
  refine ⟨⟨?_, ?_, ?_⟩, ⟨by decide, by decide, by decide, by decide, by decide, by decide, by decide, ?_, ?_, ?_⟩, rfl⟩
  · intro b p h; rw [hp] at h; split at h <;> cases h; decide
  · intro b p e h k; rw [hp] at h; split at h <;> cases h; cases k; decide
  · intro p e h; cases h
  · intro b p h; rw [hp] at h; split at h <;> cases h; decide
  · intro p h; cases h
  · intro e h; cases h; decide

theorem witness_LimitsAreKept :
    BeltLimits State.reset ∧ ReportingLimits State.reset ∧ RecipeAndPullLimits State.reset
    ∧ TallyLimits State.reset ∧ step State.reset = .next (tick State.reset) :=
  ⟨⟨by decide, by decide, by decide⟩, ⟨by decide, by decide, by decide⟩, ⟨by decide, by decide, by decide⟩,
    ⟨by decide +kernel, by decide, by decide, by decide, by decide, by decide, by decide, by decide, by decide⟩,
    rfl⟩

/-! ### The hypotheses of the search, the lost bin, the close orders and the matching pass -/

/-- Bank 0 with a rule of code 2 over bins 1 and 0 that spills to a rule of code 3 over bin 2; bin 1 READY and
suspect, bins 0 and 2 in given states. -/
def choosing (x y : BinState) : State :=
  let s := setBin 1 (fun b => { b with state := .ready, suspicion := 1 }) (withBin 0 x (withBin 2 y awaiting))
  { s with
    banks :=
      { s.banks with
        bank :=
          vset s.banks.bank 0
            { workedBank with
              rules :=
                [{ backRule with bins := [1, 0], spill := some 3 }, { backRule with code := 3, bins := [2] }] } }
    geometry :=
      { s.geometry with
        binPosition := vset (vset s.geometry.binPosition 1 (some 3000)) 2 (some 5000) } }

/-- Code 2's rule in `choosing`, and code 3's. -/
def spillingRule : GradeRule := { backRule with bins := [1, 0], spill := some 3 }
def spillRule : GradeRule := { backRule with code := 3, bins := [2] }

theorem witness_BinSearch :
    ruleIn (choosing .ready .ready) 0 2 = some spillingRule
    ∧ binsOf spillingRule = [1, 0] ∧ binsOf spillRule = [2]
    ∧ FirstMet (choosing .ready .ready) ⟨0, 2, 1⟩ 1400 none [1, 0] 0
    ∧ (∀ d ∈ [(1 : BinNo), 0], ¬CanTakeSheet (choosing .ready .ready) ⟨0, 2, 1⟩ 3950 none d)
    ∧ spillingRule.spill = some 3 ∧ ruleIn (choosing .ready .ready) 0 3 = some spillRule
    ∧ FirstMet (choosing .ready .ready) ⟨0, 3, 1⟩ 3950 none [2] 2
    ∧ ¬CanTakeSheet (choosing .ready .ready) ⟨0, 3, 1⟩ 4900 none 2
    ∧ ruleIn (choosing .ready .ready) 0 9 = none
    ∧ redrying.geometry.redryGate = some 5000 ∧ 1400 < 5000 - redrying.geometry.gateLead
    ∧ 5000 - redrying.geometry.gateLead ≤ 4900 := by
  simp only [canTakeSheet_iff]
  refine ⟨by decide, by decide, by decide, ⟨?_, [1], [], rfl, ?_, ?_⟩, by decide, by decide, by decide,
    ⟨?_, [], [], rfl, ?_, ?_⟩, by decide, by decide, by decide, by decide, by decide⟩ <;>
  simp only [canTakeSheet_iff, passOf] <;> decide +revert

/-- A landing window that ends, in DRAIN, of the last entry; and of one of two sheets in flight. -/
theorem witness_WindowEnd_drain :
    (let s : State := { landingAt 4400 1 with mode := .drain };
      s.mode = .drain ∧ findEntry ⟨4, 0⟩ s = some (entry4 (.landing 0 3900 4100 false))
      ∧ s.tracker.queue.eraseP (fun y => y.id == ⟨4, 0⟩) = [] ∧ (s.bin 0).suspicion < 2)
    ∧ (∀ l ∈ [{ openLift0 with inFlight := 2 }, openLift0, { openLift0 with landed := 0 }],
        ((withBin 0 (.drainClose .full l) (landingAt 4400 1)).bin 0).state = .drainClose .full l)
    ∧ ({ openLift0 with inFlight := 2 } : Lift).inFlight = 2 ∧ openLift0.inFlight = 1 ∧ openLift0.landed ≠ 0 := by
  decide

/-- Bin 0 with three sheets in flight: one that is missed, one ROUTED and one LANDING, and bin 1 READY. -/
def losing (m : SortMode) : State :=
  let s := landingAt 4400 2
  { setBin 1 (fun b => { b with state := .ready }) s with
    mode := m
    geometry := { s.geometry with binPosition := vset s.geometry.binPosition 1 (some 7000) }
    banks :=
      { s.banks with
        bank := vset s.banks.bank 0 { workedBank with rules := [{ backRule with code := 5, bins := [0, 1] }] } }
    tracker :=
      { s.tracker with
        queue :=
          [entry4 (.landing 0 3900 4100 false), { entry4 (.landing 0 4800 5000 false) with number := 5, lead := 900 },
            { entry4 (.routed 0 6000 6200) with number := 6, lead := 2100 }] } }

/-- For the re-routing of the entries of the lost bin 0: one finds bin 1, and one that has travelled farther finds
none. -/
theorem witness_BinLost :
    (∀ m ∈ [SortMode.run, .drain], EntriesDistinct (losing m) ∧ ((losing m).bin 0).suspicion = 2
      ∧ findEntry ⟨4, 0⟩ (losing m) = some (entry4 (.landing 0 3900 4100 false)))
    ∧ (losing .run).tracker.queue.filter (Entry.routedTo 0)
        = [{ entry4 (.routed 0 6000 6200) with number := 6, lead := 2100 }]
    ∧ planRoute (losing .run) (some 0) (.graded 5 1 someValues) 2300 (some 0) = .bin 1 ⟨0, 5, 1⟩ 20
    ∧ (losing .run).geometry.binPosition[(1 : Fin 16)] = some 7000
    ∧ planRoute (losing .run) (some 0) (.graded 5 1 someValues) 7000 (some 0) = .beltEnd .noBin (some someValues)
    ∧ (∃ e ∈ (losing .run).tracker.queue, e.landingAt 0 = true ∧ atBeltEnd e (losing .run) = false) := by
  unfold EntriesDistinct; decide +kernel

theorem witness_LandedEyeEdges_drain :
    (let s : State := { underGate (.filling openLift0) 1 with mode := .drain };
      (s.bin 0).eyeMark = none ∧ s.mode ≠ .idle ∧ s.mode = .drain ∧ s.tracker.queue ≠ []
      ∧ oldestLanding 0 s = some (entry4 (.landing 0 3900 4100 false))
      ∧ s.tracker.queue.eraseP (fun y => y.id == (entry4 (.landing 0 3900 4100 false)).id) = [])
    ∧ ((underGate (.drainClose .full { openLift0 with inFlight := 2 }) 0).bin 0).state
        = .drainClose .full { openLift0 with inFlight := 2 }
    ∧ ((losing .drain).bin 0).suspicion = 2 ∧ (losing .drain).tracker.queue ≠ []
    ∧ EntriesDistinct (losing .drain) := by
  unfold EntriesDistinct; decide +kernel

theorem witness_EjectTimeout_entries :
    (∀ m ∈ [SortMode.run, .drain],
      let s : State := { oneEntry (.routed 3 3900 4100) 0 ejecting with mode := m };
      EntriesDistinct s ∧ s.outfeed.state = .busy 3 2 ∧ (s.bin 3).state = .ejecting ejectingLift0) := by
  unfold EntriesDistinct; decide +kernel

/-- Bins 3 and 5 wait for the outfeed, in the order of their lifts' close orders, and bin 7 is FAULTED with a lift
closed before both. -/
def queued : State :=
  let s :=
    withBin 7 (.faulted .landing (some { closedLift0 with closeOrder := some 4294967295 }))
      (withBin 5 (.fullWait { closedLift0 with closeOrder := some 1 })
        (withBin 3 (.fullWait { closedLift0 with closeOrder := some 0 }) State.reset))
  { s with outfeed := { s.outfeed with queue := [3, 5] }, store := { s.store with closeCounter := 1 } }

theorem witness_EjectionInOrder :
    OutfeedConsistent queued ∧ EjectionInOrder queued ∧ CloseOrdersComparable queued
    ∧ step queued = .next (tick queued) := by
  have hs : ∀ b : BinNo, (queued.bin b).state
      = if b = 3 then .fullWait { closedLift0 with closeOrder := some 0 }
        else if b = 5 then .fullWait { closedLift0 with closeOrder := some 1 }
        else if b = 7 then .faulted .landing (some { closedLift0 with closeOrder := some 4294967295 })
        else .offline := by decide
  have hw : ∀ b o, WaitsWith queued b o → b = 3 ∧ o = 0 ∨ b = 5 ∧ o = 1 ∨ b = 7 ∧ o = 4294967295 := by
    rintro b o ⟨l, h | ⟨why, h, -⟩, e⟩ <;> rw [hs] at h <;> split at h <;> (try split at h) <;> (try split at h) <;>
      simp_all <;> obtain ⟨-, rfl⟩ := h <;> simp_all
  refine ⟨⟨by decide, by decide, ?_, ?_, by decide⟩, by unfold EjectionInOrder; decide, ⟨?_, ?_, ?_, ?_⟩, rfl⟩
  · intro b
    have h : (queued.bin b).state.isEjecting = false := by revert b; decide
    exact ⟨(fun e => absurd e (by rw [h]; decide)), (fun e => e.elim (fun n e => nomatch e))⟩
  · intro b n
    have h : queued.slots[n].state = .offline := by revert n; decide
    exact ⟨(fun e => by rw [h] at e; cases e), (fun e => nomatch e)⟩
  · intro b l h; rw [hs] at h; split at h <;> (try split at h) <;> (try split at h) <;> cases h <;> exact ⟨_, rfl⟩
  · intro b why l h _; rw [hs] at h; split at h <;> (try split at h) <;> (try split at h) <;> cases h; exact ⟨_, rfl⟩
  · intro b o h; rcases hw b o h with ⟨-, rfl⟩ | ⟨-, rfl⟩ | ⟨-, rfl⟩ <;> decide
  · intro b c o h k
    rcases hw b o h with ⟨rfl, rfl⟩ | ⟨rfl, rfl⟩ | ⟨rfl, rfl⟩ <;>
      rcases hw c _ k with ⟨rfl, e⟩ | ⟨rfl, e⟩ | ⟨rfl, e⟩ <;>
      first | rfl | exact absurd e (by decide)

/-- Slots 2 and 5 hold STORED lifts of code 5, the one in slot 5 closed first, and lines 1 and 2 wait for them. -/
def twoStored : State :=
  withPulls [{ waitingPull with line := 1 }, { waitingPull with number := 10, line := 2, arrival := 2 }]
    (withSlot 5 (.holding { storedLift0 with id := 2, closeOrder := some 0 }) true
      { storing with store := { storing.store with closeCounter := 1 } })

theorem witness_MatchingPass :
    (∃ o, StoredWith twoStored 2 o ∧ (twoStored.store.closeCounter - o).toNat < 2 ^ 31)
    ∧ (∃ o, StoredWith twoStored 5 o ∧ (twoStored.store.closeCounter - o).toNat < 2 ^ 31)
    ∧ (∀ p ∈ twoStored.arbiter.pulls, CandidateFor twoStored storedLift0 p)
    ∧ StandsBefore twoStored { waitingPull with line := 1 }
        { waitingPull with number := 10, line := 2, arrival := 2 }
    ∧ (∀ p ∈ twoStored.arbiter.pulls, ¬CandidateFor twoStored { storedLift0 with key := ⟨0, 6, 1⟩ } p)
    ∧ storedLift0.closeOrder = some 1 := by
  simp only [candidateFor_iff]
  refine ⟨⟨1, ⟨storedLift0, by decide⟩, by decide⟩,
    ⟨0, ⟨{ storedLift0 with id := 2, closeOrder := some 0 }, by decide⟩, by decide⟩, by decide, ?_, by decide,
    by decide⟩
  unfold StandsBefore rankOf; decide

/-- A nearer belt end, one farther, and the first setting of a belt end that is unset, which counts as nearer. -/
theorem witness_GeometryWrites_nearer :
    (∃ x, (some 7000 : Option Nat) = some x ∧ ∀ y, sorting.geometry.value .beltEnd = some y → x < y)
    ∧ ¬(∃ x, (some 9000 : Option Nat) = some x ∧ ∀ y, sorting.geometry.value .beltEnd = some y → x < y)
    ∧ (let s := withQueue [waiting4] running
      Offers (.writeGeometry setupReq .beltEnd (some 60000)) s ∧ s.geometry.value .beltEnd = none
      ∧ (∃ x, (some 60000 : Option Nat) = some x ∧ ∀ y, s.geometry.value .beltEnd = some y → x < y)
      ∧ (∀ c, ¬ConflictNamed (s.geometry.put .beltEnd (some 60000)) c .beltEnd)
      ∧ nearerCommands .beltEnd s = [.beltEndPassage ⟨4, 0⟩])
    ∧ (∀ v ∈ [some 7000, some 9000, some 60000], GeomWriteFormed .beltEnd v)
    ∧ ∀ v ∈ [some 7000, some 9000], ∀ c, ¬ConflictNamed (sorting.geometry.put .beltEnd v) c .beltEnd := by
  simp only [← geomFormed_iff, ← geomConflict_iff, ← Option.eq_none_iff_forall_ne_some]
  refine ⟨⟨7000, rfl, fun y h => ?_⟩, fun ⟨x, h, k⟩ => ?_,
    ⟨offers rfl (by decide) rfl (by decide), by decide, ⟨60000, rfl, fun _ h => nomatch h⟩, by decide, by decide⟩,
    by decide, by decide⟩
  · cases h; decide
  · cases h; exact absurd (k 8000 rfl) (by decide)

theorem witness_EntriesStayDistinct :
    EntriesDistinct (losing .run)
    ∧ findEntry ⟨(losing .run).tracker.nextNumber, (losing .run).tracker.travel⟩ (losing .run) = none
    ∧ ((losing .drain).mode = .drain → (losing .drain).tracker.queue ≠ []) := by
  unfold EntriesDistinct; decide +kernel

/-! ### The hypotheses of the third mismatch, the entry eye, the handovers and the in-flight counts -/

/-- Two sheets wait for their reports after two mismatches, the second of them under the entry eye. -/
def doubtful : State :=
  let s := beltAt 1500 (withQueue [waiting4, { waiting4 with number := 5, lead := 1400, eyeLen := none }] sorting)
  { s with tracker := { s.tracker with mismatches := 2, eye := .blockedTracked } }

/-- The same with the older sheet bound already, so that no sheet can be bound. -/
def doubtfulRouted : State :=
  withQueue [entry4 (.routed 0 3900 4100), { waiting4 with number := 5, lead := 1400, eyeLen := none }] doubtful

/-- For SHEET_REPORT without a sheet and with a length that differs, for the decision point and for a full queue. -/
theorem witness_ThirdMismatch :
    (∀ s ∈ [doubtful, doubtfulRouted], EntriesDistinct s ∧ s.tracker.mismatches = 2 ∧ s.sync ≠ .outOfStep
      ∧ s.mode = .run)
    ∧ OffersTaken (.sheetReport .scan 7 longPayload) doubtful
    ∧ OffersTaken (.sheetReport .scan 7 workedPayload) doubtfulRouted
    ∧ oldestAwaiting doubtful = some waiting4 ∧ findEntry ⟨4, 0⟩ doubtful = some waiting4
    ∧ (∃ e ∈ doubtful.tracker.queue, e.state = .awaitReport ∧ some ⟨4, 0⟩ ≠ some e.id ∧ atBeltEnd e doubtful = false)
    ∧ (oldestAwaiting doubtfulRouted).map (fun e => e.eyeLen) = some none
    ∧ (∃ e ∈ doubtfulRouted.tracker.queue, e.state ≠ .awaitReport)
    ∧ doubtful.geometry.decisionDistance ≤ travelOf waiting4 doubtful
    ∧ EntriesDistinct (withQueue fullTrack running) ∧ (withQueue fullTrack running).sync ≠ .outOfStep := by
  refine ⟨?_, offersTaken rfl (by decide), offersTaken rfl (by decide), by decide, by decide, by decide, by decide,
    by decide, by decide, ?_, by decide⟩ <;> unfold EntriesDistinct <;> decide +kernel

/-- The newest sheet under the entry eye, of which one entry is removed: the newest itself, or an older one. -/
theorem witness_EyeFollows :
    let e : Entry := { waiting4 with state := .toReject, verdict := some (.reject .offGauge none) }
    let y : Entry := { waiting4 with number := 5, lead := 1400, eyeLen := none }
    (∀ l ∈ [[e], [e, y]],
      let s : State := withQueue l (beltAt 8000 { sorting with
        tracker := { sorting.tracker with eye := .blockedTracked } });
      EntriesDistinct s ∧ findEntry ⟨4, 0⟩ s = some e ∧ s.geometry.beltEnd = some 8000 ∧ 8000 ≤ travelOf e s
      ∧ s.tracker.eye = .blockedTracked ∧ s.tracker.queue.getLast? = l.getLast?)
    ∧ EntriesDistinct (oneEntry (.toRedry 5100 5100 true) 7700 sorting)
    ∧ EntriesDistinct (landingAt 4400 0) ∧ EntriesDistinct (stuckAt 4000 .ready)
    ∧ EntriesDistinct (underGate (.filling openLift0) 1) ∧ EntriesDistinct ejecting := by
  unfold EntriesDistinct; decide +kernel

/-- For the passes after an ejection and a removal: the gates stand as they should. -/
theorem witness_SlotEyeEdges_gates :
    GatesUpToDate ejecting ∧ GatesUpToDate (withSlot 2 (.holding storedLift0) true State.reset)
    ∧ GatesUpToDate handedOver ∧ (handedOver.arbiter.pulls.map (fun p => p.number)).Nodup := by
  unfold GatesUpToDate; decide

/-- Handovers that are paired: slot 2's lift is ASSIGNED to line 0's pull, and slot 5's waits beside a pull of line 1
for another code. -/
def paired : State :=
  withPulls [assignedPull, { waitingPull with number := 10, line := 1, code := 6 }]
    (withSlot 5 (.holding { storedLift0 with id := 2 }) true handedOver)

theorem paired_slots (n : SlotNo) : paired.slots[n].state
    = if n = 2 then .holding assignedLift0 else if n = 5 then .holding { storedLift0 with id := 2 } else .offline := by
  revert n; decide

theorem witness_HandoversPaired :
    RecipeAndPullLimits paired ∧ HandoversPaired paired ∧ step paired = .next (tick paired) := by
  refine ⟨⟨by decide, by decide, by decide⟩, ⟨by decide, by decide, ?_, ?_, ?_, ?_⟩, rfl⟩
  · intro n l h
    rw [paired_slots] at h
    split at h
    · cases h; exact .inr ⟨rfl, assignedPull, by decide, rfl, 120000, rfl⟩
    · split at h
      · cases h; exact .inl ⟨rfl, rfl⟩
      · cases h
  · intro p hp lift left e
    simp only [paired, withPulls, setArbiter, List.mem_cons, List.not_mem_nil, or_false] at hp
    rcases hp with rfl | rfl
    · cases e; exact ⟨2, assignedLift0, by decide⟩
    · cases e
  · intro m n l k number hm hn el ek
    rw [paired_slots] at hm hn
    split at hm
    · split at hn
      · next a b => rw [a, b]
      · split at hn <;> cases hn; cases ek
    · split at hm <;> cases hm; cases el
  · intro b l h
    have off : ∀ b : BinNo, (paired.bin b).state = .offline := by decide
    rw [off b] at h
    cases h

/-- A lift with two sheets in flight, one ROUTED and one LANDING; and OUT_OF_STEP with no sheet waiting. -/
theorem witness_InFlightCounted :
    let s := withQueue [entry4 (.landing 0 3900 4100 false), { entry4 (.routed 0 3900 4100) with number := 5 }]
      (withBin 0 (.filling { openLift0 with inFlight := 2 }) outOfStep)
    EntriesDistinct s ∧ InFlightCounted s ∧ SyncSwept s ∧ s.sync = .outOfStep ∧ DrainHasSheets (losing .drain)
    ∧ (losing .drain).mode = .drain ∧ step s = .next (tick s) := by
  intro s
  have hb : ∀ b : BinNo, (s.bin b).state
      = if b = 0 then .filling { openLift0 with inFlight := 2 } else .offline := by decide
  refine ⟨by unfold EntriesDistinct; decide, ⟨by decide, ?_, by decide⟩, by unfold SyncSwept; decide, by decide,
    fun _ => by decide, by decide, rfl⟩
  intro b l h k
  rw [hb] at h k
  split at h
  · rename_i e; rw [if_pos e] at k; cases k
  · cases h

/-- Banks that fail each check of validation first: no rule, class 1 reversed, classes 0 and 1 overlapping, and the
second rule's moisture range, spill grade and bin. -/
theorem witness_ValidationFailures :
    let g := { sorting.geometry with binPosition := vset sorting.geometry.binPosition 1 (some 5000) }
    let bank := fun x : GradeRule => { workedBank with rules := [{ backRule with bins := [0] }, x] }
    let good : GradeRule := { faceRule with bins := [0, 1] }
    (∀ x ∈ [({ workedBank with rules := [] }, ValidationFailure.ruleCount),
        ({ workedBank with classes := #v[none, some ⟨900, 800⟩, some ⟨700, 600⟩, none] }, .range 1),
        ({ workedBank with classes := #v[some ⟨500, 900⟩, some ⟨900, 950⟩, none, some ⟨600, 700⟩] }, .overlap 1 0),
        (bank { good with moistureMin := 81, spill := some 2 }, .moisture 1),
        (bank { good with spill := some 2, bins := [7] }, .spill 1), (bank { good with bins := [1, 7, 8] }, .bin 1 7)],
      validationOf g x.1 = some x.2)
    ∧ validationOf g (bank good) = none := by decide +kernel

/-- An event list that is full, and one whose mask disables a kind. -/
theorem witness_EventAppend :
    State.reset.events.mask.trackFull = true ∧ State.reset.events.list.length < 32
    ∧ (List.replicate 32 Event.trackFull).length = 32
    ∧ ({ State.reset.events.mask with trackFull := false } : EventMask).trackFull = false := by decide
end Sys2Proof.Tests
end

section
/-! SUPPORT. The router (R79 to R87): the four-pass search as the first bin met, what a route plan tells of its bin, the
commit, and what the end of an event leaves of a bin's state. -/

namespace Sys2Proof.Machine

/-! ### The four passes (R82) -/

/-- An eligible bin that a pass of the search accepts. -/
def metIn (s : State) (key : Key) (travel : Nat) (lost : Option BinNo) (pass : Nat) (b : BinNo) : Bool :=
  eligible s key travel lost b && passOf s b == pass

theorem passOf_bounds (s : State) (b : BinNo) : 1 ≤ passOf s b ∧ passOf s b ≤ 4 := by
  unfold passOf
  split <;> split <;> decide

/-- The room that makes a bin eligible: it is FILLING for the key with room, or READY (R81). -/
theorem eligible_room {s : State} {key : Key} {travel : Nat} {lost : Option BinNo} {b : BinNo}
    (h : eligible s key travel lost b = true) :
    (s.bin b).state = .ready ∨ ∃ l, (s.bin b).state = .filling l ∧ l.key = key ∧ l.landed + l.inFlight < l.target :=
  ((canTakeSheet_iff s key travel lost b).mpr h).room

/-- The kind of bin and the suspicion that each pass asks for, as the pass's number (R82). -/
theorem pass_tests {s : State} {key : Key} {travel : Nat} {lost : Option BinNo} {b : BinNo}
    (h : eligible s key travel lost b = true) :
    (fillingRoom s key b && !(s.bin b).suspect) = (passOf s b == 1)
    ∧ (isReady s b && !(s.bin b).suspect) = (passOf s b == 2)
    ∧ (fillingRoom s key b && (s.bin b).suspect) = (passOf s b == 3)
    ∧ (isReady s b && (s.bin b).suspect) = (passOf s b == 4) := by
  have suspect (live : ∀ why l, (s.bin b).state ≠ .faulted why l) :
      (s.bin b).suspect = decide ((s.bin b).suspicion = 1 ∨ (s.bin b).suspicion = 2) := by
    unfold Bin.suspect
    split
    · next why l e => exact absurd e (live why l)
    · rw [Bool.and_true, Bool.decide_or]; rfl
  rcases eligible_room h with ready | ⟨l, filling, key_eq, room⟩
  · rw [suspect (by rw [ready]; nofun)]
    simp only [passOf, fillingRoom, isReady, ready]
    by_cases x : (s.bin b).suspicion = 1 ∨ (s.bin b).suspicion = 2 <;> simp [x]
  · rw [suspect (by rw [filling]; nofun)]
    simp only [passOf, fillingRoom, isReady, filling]
    by_cases x : (s.bin b).suspicion = 1 ∨ (s.bin b).suspicion = 2 <;> simp [x, key_eq, room]

theorem searchBins_eq (s : State) (key : Key) (travel : Nat) (lost : Option BinNo) (bins : List BinNo) :
    searchBins s key travel lost bins
      = (((bins.find? (metIn s key travel lost 1)).or (bins.find? (metIn s key travel lost 2))).or
          (bins.find? (metIn s key travel lost 3))).or (bins.find? (metIn s key travel lost 4)) := by
  have tests (b : BinNo) :
      (eligible s key travel lost b && fillingRoom s key b && !(s.bin b).suspect) = metIn s key travel lost 1 b
      ∧ (eligible s key travel lost b && isReady s b && !(s.bin b).suspect) = metIn s key travel lost 2 b
      ∧ (eligible s key travel lost b && fillingRoom s key b && (s.bin b).suspect) = metIn s key travel lost 3 b
      ∧ (eligible s key travel lost b && isReady s b && (s.bin b).suspect) = metIn s key travel lost 4 b := by
    unfold metIn
    cases h : eligible s key travel lost b
    · exact ⟨rfl, rfl, rfl, rfl⟩
    · exact pass_tests h
  simp only [forall_and] at tests
  obtain ⟨first, second, third, fourth⟩ := tests
  simp only [searchBins, first, second, third, fourth]

/-- The search finds the first bin met (R82). -/
theorem searchBins_of_firstMet {s : State} {key : Key} {travel : Nat} {lost : Option BinNo} {bins : List BinNo}
    {b : BinNo} (h : FirstMet s key travel lost bins b) : searchBins s key travel lost bins = some b := by
  obtain ⟨takes, before, after, rfl, earlier, later⟩ := h
  simp only [canTakeSheet_iff] at takes earlier later
  have missed (n : Nat) (lt : n < passOf s b) :
      (before ++ b :: after).find? (metIn s key travel lost n) = none := by
    refine List.find?_eq_none.mpr fun c mem met => ?_
    obtain ⟨ok, pass⟩ := (Bool.and_eq_true _ _).mp met
    rw [beq_iff_eq] at pass
    rcases List.mem_append.mp mem with mem | mem
    · have := earlier c mem ok; omega
    · rcases List.mem_cons.mp mem with rfl | mem
      · omega
      · have := later c mem ok; omega
  have found : (before ++ b :: after).find? (metIn s key travel lost (passOf s b)) = some b := by
    refine List.find?_eq_some_iff_append.mpr ⟨by simp [metIn, takes], before, after, rfl, fun c mem => ?_⟩
    cases ok : eligible s key travel lost c
    · simp [metIn, ok]
    · have := earlier c mem ok
      simp only [metIn, ok, Bool.true_and, Bool.not_eq_true', beq_eq_false_iff_ne]
      omega
  rw [searchBins_eq]
  obtain ⟨lo, hi⟩ := passOf_bounds s b
  rcases (by omega : passOf s b = 1 ∨ passOf s b = 2 ∨ passOf s b = 3 ∨ passOf s b = 4) with p | p | p | p <;>
    rw [p] at found missed <;> rw [found] <;> simp [missed]

/-- The bin that the search finds is an eligible one of the list. -/
theorem searchBins_some {s : State} {key : Key} {travel : Nat} {lost : Option BinNo} {bins : List BinNo} {b : BinNo}
    (h : searchBins s key travel lost bins = some b) : b ∈ bins ∧ eligible s key travel lost b = true := by
  have found (n : Nat) (e : bins.find? (metIn s key travel lost n) = some b) :
      b ∈ bins ∧ eligible s key travel lost b = true := by
    have met := List.find?_some e
    rw [metIn, Bool.and_eq_true] at met
    exact ⟨List.mem_of_find?_eq_some e, met.1⟩
  rw [searchBins_eq] at h
  simp only [Option.or_eq_some_iff] at h
  rcases h with ((h | ⟨-, h⟩) | ⟨-, h⟩) | ⟨-, h⟩ <;> exact found _ h

theorem searchBins_none {s : State} {key : Key} {travel : Nat} {lost : Option BinNo} {bins : List BinNo}
    (h : ∀ b ∈ bins, ¬CanTakeSheet s key travel lost b) : searchBins s key travel lost bins = none := by
  refine Option.eq_none_iff_forall_ne_some.mpr fun b e => ?_
  obtain ⟨mem, ok⟩ := searchBins_some e
  exact h b mem ((canTakeSheet_iff s key travel lost b).mpr ok)

/-! ### The plan of a route (R79, R83, R84) -/

/-- What a search looks at: the banks, the geometry and the bins. -/
theorem planRoute_congr {s t : State} (banks : t.banks = s.banks) (geometry : t.geometry = s.geometry)
    (bins : t.bins = s.bins) : planRoute t = planRoute s := by
  cases s; cases t
  cases banks; cases geometry; cases bins
  rfl

theorem searchRule_some {s : State} {k : BankNo} {g : GradeRule} {code cls travel : Nat} {lost : Option BinNo}
    {plan : RoutePlan} (h : searchRule s k g code cls travel lost = some plan) :
    ∃ b, plan = .bin b ⟨k, code, cls⟩ g.target ∧ b ∈ binsOf g ∧ eligible s ⟨k, code, cls⟩ travel lost b = true := by
  obtain ⟨b, found, rfl⟩ := Option.map_eq_some_iff.mp h
  exact ⟨b, rfl, searchBins_some found⟩

/-- The search for a grade finds a bin of the grade's rule, or, when that has none, of its spill grade's (R83). -/
theorem searchGrade_some {s : State} {k : BankNo} {code cls travel : Nat} {lost : Option BinNo} {plan : RoutePlan}
    (h : searchGrade s k code cls travel lost = some plan) :
    ∃ c g, ruleIn s k c = some g ∧ searchRule s k g c cls travel lost = some plan := by
  unfold searchGrade at h
  split at h
  · cases h
  · next g rule =>
    rcases Option.or_eq_some_iff.mp h with own | ⟨-, spilled⟩
    · exact ⟨code, g, rule, own⟩
    · split at spilled
      · cases spilled
      · next c spill =>
        split at spilled
        · cases spilled
        · next g' rule' => exact ⟨c, g', rule', spilled⟩

/-- The bin of a plan is eligible for the plan's key. -/
theorem planRoute_bin {s : State} {bank : Option BankNo} {v : Verdict} {travel : Nat} {lost : Option BinNo} {b : BinNo}
    {key : Key} {target : Nat} (h : planRoute s bank v travel lost = .bin b key target) :
    eligible s key travel lost b = true := by
  unfold planRoute at h
  split at h
  · split at h
    · next k =>
      cases found : searchGrade s k _ _ travel lost with
      | none => rw [found] at h; cases h
      | some plan =>
        rw [found] at h
        cases h
        obtain ⟨c, g, -, search⟩ := searchGrade_some found
        obtain ⟨d, e, -, ok⟩ := searchRule_some search
        cases e
        exact ok
    · cases h
  · split at h
    · split at h <;> cases h
    · cases h
  · cases h

/-- The router sends a REDRY verdict to the redry gate or, when that is missed, to the belt end (R87). -/
theorem planRoute_redry_cases (s : State) (k : Option BankNo) (v : Computed) (travel : Nat) (lost : Option BinNo) :
    (∃ p, s.geometry.redryGate = some p ∧ travel + s.geometry.gateLead < p
      ∧ planRoute s k (.redry v) travel lost = .redryGate p)
    ∨ ((∀ p, s.geometry.redryGate = some p → p ≤ travel + s.geometry.gateLead)
      ∧ planRoute s k (.redry v) travel lost = .beltEnd .redryMissed (some v)) := by
  cases gate : s.geometry.redryGate with
  | none => exact .inr ⟨nofun, by simp only [planRoute, gate]⟩
  | some p =>
    by_cases ahead : travel + s.geometry.gateLead < p
    · exact .inl ⟨p, rfl, ahead, by simp only [planRoute, gate, ahead, ↓reduceIte]⟩
    · refine .inr ⟨fun q e => ?_, by simp only [planRoute, gate, ahead, ↓reduceIte]⟩
      cases e
      omega

section
variable {s : State} {k : BankNo} {code cls travel : Nat} {lost : Option BinNo} {g : GradeRule}

theorem searchRule_of_firstMet {b : BinNo} (h : FirstMet s ⟨k, code, cls⟩ travel lost (binsOf g) b) :
    searchRule s k g code cls travel lost = some (.bin b ⟨k, code, cls⟩ g.target) := by
  rw [searchRule, searchBins_of_firstMet h]; rfl

theorem searchRule_none (h : ∀ b ∈ binsOf g, ¬CanTakeSheet s ⟨k, code, cls⟩ travel lost b) :
    searchRule s k g code cls travel lost = none := by
  rw [searchRule, searchBins_none h]; rfl

theorem searchGrade_own {b : BinNo} (rule : ruleIn s k code = some g)
    (h : FirstMet s ⟨k, code, cls⟩ travel lost (binsOf g) b) :
    searchGrade s k code cls travel lost = some (.bin b ⟨k, code, cls⟩ g.target) := by
  simp only [searchGrade, rule, searchRule_of_firstMet h, Option.some_or]

theorem searchGrade_spill {c : Nat} {g' : GradeRule} {b : BinNo} (rule : ruleIn s k code = some g)
    (none_own : ∀ d ∈ binsOf g, ¬CanTakeSheet s ⟨k, code, cls⟩ travel lost d) (spill : g.spill = some c)
    (rule' : ruleIn s k c = some g') (h : FirstMet s ⟨k, c, cls⟩ travel lost (binsOf g') b) :
    searchGrade s k code cls travel lost = some (.bin b ⟨k, c, cls⟩ g'.target) := by
  simp only [searchGrade, rule, searchRule_none none_own, spill, rule', searchRule_of_firstMet h, Option.none_or]

theorem searchGrade_unruled (rule : ruleIn s k code = none) : searchGrade s k code cls travel lost = none := by
  simp only [searchGrade, rule]

theorem searchGrade_none (rule : ruleIn s k code = some g)
    (none_own : ∀ d ∈ binsOf g, ¬CanTakeSheet s ⟨k, code, cls⟩ travel lost d)
    (none_spill : ∀ c, g.spill = some c → ∀ g', ruleIn s k c = some g' →
      ∀ d ∈ binsOf g', ¬CanTakeSheet s ⟨k, c, cls⟩ travel lost d) :
    searchGrade s k code cls travel lost = none := by
  refine Option.eq_none_iff_forall_ne_some.mpr fun plan h => ?_
  simp only [searchGrade, rule, searchRule_none none_own, Option.none_or] at h
  split at h
  · cases h
  · next c spill =>
    split at h
    · cases h
    · next g' rule' =>
      rw [searchRule_none (none_spill c spill g' rule')] at h
      cases h

end

/-! ### The commit (R85, R86, R117) -/

theorem freshLiftId_congr {s t : State} (bins : t.bins = s.bins) (slots : t.slots = s.slots)
    (store : t.store = s.store) : freshLiftId t = freshLiftId s := by
  unfold freshLiftId liftIds
  rw [bins, slots, store]

theorem setBin_bin (b c : BinNo) (f : Bin → Bin) (s : State) :
    (setBin b f s).bin c = if c = b then f (s.bin b) else s.bin c :=
  vset_get s.bins b c (f s.bins[b])

theorem commitTo_bin (n : EntryId) (b : BinNo) (key : Key) (target : Nat) (s : State) :
    ((commitTo n b key target s).bin b).state = ((openLift b key target s).bin b).state.commit := by
  have same : (commitTo n b key target s).bin b
      = (setBin b (fun x => { x with state := x.state.commit }) (openLift b key target s)).bin b := rfl
  rw [same, setBin_bin, if_pos rfl]

theorem openLift_bin_ready {b : BinNo} {s : State} (key : Key) (target : Nat) (h : (s.bin b).state = .ready) :
    ((openLift b key target s).bin b).state = .filling (newLift (freshLiftId s) key b target) := by
  have ready : isReady s b = true := by simp [isReady, h]
  rw [openLift, if_pos ready]
  dsimp only
  rw [setBin_bin, if_pos rfl]

theorem openLift_not_ready {b : BinNo} {s : State} (key : Key) (target : Nat) (h : (s.bin b).state ≠ .ready) :
    openLift b key target s = s := by
  have not_ready : ¬isReady s b = true := by simpa [isReady] using h
  rw [openLift, if_neg not_ready]

@[simp] theorem openLift_tracker (b : BinNo) (key : Key) (target : Nat) (s : State) :
    (openLift b key target s).tracker = s.tracker := by
  unfold openLift
  split <;> rfl

theorem commit_filling (l : Lift) :
    (BinState.filling l).commit
      = if l.landed + (l.inFlight + 1) = l.target then .drainClose .full { l with inFlight := l.inFlight + 1 }
        else .filling { l with inFlight := l.inFlight + 1 } :=
  rfl

/-- The commit to an eligible bin counts the sheet in flight for its lift, or for one newly opened (R85). -/
theorem commitTo_commits (n : EntryId) (target : Nat) {s : State} {b : BinNo} {key : Key} {travel : Nat}
    {lost : Option BinNo} (ok : eligible s key travel lost b = true) :
    Commits s b key target ((commitTo n b key target s).bin b).state := by
  rw [commitTo_bin]
  rcases eligible_room ok with ready | ⟨l, filling, key_eq, -⟩
  · exact ⟨_, .inr ⟨ready, rfl⟩, by rw [openLift_bin_ready key target ready, commit_filling]⟩
  · refine ⟨l, .inl ⟨filling, key_eq⟩, ?_⟩
    rw [openLift_not_ready key target (by rw [filling]; nofun), filling, commit_filling]

/-- A commit looks at the bins, the slots and the lift store. -/
theorem Commits.congr {s t : State} {b : BinNo} {key : Key} {target : Nat} {x : BinState}
    (h : Commits t b key target x) (bins : t.bins = s.bins) (slots : t.slots = s.slots) (store : t.store = s.store) :
    Commits s b key target x := by
  unfold Commits State.bin at h
  rwa [bins, freshLiftId_congr bins slots store] at h

theorem Commits.not_fullWait {s : State} {b : BinNo} {key : Key} {target : Nat} {x : BinState}
    (h : Commits s b key target x) (l : Lift) : x ≠ .fullWait l := by
  obtain ⟨m, -, rfl⟩ := h
  split <;> nofun

/-! ### The end of an event -/

theorem startEjection_bin (b c : BinNo) (l : Lift) (n : SlotNo) (s : State) :
    (startEjection b l n s).bin c
      = if c = b then
          { s.bin b with state := .ejecting { l with state := .ejecting, slot := some n }, eject := true }
        else s.bin c :=
  vset_get s.bins b c _

theorem syncGates_bin_state (s : State) (b : BinNo) : ((syncGates s).bin b).state = (s.bin b).state := by
  simp only [State.bin, syncGates_bins, vmap_get]

/-- The ejection test changes the state of no bin but a FULL_WAIT one (R135). -/
theorem ejectionTest_bin_state {s : State} {b : BinNo} (h : ∀ l, (s.bin b).state ≠ .fullWait l) :
    ((ejectionTest s).bin b).state = (s.bin b).state := by
  rcases ejectionTest_cases s with e | ⟨c, rest, n, l, -, -, -, waits, e⟩ <;> rw [e]
  have : b ≠ c := fun same => h l (same ▸ waits)
  rw [startEjection_bin, if_neg this]

theorem closeEvent_bin_state {s : State} {b : BinNo} (h : ∀ l, (s.bin b).state ≠ .fullWait l) :
    ((closeEvent s).bin b).state = (s.bin b).state := by
  rw [closeEvent, ejectionTest_bin_state (by rwa [syncGates_bin_state]), syncGates_bin_state]

/-- The end of an event that ends no drain changes the state of no bin but a FULL_WAIT one. -/
theorem finish_bin_state {s : State} {b : BinNo} (h : ∀ l, (s.bin b).state ≠ .fullWait l)
    (on : s.mode ≠ .drain ∨ s.tracker.queue ≠ []) : ((finish s).bin b).state = (s.bin b).state := by
  rw [finish_eq_closeEvent s on, closeEvent_bin_state h]

/-! ### What the ends of an event leave alone -/

@[simp] theorem ejectionTest_tracker (s : State) : (ejectionTest s).tracker = s.tracker := by
  rcases ejectionTest_cases s with e | ⟨b, rest, n, l, -, -, -, -, e⟩ <;> rw [e]
  rfl

@[simp] theorem ejectionTest_events (s : State) : (ejectionTest s).events = s.events := by
  rcases ejectionTest_cases s with e | ⟨b, rest, n, l, -, -, -, -, e⟩ <;> rw [e]
  rfl

@[simp] theorem ejectionTest_tallies (s : State) : (ejectionTest s).tallies = s.tallies := by
  rcases ejectionTest_cases s with e | ⟨b, rest, n, l, -, -, -, -, e⟩ <;> rw [e]
  rfl

@[simp] theorem closeEvent_tracker (s : State) : (closeEvent s).tracker = s.tracker := by simp [closeEvent]

@[simp] theorem closeEvent_events (s : State) : (closeEvent s).events = s.events := by simp [closeEvent]

@[simp] theorem closeEvent_tallies (s : State) : (closeEvent s).tallies = s.tallies := by simp [closeEvent]

@[simp] theorem completeDrain_tracker (b : BinNo) (s : State) : (completeDrain b s).tracker = s.tracker := by
  rcases completeDrain_cases b s with ⟨e, -⟩ | ⟨why, l, -, -, -, e⟩ | ⟨why, l, -, -, -, e⟩ <;> rw [e] <;> rfl

@[simp] theorem completeDrains_tracker (s : State) : (completeDrains s).tracker = s.tracker :=
  foldl_rel (fun s t => t.tracker = s.tracker) (fun _ => rfl) (fun _ _ _ h k => k.trans h) _
    (fun s b => completeDrain_tracker b s) _ s

@[simp] theorem setMode_tracker (m : SortMode) (s : State) : (setMode m s).tracker = s.tracker := by
  unfold setMode
  split <;> rfl

@[simp] theorem endDrainIfDue_tracker (s : State) : (endDrainIfDue s).tracker = s.tracker := by
  rcases endDrainIfDue_cases s with ⟨-, -, e⟩ | ⟨-, e⟩ <;> rw [e]
  rw [endDrain, setMode_tracker, completeDrains_tracker, drainBins_tracker]

@[simp] theorem finish_tracker (s : State) : (finish s).tracker = s.tracker := by simp [finish]

theorem finish_events {s : State} (on : s.mode ≠ .drain ∨ s.tracker.queue ≠ []) :
    (finish s).events = s.events := by
  rw [finish_eq_closeEvent s on, closeEvent_events]

theorem finish_tallies {s : State} (on : s.mode ≠ .drain ∨ s.tracker.queue ≠ []) :
    (finish s).tallies = s.tallies := by
  rw [finish_eq_closeEvent s on, closeEvent_tallies]

end Sys2Proof.Machine
end

section
/-! SUPPORT. The grade evaluator: the clamped report (R3, R4), each computed value (R9, R10, R14 to R16), the tests of
a grade rule (R19 to R21), and the verdict in each case (R8); then the statements about them. -/

namespace Sys2Proof.Machine

/-! ### The clamped report (R3, R4) -/

theorem clampTo_bounds (lo hi x : Nat) (h : lo ≤ hi) : lo ≤ clampTo lo hi x ∧ clampTo lo hi x ≤ hi := by
  unfold clampTo; omega

theorem clampReport_length (r : SheetData) : 300 ≤ (clampReport r).length ∧ (clampReport r).length ≤ 2700 :=
  clampTo_bounds 300 2700 r.length (by decide)

theorem clampReport_width (r : SheetData) : 100 ≤ (clampReport r).width ∧ (clampReport r).width ≤ 1400 :=
  clampTo_bounds 100 1400 r.width (by decide)

theorem clampReport_reading (r : SheetData) : ∀ m ∈ (clampReport r).readings, m ≤ 300 := by
  intro m hm
  obtain ⟨x, -, rfl⟩ := List.mem_map.mp hm
  exact (clampTo_bounds 0 300 x (by decide)).2

theorem clampReport_readings_length (r : SheetData) :
    (clampReport r).readings.length = r.readings.length :=
  List.length_map _

theorem clampReport_defect (r : SheetData) : ∀ d ∈ (clampReport r).defects, d.size ≤ 999 := by
  intro d hd
  obtain ⟨x, -, rfl⟩ := List.mem_map.mp hd
  exact (clampTo_bounds 1 999 x.size (by decide)).2

/-- The area of a clamped sheet, before the division of R9. -/
theorem clampReport_area (r : SheetData) :
    30000 ≤ (clampReport r).length * (clampReport r).width
    ∧ (clampReport r).length * (clampReport r).width ≤ 3780000 := by
  obtain ⟨length_lo, length_hi⟩ := clampReport_length r
  obtain ⟨width_lo, width_hi⟩ := clampReport_width r
  exact ⟨Nat.mul_le_mul length_lo width_lo, Nat.mul_le_mul length_hi width_hi⟩

/-! ### The largest of a list -/

theorem foldl_max_le_iff (l : List Nat) (a n : Nat) : l.foldl max a ≤ n ↔ a ≤ n ∧ ∀ x ∈ l, x ≤ n := by
  induction l generalizing a with
  | nil => simp
  | cons y ys ih => rw [List.foldl_cons, ih, max_le_iff, List.forall_mem_cons, and_assoc]

theorem foldl_max_mem (l : List Nat) (a : Nat) : l.foldl max a = a ∨ l.foldl max a ∈ l := by
  induction l generalizing a with
  | nil => exact .inl rfl
  | cons y ys ih =>
    rw [List.foldl_cons, List.mem_cons]
    rcases ih (max a y) with e | m
    · rw [e]; omega
    · exact .inr (.inr m)

theorem moistureMaxOf_le_iff (l : List Nat) (n : Nat) : moistureMaxOf l ≤ n ↔ ∀ x ∈ l, x ≤ n := by
  simp [moistureMaxOf, foldl_max_le_iff]

theorem le_moistureMaxOf {l : List Nat} {x : Nat} (h : x ∈ l) : x ≤ moistureMaxOf l :=
  (moistureMaxOf_le_iff l _).mp (Nat.le_refl _) x h

/-- The largest reading is one of the readings, where there is one (R10). -/
theorem moistureMaxOf_mem {l : List Nat} (h : l ≠ []) : moistureMaxOf l ∈ l := by
  rcases foldl_max_mem l 0 with zero | mem
  · obtain ⟨x, hx⟩ := List.exists_mem_of_ne_nil l h
    have : x = moistureMaxOf l := by
      have := le_moistureMaxOf hx
      have : moistureMaxOf l = 0 := zero
      omega
    exact this ▸ hx
  · exact mem

/-- The mean reading is at most the largest (R10). -/
theorem moistureMeanOf_le_max (l : List Nat) : moistureMeanOf l ≤ moistureMaxOf l := by
  have sum_le : l.sum ≤ l.length * moistureMaxOf l := by
    simpa using List.sum_le_card_nsmul l (moistureMaxOf l) (fun _ => le_moistureMaxOf)
  exact Nat.div_le_of_le_mul sum_le

/-! ### Points, density and area (R9, R14 to R16) -/

theorem Zone.factor_eq (z : Zone) : z.factor = if z = .centre then 2 else 1 := by
  cases z <;> rfl

theorem Zone.factor_le (z : Zone) : z.factor ≤ 2 := by
  cases z <;> decide

/-- The points of a defect of a clamped size and a byte's weight (R14): (999 * 255 + 15) / 16, doubled. -/
theorem defectPoints_le (weights : PerKind Nat) (d : Defect) (weight : weights.get d.kind ≤ 255)
    (size : d.size ≤ 999) : defectPoints weights d ≤ 31844 := by
  have product : d.size * weights.get d.kind ≤ 999 * 255 := Nat.mul_le_mul size weight
  have quotient : (d.size * weights.get d.kind + 15) / 16 ≤ 15922 := by omega
  exact Nat.mul_le_mul quotient d.zone.factor_le

/-- Holding each partial sum at a limit holds the sum there. -/
theorem foldl_held_eq {α : Type} (limit : Nat) (f : α → Nat) (l : List α) (a : Nat) :
    l.foldl (fun acc x => min limit (acc + f x)) (min limit a) = min limit (a + (l.map f).sum) := by
  induction l generalizing a with
  | nil => rfl
  | cons x xs ih =>
    have held : min limit (min limit a + f x) = min limit (a + f x) := by omega
    rw [List.foldl_cons, held, ih, List.map_cons, List.sum_cons, Nat.add_assoc]

/-- The total is the sum of the points, held at 65,535 (R15). -/
theorem totalPoints_eq (weights : PerKind Nat) (ds : List Defect) :
    totalPoints weights ds = min 65535 (ds.map (defectPoints weights)).sum := by
  have h := foldl_held_eq 65535 (defectPoints weights) ds 0
  rwa [Nat.zero_add] at h

/-! ### The verdict in each case (R8, R11, R12, R18) -/

theorem evaluate_wet {bank : Bank} {x : SheetData} (wet : bank.redryLimit < moistureMaxOf x.readings) :
    evaluate bank x = .redry (computedOf bank x) :=
  if_pos wet

section
variable {bank : Bank} {x : SheetData} (dry : moistureMaxOf x.readings ≤ bank.redryLimit)
include dry

theorem evaluate_offGauge (off : thicknessClass bank.classes x.thickness = none) :
    evaluate bank x = .reject .offGauge (some (computedOf bank x)) := by
  have not_wet : ¬bank.redryLimit < (computedOf bank x).maxM := Nat.not_lt.mpr dry
  simp only [evaluate, not_wet, off, ↓reduceIte]

theorem evaluate_graded {c : Fin 4} {g : GradeRule} (on : thicknessClass bank.classes x.thickness = some c)
    (found : bank.rules.find?
      (fun g => rulePasses g (widthClassOf bank x.width) c.val (computedOf bank x) x) = some g) :
    evaluate bank x = .graded g.code c.val (computedOf bank x) := by
  have not_wet : ¬bank.redryLimit < (computedOf bank x).maxM := Nat.not_lt.mpr dry
  simp only [evaluate, not_wet, on, found, ↓reduceIte]

theorem evaluate_noGrade {c : Fin 4} (on : thicknessClass bank.classes x.thickness = some c)
    (found : bank.rules.find?
      (fun g => rulePasses g (widthClassOf bank x.width) c.val (computedOf bank x) x) = none) :
    evaluate bank x = .reject .noGrade (some (computedOf bank x)) := by
  have not_wet : ¬bank.redryLimit < (computedOf bank x).maxM := Nat.not_lt.mpr dry
  simp only [evaluate, not_wet, on, found, ↓reduceIte]

/-- A sheet that is not wet is off gauge, graded with a rule's code, or without a grade. -/
theorem evaluate_dry_cases :
    (thicknessClass bank.classes x.thickness = none
      ∧ evaluate bank x = .reject .offGauge (some (computedOf bank x)))
    ∨ ∃ c, thicknessClass bank.classes x.thickness = some c
      ∧ ((∃ g ∈ bank.rules, evaluate bank x = .graded g.code c.val (computedOf bank x))
        ∨ evaluate bank x = .reject .noGrade (some (computedOf bank x))) := by
  cases on : thicknessClass bank.classes x.thickness with
  | none => exact .inl ⟨rfl, evaluate_offGauge dry on⟩
  | some c =>
    refine .inr ⟨c, rfl, ?_⟩
    cases found : bank.rules.find?
        (fun g => rulePasses g (widthClassOf bank x.width) c.val (computedOf bank x) x) with
    | none => exact .inr (evaluate_noGrade dry on found)
    | some g => exact .inl ⟨g, List.mem_of_find?_eq_some found, evaluate_graded dry on found⟩

theorem evaluate_dry_ne_redry (v : Computed) : evaluate bank x ≠ .redry v := by
  rcases evaluate_dry_cases dry with ⟨-, e⟩ | ⟨c, -, ⟨g, -, e⟩ | e⟩ <;> rw [e] <;> nofun

end

/-- Every evaluation gives the five computed values (R8, R23). -/
theorem evaluate_values (bank : Bank) (x : SheetData) : (evaluate bank x).values = some (computedOf bank x) := by
  rcases Nat.lt_or_ge bank.redryLimit (moistureMaxOf x.readings) with wet | dry
  · rw [evaluate_wet wet]; rfl
  · rcases evaluate_dry_cases dry with ⟨-, e⟩ | ⟨c, -, ⟨g, -, e⟩ | e⟩ <;> rw [e] <;> rfl

/-- The first of the five computed values stands after the entry number, the verdict, the marks and the outcome
(Table 10-6). -/
theorem sheetResult_area_bytes (entry : Byte) (verdict : Verdict) (goal : SheetGoal) (clamped : Bool)
    (v : Computed) (h : verdict.values = some v) :
    ((Result.sheet entry verdict goal clamped).bytes.drop 7).take 2 = toBe16 v.area := by
  have four : verdict.bytes.length = 4 := by cases verdict <;> rfl
  have seven : ([entry] ++ verdict.bytes ++ [marksByte verdict clamped, goal.byte]).length = 7 := by
    simp [four]
  unfold Result.bytes
  rw [List.drop_left' seven, h]
  rfl

/-- Settles O22: R9 and where its value is used. -/
theorem areaOfSheet : Obligations.AreaOfSheet := by
  refine ⟨fun _ => rfl, fun r => ?_, rfl, rfl, fun r length width => ?_, fun bank r => ?_, sheetResult_area_bytes⟩
  · obtain ⟨lo, hi⟩ := clampReport_area r
    refine ⟨hi, ?_, ?_⟩ <;> unfold sheetArea <;> omega
  · rw [sheetArea, length, width]
  · exact ⟨rfl, rfl, _, evaluate_values bank r, rfl⟩

/-- Settles O23: R11, and the two ends a REDRY verdict can come to. -/
theorem redryTest : Obligations.RedryTest := by
  intro bank x
  refine ⟨evaluate_wet, fun dry => ⟨evaluate_offGauge dry, fun c on => ?_⟩, fun limit v => ?_,
    fun limit ⟨m, mem, positive⟩ => ?_, fun s k v travel => ?_⟩
  · rcases evaluate_dry_cases dry with ⟨off, -⟩ | ⟨d, on', graded⟩
    · rw [off] at on; cases on
    · rw [on] at on'
      cases on'
      exact graded.imp_left fun ⟨g, _, e⟩ => ⟨g.code, e⟩
  · refine evaluate_dry_ne_redry ?_ v
    rw [limit, moistureMaxOf_le_iff]
    exact clampReport_reading x
  · have := le_moistureMaxOf mem
    exact evaluate_wet (by omega)
  · rcases planRoute_redry_cases s k v travel none with ⟨p, -, -, e⟩ | ⟨-, e⟩
    · exact .inl ⟨p, e⟩
    · exact .inr e

/-- Settles O24: each value from its own lemma, within the ranges of R3. -/
theorem computedValues : Obligations.ComputedValues := by
  intro bank raw weights some_reading r v
  have nonempty : r.readings ≠ [] :=
    List.ne_nil_of_length_pos ((clampReport_readings_length raw).symm ▸ some_reading)
  refine ⟨moistureMaxOf_mem nonempty, fun _ => le_moistureMaxOf,
    (moistureMaxOf_le_iff _ _).mpr (clampReport_reading raw), rfl, moistureMeanOf_le_max _, fun d hd => ⟨?_, ?_⟩,
    totalPoints_eq _ _, rfl⟩
  · exact defectPoints_le bank.weights d (weights d.kind) (clampReport_defect raw d hd)
  · rw [defectPoints, Zone.factor_eq]

/-! ### The thickness class and the tests of a rule (R12, R19 to R21) -/

theorem thicknessClass_none (classes : Vector (Option ClassRange) 4) (t : Nat)
    (outside : ∀ (i : Fin 4) (r : ClassRange), classes[i] = some r → t < r.lo ∨ r.hi < t) :
    thicknessClass classes t = none := by
  refine List.find?_eq_none.mpr fun i _ => ?_
  cases h : classes[i] with
  | none => exact Bool.false_ne_true
  | some r => have := outside i r h; simp [inRange]; omega

/-- The numbers before a number of four, in order. -/
theorem allFour_split (c : Fin 4) :
    ∃ before after, allFour = before ++ c :: after ∧ ∀ i ∈ before, i < c := by
  refine ⟨allFour.take c, allFour.drop (c + 1), ?_⟩
  revert c
  decide

/-- The class is the first that contains the thickness (R12). -/
theorem thicknessClass_some (classes : Vector (Option ClassRange) 4) (t : Nat) (c : Fin 4) (r : ClassRange)
    (present : classes[c] = some r) (lo : r.lo ≤ t) (hi : t ≤ r.hi)
    (lower : ∀ (i : Fin 4) (q : ClassRange), i < c → classes[i] = some q → t < q.lo ∨ q.hi < t) :
    thicknessClass classes t = some c := by
  obtain ⟨before, after, split, below⟩ := allFour_split c
  refine List.find?_eq_some_iff_append.mpr ⟨?_, before, after, split, fun i mem => ?_⟩
  · rw [present]; simp [inRange, lo, hi]
  · cases h : classes[i] with
    | none => rfl
    | some q => have := lower i q (below i mem) h; simp [inRange]; omega

theorem kindLargest_le_iff (ds : List Defect) (k : DefectKind) (n : Nat) :
    kindLargest ds k ≤ n ↔ ∀ d ∈ ds, d.kind = k → d.size ≤ n := by
  rw [kindLargest, foldl_max_le_iff]
  simp only [Nat.zero_le, true_and, List.forall_mem_map, List.mem_filter, beq_iff_eq, and_imp]

theorem kindCount_eq_zero_iff (ds : List Defect) (k : DefectKind) :
    kindCount ds k = 0 ↔ ∀ d ∈ ds, d.kind ≠ k := by
  simp only [kindCount, List.length_eq_zero_iff, List.filter_eq_nil_iff, beq_iff_eq, ne_eq]

/-- The count and size tests of a kind: the size test holds by itself when the sheet has none of the kind (R20). -/
theorem kindPasses_iff (g : GradeRule) (ds : List Defect) (k : DefectKind) :
    kindPasses g ds k = true
      ↔ (∀ n, g.countLimit.get k = some n → kindCount ds k ≤ n)
        ∧ ∀ d ∈ ds, d.kind = k → d.size ≤ g.sizeLimit.get k := by
  have counted : (match g.countLimit.get k with | none => true | some n => decide (kindCount ds k ≤ n)) = true
      ↔ ∀ n, g.countLimit.get k = some n → kindCount ds k ≤ n := by
    cases g.countLimit.get k <;> simp
  have sized : (kindCount ds k == 0 || decide (kindLargest ds k ≤ g.sizeLimit.get k)) = true
      ↔ ∀ d ∈ ds, d.kind = k → d.size ≤ g.sizeLimit.get k := by
    rw [Bool.or_eq_true, beq_iff_eq, decide_eq_true_iff, kindCount_eq_zero_iff, kindLargest_le_iff]
    exact or_iff_right_of_imp fun absent d mem is => absurd is (absent d mem)
  rw [← counted, ← sized, ← Bool.and_eq_true]
  rfl

theorem mem_allKinds (k : DefectKind) : k ∈ allKinds := by
  cases k <;> decide

/-- The tests of a rule, each as the manual words it (R19 to R21). -/
theorem rulePasses_iff (g : GradeRule) (w : WidthClass) (cls : Nat) (v : Computed) (r : SheetData) :
    rulePasses g w cls v r = true
      ↔ (g.width = .any ∨ g.width = w) ∧ cls ∈ g.classes
        ∧ (g.moistureMin ≤ v.meanM ∧ v.meanM ≤ g.moistureMax) ∧ v.density ≤ g.densityLimit
        ∧ (∀ k n, g.countLimit.get k = some n → kindCount r.defects k ≤ n)
        ∧ (∀ d ∈ r.defects, d.size ≤ g.sizeLimit.get d.kind)
        ∧ (r.partialFlag = true → g.acceptPartial = true) := by
  have kinds : allKinds.all (kindPasses g r.defects) = true
      ↔ (∀ k n, g.countLimit.get k = some n → kindCount r.defects k ≤ n)
        ∧ ∀ d ∈ r.defects, d.size ≤ g.sizeLimit.get d.kind := by
    simp only [List.all_eq_true, mem_allKinds, true_imp_iff, kindPasses_iff, forall_and]
    exact and_congr_right' ⟨fun h d mem => h d.kind d mem rfl, fun h k d mem is => is ▸ h d mem⟩
  have whole : (!r.partialFlag || g.acceptPartial) = true ↔ (r.partialFlag = true → g.acceptPartial = true) := by
    cases r.partialFlag <;> simp
  simp only [rulePasses, Bool.and_eq_true, kinds, whole, inRange, Bool.or_eq_true, beq_iff_eq,
    decide_eq_true_iff, List.contains_iff_mem, and_assoc]

/-- Settles O25: the search finds the first rule that passes (R18). -/
theorem gradeSearch : Obligations.GradeSearch := by
  intro bank x dry v passes
  have passes_iff (c : Fin 4) (g : GradeRule) :
      rulePasses g (widthClassOf bank x.width) c.val v x = true ↔ passes c g := by
    rw [rulePasses_iff]
    rfl
  refine ⟨fun outside => evaluate_offGauge dry (thicknessClass_none _ _ outside),
    fun c r present lo hi lower => ?_⟩
  have on := thicknessClass_some _ _ c r present lo hi lower
  refine ⟨fun before after g split fail pass => ?_, fun fail => ?_⟩
  · refine evaluate_graded dry on (List.find?_eq_some_iff_append.mpr
      ⟨(passes_iff c g).mpr pass, before, after, split, fun h mem => ?_⟩)
    rw [Bool.not_eq_true', Bool.eq_false_iff, ne_eq, passes_iff]
    exact fail h mem
  · refine evaluate_noGrade dry on (List.find?_eq_none.mpr fun h mem => ?_)
    rw [passes_iff]
    exact fail h mem

end Sys2Proof.Machine
end

section
/-! SUPPORT. The bytes of a sheet report (R2, R185): what each reader gives and when it gives nothing, the layout of
Table 10-5 read back, and the malformed payloads; then the statement about them. -/

namespace Sys2Proof.Machine

/-! ### Numbers and codes as bytes -/

theorem be16_toBe16 {n : Nat} (h : n < 65536) : be16 (BitVec.ofNat 8 (n / 256)) (BitVec.ofNat 8 n) = n := by
  simp only [be16, BitVec.toNat_ofNat]
  omega

theorem kindOfCode_kindCode (k : DefectKind) : kindOfCode (kindCode k) = some k := by
  cases k <;> rfl

theorem kindOfCode_eq_none_iff (c : Byte) : kindOfCode c = none ↔ 7 < c.toNat := by
  rw [kindOfCode, List.getElem?_eq_none_iff]
  exact Nat.succ_le_iff

theorem zoneOfCode_eq_none_iff (c : Byte) : zoneOfCode c = none ↔ 1 < c.toNat := by
  unfold zoneOfCode
  match c.toNat with
  | 0 | 1 => simp
  | n + 2 => exact iff_of_true rfl (by omega)

/-! ### The layout read back -/

theorem readWords_toBe16 (ws : List Nat) (rest : List Byte) (h : ∀ m ∈ ws, m < 65536) :
    readWords ws.length (ws.flatMap toBe16 ++ rest) = some (ws, rest) := by
  induction ws with
  | nil => rfl
  | cons w ws ih =>
    rw [List.forall_mem_cons] at h
    have head : (w :: ws).flatMap toBe16 ++ rest
        = BitVec.ofNat 8 (w / 256) :: BitVec.ofNat 8 w :: (ws.flatMap toBe16 ++ rest) := rfl
    rw [head, List.length_cons, readWords, ih h.2]
    exact congrArg (fun n => some (n :: ws, rest)) (be16_toBe16 h.1)

theorem readDefects_succ_defectBytes (n : Nat) (d : Defect) (rest : List Byte) (h : d.size < 65536) :
    readDefects (n + 1) (defectBytes d ++ rest) = (readDefects n rest).map (fun x => (d :: x.1, x.2)) := by
  obtain ⟨kind, size, zone⟩ := d
  cases zone <;> simp only [defectBytes, toBe16, List.cons_append, List.nil_append, readDefects, kindOfCode_kindCode,
    be16_toBe16 h] <;> cases readDefects n rest <;> rfl

theorem readDefects_defectBytes (ds : List Defect) (rest : List Byte) (h : ∀ d ∈ ds, d.size < 65536) :
    readDefects ds.length (ds.flatMap defectBytes ++ rest) = some (ds, rest) := by
  induction ds with
  | nil => rfl
  | cons d ds ih =>
    rw [List.forall_mem_cons] at h
    rw [List.flatMap_cons, List.append_assoc, List.length_cons, readDefects_succ_defectBytes _ _ _ h.1, ih h.2]
    rfl

/-! ### What a reader gives of any bytes -/

/-- The words are read exactly when there are bytes enough. -/
theorem readWords_cases (n : Nat) (l : List Byte) :
    l.length < 2 * n ∧ readWords n l = none
    ∨ 2 * n ≤ l.length ∧ ∃ ws, readWords n l = some (ws, l.drop (2 * n)) := by
  induction n generalizing l with
  | zero => exact .inr ⟨Nat.zero_le _, [], rfl⟩
  | succ n ih =>
    match l with
    | [] => exact .inl ⟨by simp, rfl⟩
    | [_] => exact .inl ⟨by simp only [List.length_singleton]; omega, rfl⟩
    | hi :: lo :: rest =>
      simp only [List.length_cons]
      rcases ih rest with ⟨short, e⟩ | ⟨long, ws, e⟩
      · exact .inl ⟨by omega, by rw [readWords, e]⟩
      · exact .inr ⟨by omega, be16 hi lo :: ws, by rw [readWords, e]; rfl⟩

/-- One of the first `n` defects of `l` has a kind code or a zone code that names nothing (R2). -/
def BadCode (n : Nat) (l : List Byte) : Prop :=
  ∃ (i : Nat) (code : Byte), i < n
    ∧ (l[4 * i]? = some code ∧ 7 < code.toNat ∨ l[4 * i + 3]? = some code ∧ 1 < code.toNat)

theorem badCode_succ_iff (n : Nat) (k hi lo z : Byte) (rest : List Byte) :
    BadCode (n + 1) (k :: hi :: lo :: z :: rest) ↔ 7 < k.toNat ∨ 1 < z.toNat ∨ BadCode n rest := by
  constructor
  · rintro ⟨i, code, small, bad⟩
    cases i with
    | zero =>
      rcases bad with ⟨e, h⟩ | ⟨e, h⟩
      · cases e; exact .inl h
      · cases e; exact .inr (.inl h)
    | succ i => exact .inr (.inr ⟨i, code, by omega, bad⟩)
  · rintro (h | h | ⟨i, code, small, bad⟩)
    · exact ⟨0, k, by omega, .inl ⟨rfl, h⟩⟩
    · exact ⟨0, z, by omega, .inr ⟨rfl, h⟩⟩
    · exact ⟨i + 1, code, by omega, bad⟩

/-- The defects are read exactly when there are bytes enough and every code names something. -/
theorem readDefects_cases (n : Nat) (l : List Byte) :
    (l.length < 4 * n ∨ BadCode n l) ∧ readDefects n l = none
    ∨ 4 * n ≤ l.length ∧ ¬BadCode n l ∧ ∃ ds, readDefects n l = some (ds, l.drop (4 * n)) := by
  induction n generalizing l with
  | zero => exact .inr ⟨Nat.zero_le _, fun ⟨i, _, small, _⟩ => Nat.not_lt_zero i small, [], rfl⟩
  | succ n ih =>
    match l with
    | [] => exact .inl ⟨.inl (by simp), rfl⟩
    | [_] | [_, _] | [_, _, _] => exact .inl ⟨.inl (by simp only [List.length_cons, List.length_nil]; omega), rfl⟩
    | k :: hi :: lo :: z :: rest =>
      simp only [List.length_cons, badCode_succ_iff, ← kindOfCode_eq_none_iff, ← zoneOfCode_eq_none_iff]
      cases kind : kindOfCode k with
      | none => exact .inl ⟨.inr (.inl rfl), by simp only [readDefects, kind]⟩
      | some kind' =>
        cases zone : zoneOfCode z with
        | none => exact .inl ⟨.inr (.inr (.inl rfl)), by simp only [readDefects, kind, zone]⟩
        | some zone' =>
          rcases ih rest with ⟨short | bad, e⟩ | ⟨long, good, ds, e⟩
          · exact .inl ⟨.inl (by omega), by simp only [readDefects, kind, zone, e]⟩
          · exact .inl ⟨.inr (.inr (.inr bad)), by simp only [readDefects, kind, zone, e]⟩
          · refine .inr ⟨by omega, by simp [good], ⟨kind', be16 hi lo, zone'⟩ :: ds, ?_⟩
            simp only [readDefects, kind, zone, e]
            rfl

/-! ### A payload read, and a malformed one (R2) -/

/-- The fixed part of a payload: nine bytes, the counts at offsets 6 and 7. -/
theorem length_lt_nine_or (payload : List Byte) :
    payload.length < 9
    ∨ ∃ l1 l0 w1 w0 t1 t0 r d flags rest,
        payload = l1 :: l0 :: w1 :: w0 :: t1 :: t0 :: r :: d :: flags :: rest := by
  match payload with
  | l1 :: l0 :: w1 :: w0 :: t1 :: t0 :: r :: d :: flags :: rest => exact .inr ⟨_, _, _, _, _, _, _, _, _, _, rfl⟩
  | [] | [_] | [_, _] | [_, _, _] | [_, _, _, _] | [_, _, _, _, _] | [_, _, _, _, _, _] | [_, _, _, _, _, _, _]
  | [_, _, _, _, _, _, _, _] => exact .inl (by simp)

theorem parseReport_short {payload : List Byte} (h : payload.length < 9) : parseReport payload = none := by
  unfold parseReport
  split
  · simp only [List.length_cons] at h; omega
  · rfl

section
variable (l1 l0 w1 w0 t1 t0 r d flags : Byte) (rest : List Byte)

/-- A payload's malformedness, by the bytes that follow its fixed part. -/
theorem malformed_iff :
    Malformed (l1 :: l0 :: w1 :: w0 :: t1 :: t0 :: r :: d :: flags :: rest)
      ↔ rest.length ≠ 2 * r.toNat + 4 * d.toNat ∨ r.toNat = 0 ∨ 8 < r.toNat ∨ 32 < d.toNat
        ∨ BadCode d.toNat (rest.drop (2 * r.toNat)) := by
  have code_at (j : Nat) : (l1 :: l0 :: w1 :: w0 :: t1 :: t0 :: r :: d :: flags :: rest)[9 + 2 * r.toNat + j]?
      = (rest.drop (2 * r.toNat))[j]? := by
    rw [show 9 + 2 * r.toNat + j = 2 * r.toNat + j + 9 by omega, List.getElem?_drop]
    rfl
  have sized : (l1 :: l0 :: w1 :: w0 :: t1 :: t0 :: r :: d :: flags :: rest).length
      = 9 + 2 * r.toNat + 4 * d.toNat ↔ rest.length = 2 * r.toNat + 4 * d.toNat := by
    simp only [List.length_cons]; omega
  have codes : BadCode d.toNat (rest.drop (2 * r.toNat)) ↔ ∃ (i : Nat) (code : Byte), i < d.toNat
      ∧ ((l1 :: l0 :: w1 :: w0 :: t1 :: t0 :: r :: d :: flags :: rest)[9 + 2 * r.toNat + 4 * i]? = some code
          ∧ 7 < code.toNat
        ∨ (l1 :: l0 :: w1 :: w0 :: t1 :: t0 :: r :: d :: flags :: rest)[9 + 2 * r.toNat + 4 * i + 3]? = some code
          ∧ 1 < code.toNat) := by
    simp only [Nat.add_assoc _ (4 * _), code_at, BadCode]
  rw [codes, ne_eq, ← sized]
  constructor
  · rintro (short | ⟨r', d', hr, hd, bad⟩)
    · simp only [List.length_cons] at short; omega
    · cases hr; cases hd
      exact bad
  · exact fun bad => .inr ⟨r, d, rfl, rfl, bad⟩

/-- A payload is read as no report exactly when it is malformed. -/
theorem parseReport_cons_eq_none_iff :
    parseReport (l1 :: l0 :: w1 :: w0 :: t1 :: t0 :: r :: d :: flags :: rest) = none
      ↔ Malformed (l1 :: l0 :: w1 :: w0 :: t1 :: t0 :: r :: d :: flags :: rest) := by
  rw [malformed_iff, parseReport]
  by_cases counts : r.toNat = 0 ∨ 8 < r.toNat ∨ 32 < d.toNat
  · rw [if_pos counts]; tauto
  · rw [if_neg counts]
    have tail : (rest.drop (2 * r.toNat)).length = rest.length - 2 * r.toNat := List.length_drop
    rcases readWords_cases r.toNat rest with ⟨short, e⟩ | ⟨long, ws, e⟩
    · simp only [e, true_iff]; left; omega
    · rcases readDefects_cases d.toNat (rest.drop (2 * r.toNat)) with ⟨short | bad, e'⟩ | ⟨long', good, ds, e'⟩
      · simp only [e, e', true_iff]; left; omega
      · simp only [e, e', true_iff]; tauto
      · have left := List.length_drop (i := 4 * d.toNat) (l := rest.drop (2 * r.toNat))
        simp only [e, e']
        cases h : (rest.drop (2 * r.toNat)).drop (4 * d.toNat) with
        | nil =>
          rw [h, List.length_nil] at left
          exact iff_of_false nofun (by simp only [good, or_false]; omega)
        | cons b bs =>
          rw [h, List.length_cons] at left
          exact iff_of_true rfl (.inl (by omega))

end

/-- A payload is read as no report exactly when it is malformed (R2). -/
theorem parseReport_eq_none_iff (payload : List Byte) : parseReport payload = none ↔ Malformed payload := by
  rcases length_lt_nine_or payload with short | ⟨l1, l0, w1, w0, t1, t0, r, d, flags, rest, rfl⟩
  · exact iff_of_true (parseReport_short short) (.inl short)
  · exact parseReport_cons_eq_none_iff l1 l0 w1 w0 t1 t0 r d flags rest

/-! ### The payload of a report (Table 10-5) -/

/-- The bytes of a payload after its fixed part. -/
def reportTail (x : SheetData) : List Byte := x.readings.flatMap toBe16 ++ x.defects.flatMap defectBytes

theorem reportBytes_eq (x : SheetData) (flags : Byte) :
    reportBytes x flags
      = BitVec.ofNat 8 (x.length / 256) :: BitVec.ofNat 8 x.length :: BitVec.ofNat 8 (x.width / 256)
        :: BitVec.ofNat 8 x.width :: BitVec.ofNat 8 (x.thickness / 256) :: BitVec.ofNat 8 x.thickness
        :: BitVec.ofNat 8 x.readings.length :: BitVec.ofNat 8 x.defects.length :: flags :: reportTail x := by
  simp only [reportBytes, reportTail, toBe16, List.cons_append, List.nil_append]

theorem flatMap_length_of_const {α β : Type} (f : α → List β) (k : Nat) (h : ∀ a, (f a).length = k) (l : List α) :
    (l.flatMap f).length = k * l.length := by
  simp [List.length_flatMap, h, Nat.mul_comm]

theorem reportTail_length (x : SheetData) :
    (reportTail x).length = 2 * x.readings.length + 4 * x.defects.length := by
  rw [reportTail, List.length_append, flatMap_length_of_const toBe16 2 (fun _ => rfl),
    flatMap_length_of_const defectBytes 4 (fun _ => rfl)]

theorem reportBytes_length (x : SheetData) (flags : Byte) :
    (reportBytes x flags).length = 9 + 2 * x.readings.length + 4 * x.defects.length := by
  rw [reportBytes_eq]
  simp only [List.length_cons, reportTail_length]
  omega

/-- With the counts of a report at offsets 6 and 7, a payload of another length is malformed (R2). -/
theorem malformed_of_length {payload : List Byte} {x : SheetData} (readings : x.readings.length < 256)
    (defects : x.defects.length < 256)
    (r : payload[6]? = some (BitVec.ofNat 8 x.readings.length))
    (d : payload[7]? = some (BitVec.ofNat 8 x.defects.length))
    (h : payload.length ≠ 9 + 2 * x.readings.length + 4 * x.defects.length) : Malformed payload := by
  refine .inr ⟨_, _, r, d, .inl ?_⟩
  simpa only [BitVec.toNat_ofNat, Nat.mod_eq_of_lt readings, Nat.mod_eq_of_lt defects] using h

/-- Every field within what its bytes hold, the counts within R2's. -/
structure ReportFits (x : SheetData) : Prop where
  length : x.length < 65536
  width : x.width < 65536
  thickness : x.thickness < 65536
  someReading : 1 ≤ x.readings.length
  readingCount : x.readings.length ≤ 8
  readings : ∀ m ∈ x.readings, m < 65536
  defectCount : x.defects.length ≤ 32
  defects : ∀ d ∈ x.defects, d.size < 65536

theorem parseReport_reportBytes {x : SheetData} (fits : ReportFits x) {flags : Byte}
    (whole : flags.getLsbD 0 = x.partialFlag) : parseReport (reportBytes x flags) = some x := by
  obtain ⟨length, width, thickness, someReading, readingCount, readings, defectCount, defects⟩ := fits
  have r : (BitVec.ofNat 8 x.readings.length).toNat = x.readings.length := Nat.mod_eq_of_lt (by omega)
  have d : (BitVec.ofNat 8 x.defects.length).toNat = x.defects.length := Nat.mod_eq_of_lt (by omega)
  have counts : ¬(x.readings.length = 0 ∨ 8 < x.readings.length ∨ 32 < x.defects.length) := by omega
  have words := readWords_toBe16 x.readings (x.defects.flatMap defectBytes) readings
  have codes := readDefects_defectBytes x.defects [] defects
  rw [List.append_nil] at codes
  rw [reportBytes_eq, parseReport, r, d, if_neg counts, reportTail, words]
  simp only [codes, be16_toBe16 length, be16_toBe16 width, be16_toBe16 thickness, whole]

/-- Settles O26: the layout read back, and a length that is not the layout's. -/
theorem sheetReportReadsBack : Obligations.SheetReportReadsBack := by
  refine ⟨fun x flags length width thickness someReading readingCount readings defectCount defects whole => ?_,
    parseReport_eq_none_iff⟩
  have fits : ReportFits x := ⟨length, width, thickness, someReading, readingCount, readings, defectCount, defects⟩
  have size := reportBytes_length x flags
  refine ⟨parseReport_reportBytes fits whole, size, fun b => ?_, ?_⟩ <;> rw [parseReport_eq_none_iff]
  · refine malformed_of_length (x := x) (by omega) (by omega) ?_ ?_ ?_
    · rw [reportBytes_eq]; rfl
    · rw [reportBytes_eq]; rfl
    · rw [List.length_append, size, List.length_singleton]; omega
  · refine malformed_of_length (x := x) (by omega) (by omega) ?_ ?_ ?_
    · rw [List.getElem?_dropLast, if_pos (by omega), reportBytes_eq]; rfl
    · rw [List.getElem?_dropLast, if_pos (by omega), reportBytes_eq]; rfl
    · rw [List.length_dropLast, size]; omega

end Sys2Proof.Machine
end

section
/-! SUPPORT. The tracking entries (chapter 3): what is found after an entry changes or leaves, the queue that the sweep of
R69 leaves, what the entry eye shows after entries have left (R52), and the count of mismatches (R68). -/

namespace Sys2Proof.Machine

/-! ### The replacement and the removal in a list -/

theorem mem_updFirst_of_not {α : Type} {p : α → Bool} (f : α → α) {x : α} {l : List α} (h : x ∈ l)
    (other : p x = false) : x ∈ updFirst p f l := by
  induction l with
  | nil => cases h
  | cons y ys ih =>
    unfold updFirst
    rcases List.mem_cons.mp h with rfl | h
    · simp [other]
    · split
      · exact List.mem_cons_of_mem _ h
      · exact List.mem_cons_of_mem _ (ih h)

theorem map_updFirst {α β : Type} (g : α → β) (p : α → Bool) (f : α → α) (l : List α) (h : ∀ x, g (f x) = g x) :
    (updFirst p f l).map g = l.map g := by
  induction l with
  | nil => rfl
  | cons y ys ih =>
    unfold updFirst
    split
    · rw [List.map_cons, List.map_cons, h]
    · rw [List.map_cons, List.map_cons, ih]

theorem find_eraseP_ne {α : Type} (p q : α → Bool) (l : List α) (h : ∀ x ∈ l, p x = true → q x = false) :
    (l.eraseP p).find? q = l.find? q := by
  induction l with
  | nil => rfl
  | cons y ys ih =>
    rw [List.forall_mem_cons] at h
    rw [List.eraseP_cons]
    cases hy : p y
    · rw [cond_false, List.find?_cons, List.find?_cons, ih h.2]
    · rw [cond_true, List.find?_cons, h.1 hy]

section
variable (n : EntryId) {q : List Entry} (distinct : (q.map Entry.id).Nodup)
include distinct

/-- In a queue of distinct sheets no entry behind the head is of the head's sheet. -/
theorem id_ne_of_cons {x : Entry} {xs : List Entry} (h : q = x :: xs) : ∀ y ∈ xs, y.id ≠ x.id := by
  intro y mem e
  rw [h, List.map_cons, List.nodup_cons] at distinct
  exact distinct.1 (e ▸ List.mem_map_of_mem mem)

theorem updFirst_eq_map (f : Entry → Entry) :
    updFirst (fun e => e.id == n) f q = q.map (fun e => if e.id = n then f e else e) := by
  induction q with
  | nil => rfl
  | cons x xs ih =>
    rw [updFirst, List.map_cons]
    by_cases hx : x.id = n
    · have others : xs.map (fun e => if e.id = n then f e else e) = xs :=
        (List.map_congr_left fun y mem => if_neg (hx ▸ id_ne_of_cons distinct rfl y mem)).trans (List.map_id' xs)
      rw [if_pos (beq_iff_eq.mpr hx), if_pos hx, others]
    · rw [if_neg (by simpa using hx), if_neg hx, ih (List.nodup_cons.mp distinct).2]

theorem eraseP_eq_filter : q.eraseP (fun e => e.id == n) = q.filter (fun e => e.id != n) := by
  induction q with
  | nil => rfl
  | cons x xs ih =>
    rw [List.eraseP_cons, List.filter_cons]
    by_cases hx : x.id = n
    · have others : xs.filter (fun e => e.id != n) = xs :=
        List.filter_eq_self.mpr fun y mem => bne_iff_ne.mpr (hx ▸ id_ne_of_cons distinct rfl y mem)
      simp [hx, others]
    · rw [beq_false_of_ne hx, cond_false, if_pos (bne_iff_ne.mpr hx), ih (List.nodup_cons.mp distinct).2]

end

/-! ### What is found -/

theorem findEntry_id {n : EntryId} {s : State} {e : Entry} (h : findEntry n s = some e) : e.id = n := by
  unfold findEntry at h
  simpa using List.find?_some h

theorem findEntry_mem {n : EntryId} {s : State} {e : Entry} (h : findEntry n s = some e) : e ∈ s.tracker.queue :=
  List.mem_of_find?_eq_some h

/-- Among distinct sheets an entry of the queue is the one found under its sheet. -/
theorem findEntry_of_mem {s : State} (distinct : EntriesDistinct s) {e : Entry} (mem : e ∈ s.tracker.queue) :
    findEntry e.id s = some e := by
  cases h : findEntry e.id s with
  | none => exact absurd (by simp) (List.find?_eq_none.mp h e mem)
  | some x => rw [List.inj_on_of_nodup_map distinct (findEntry_mem h) mem (findEntry_id h)]

theorem findEntry_congr {s t : State} (h : t.tracker.queue = s.tracker.queue) (n : EntryId) :
    findEntry n t = findEntry n s := by
  unfold findEntry; rw [h]

theorem findEntry_setEntry_self {n : EntryId} {s : State} {e : Entry} {f : Entry → Entry}
    (h : findEntry n s = some e) (keeps : (f e).id = e.id) : findEntry n (setEntry n f s) = some (f e) :=
  find_updFirst _ f _ e h (by rw [beq_iff_eq, keeps, findEntry_id h])

theorem findEntry_setEntry_ne {m n : EntryId} (h : m ≠ n) {f : Entry → Entry} (keeps : ∀ e, (f e).id = e.id)
    (s : State) : findEntry m (setEntry n f s) = findEntry m s := by
  refine find_updFirst_ne _ _ f _ fun x _ is => ?_
  rw [beq_iff_eq] at is
  rw [keeps, is, beq_false_of_ne h.symm]
  exact ⟨rfl, rfl⟩

theorem findEntry_removeEntry_ne {m n : EntryId} (h : m ≠ n) (s : State) :
    findEntry m (removeEntry n s) = findEntry m s := by
  refine find_eraseP_ne _ _ _ fun x _ is => ?_
  rw [beq_iff_eq] at is
  rw [is, beq_false_of_ne h.symm]

theorem findEntry_dropAtBeltEnd_ne {m n : EntryId} (h : m ≠ n) (s : State) :
    findEntry m (dropAtBeltEnd n s) = findEntry m s := by
  rcases dropAtBeltEnd_cases n s with e | ⟨x, -, -, -, e⟩ <;> rw [e]
  exact findEntry_removeEntry_ne h s

/-- Where an entry lies is read from the geometry and the travel. -/
theorem atBeltEnd_congr {s t : State} (geometry : t.geometry = s.geometry)
    (travel : t.tracker.travel = s.tracker.travel) (e : Entry) : atBeltEnd e t = atBeltEnd e s := by
  unfold atBeltEnd travelOf
  rw [geometry, travel]

theorem BeltFrame.atBeltEnd_eq {s t : State} (h : BeltFrame s t) (e : Entry) : atBeltEnd e t = atBeltEnd e s :=
  atBeltEnd_congr h.geometry h.travel e

/-- An entry as a rejection leaves it (R66). -/
def Entry.rejected (why : RejectReason) (values : Option Computed) (e : Entry) : Entry :=
  { e with state := .toReject, verdict := some (.reject why values) }

theorem rejectEntry_eq (n : EntryId) (why : RejectReason) (values : Option Computed) (s : State) :
    rejectEntry n why values s = dropAtBeltEnd n (setEntry n (Entry.rejected why values) s) := rfl

theorem findEntry_rejectEntry_ne {m n : EntryId} (h : m ≠ n) (why : RejectReason) (values : Option Computed)
    (s : State) : findEntry m (rejectEntry n why values s) = findEntry m s := by
  rw [rejectEntry_eq, findEntry_dropAtBeltEnd_ne h,
    findEntry_setEntry_ne h (f := Entry.rejected why values) (fun _ => rfl)]

theorem dropAtBeltEnd_before {n : EntryId} {s : State} {e : Entry} (h : findEntry n s = some e)
    (before : atBeltEnd e s = false) : dropAtBeltEnd n s = s := by
  rcases dropAtBeltEnd_cases n s with same | ⟨x, found, -, beyond, -⟩
  · exact same
  · rw [h] at found
    cases found
    rw [before] at beyond
    cases beyond

/-- A rejected entry that lies before the belt end stays in the queue (R66). -/
theorem rejectEntry_before {n : EntryId} (why : RejectReason) (values : Option Computed) {s : State} {e : Entry}
    (h : findEntry n s = some e) (before : atBeltEnd e s = false) :
    rejectEntry n why values s = setEntry n (Entry.rejected why values) s := by
  rw [rejectEntry_eq]
  exact dropAtBeltEnd_before (findEntry_setEntry_self h rfl) before

theorem findEntry_rejectEntry_self {n : EntryId} (why : RejectReason) (values : Option Computed) {s : State}
    {e : Entry} (h : findEntry n s = some e) (before : atBeltEnd e s = false) :
    findEntry n (rejectEntry n why values s) = some (e.rejected why values) := by
  rw [rejectEntry_before why values h before]
  exact findEntry_setEntry_self h rfl

/-! ### The sweep of the waiting entries (R69) -/

/-- One entry of the sweep: nothing but an AWAIT_REPORT entry is rejected. -/
theorem sweepEntry_cases (s : State) (n : EntryId) :
    (∃ e, findEntry n s = some e ∧ e.state = .awaitReport ∧ sweepEntry s n = rejectEntry n .outOfStep none s)
    ∨ ((∀ e, findEntry n s = some e → e.state ≠ .awaitReport) ∧ sweepEntry s n = s) := by
  unfold sweepEntry
  cases h : findEntry n s with
  | none => exact .inr ⟨nofun, rfl⟩
  | some e =>
    by_cases waits : e.state = .awaitReport
    · exact .inl ⟨e, rfl, waits, if_pos waits⟩
    · exact .inr ⟨fun x is => by cases is; exact waits, if_neg waits⟩

/-- A fold of the sweep keeps what each of its rejections keeps. -/
theorem sweepAwaiting_keeps (inv : State → Prop)
    (h : ∀ s n e, findEntry n s = some e → e.state = .awaitReport → inv s → inv (rejectEntry n .outOfStep none s))
    (s : State) (hs : inv s) : inv (sweepAwaiting s) := by
  refine foldl_keeps inv sweepEntry (fun s n hs => ?_) _ s hs
  rcases sweepEntry_cases s n with ⟨e, found, waits, same⟩ | ⟨-, same⟩ <;> rw [same]
  · exact h s n e found waits hs
  · exact hs

/-- The sweep leaves alone the entry found under a sheet, when that one does not wait for its report. -/
theorem findEntry_sweepAwaiting {m : EntryId} {s : State} {e : Entry} (h : findEntry m s = some e)
    (judged : e.state ≠ .awaitReport) : findEntry m (sweepAwaiting s) = some e := by
  refine sweepAwaiting_keeps (fun t => findEntry m t = some e) (fun t n x found waits keep => ?_) s h
  have other : m ≠ n := by
    rintro rfl
    rw [keep] at found
    cases found
    exact judged waits
  rw [findEntry_rejectEntry_ne other, keep]

/-- What the sweep makes of an entry: a waiting one is rejected, and is gone when it lies at the belt end. -/
def sweptEntry (s : State) (e : Entry) : Option Entry :=
  if e.state = .awaitReport then if atBeltEnd e s then none else some (e.rejected .outOfStep none) else some e

theorem sweptEntry_id {s : State} {e x : Entry} (h : sweptEntry s e = some x) : x.id = e.id := by
  unfold sweptEntry at h
  split at h
  · split at h <;> cases h
    rfl
  · cases h; rfl

/-- What the sweep has left it leaves again. -/
theorem sweptEntry_again {s : State} {e x : Entry} (h : sweptEntry s e = some x) : sweptEntry s x = some x := by
  have judged : x.state ≠ .awaitReport := by
    unfold sweptEntry at h
    split at h
    · split at h <;> cases h
      nofun
    · next judged => cases h; exact judged
  exact if_neg judged

theorem sweptEntry_congr {s t : State} (h : BeltFrame s t) : sweptEntry t = sweptEntry s := by
  funext e
  unfold sweptEntry
  rw [h.atBeltEnd_eq]

theorem EntriesDistinct.setEntry {s : State} (distinct : EntriesDistinct s) (n : EntryId) {f : Entry → Entry}
    (keeps : ∀ e, (f e).id = e.id) : EntriesDistinct (setEntry n f s) := by
  unfold EntriesDistinct at *
  rwa [setEntry_tracker, map_updFirst _ _ _ _ keeps]

theorem dropAtBeltEnd_queue (n : EntryId) {s : State} (distinct : EntriesDistinct s) :
    (dropAtBeltEnd n s).tracker.queue
      = s.tracker.queue.filter (fun e => !(e.id == n && e.state == .toReject && atBeltEnd e s)) := by
  have only {e x : Entry} (found : findEntry n s = some e) (mem : x ∈ s.tracker.queue) (is : x.id = n) : x = e :=
    List.inj_on_of_nodup_map distinct mem (findEntry_mem found) (is.trans (findEntry_id found).symm)
  unfold dropAtBeltEnd
  split
  · next e found =>
    split
    · next gone =>
      have erased : (tally (countVerdict e.verdict) (removeEntry n s)).tracker.queue
          = s.tracker.queue.eraseP (fun x => x.id == n) := rfl
      rw [erased, eraseP_eq_filter n distinct]
      refine List.filter_congr fun x mem => ?_
      rw [Bool.and_assoc]
      by_cases is : x.id = n
      · rw [only found mem is, gone, Bool.and_true]; rfl
      · rw [bne, beq_false_of_ne is]; rfl
    · next stays =>
      refine (List.filter_eq_self.mpr fun x mem => ?_).symm
      rw [Bool.and_assoc]
      by_cases is : x.id = n
      · rw [only found mem is, Bool.eq_false_iff.mpr stays, Bool.and_false]; rfl
      · rw [beq_false_of_ne is]; rfl
  · next missing =>
    refine (List.filter_eq_self.mpr fun x mem => ?_).symm
    have : (x.id == n) = false := by simpa using List.find?_eq_none.mp missing x mem
    rw [this]
    rfl

theorem rejectEntry_queue (n : EntryId) (why : RejectReason) (values : Option Computed) {s : State}
    (distinct : EntriesDistinct s) :
    (rejectEntry n why values s).tracker.queue
      = s.tracker.queue.filterMap (fun e =>
          if e.id = n then if atBeltEnd e s then none else some (e.rejected why values) else some e) := by
  have changed : EntriesDistinct (setEntry n (Entry.rejected why values) s) := distinct.setEntry n fun _ => rfl
  rw [rejectEntry_eq, dropAtBeltEnd_queue n changed, setEntry_tracker]
  dsimp only
  rw [updFirst_eq_map n distinct, ← List.filterMap_eq_filter, List.filterMap_map]
  refine List.filterMap_congr fun e _ => ?_
  have same : atBeltEnd (e.rejected why values) (setEntry n (Entry.rejected why values) s) = atBeltEnd e s := rfl
  have id_same : (e.rejected why values).id = e.id := rfl
  have state_same : (e.rejected why values).state = .toReject := rfl
  by_cases is : e.id = n
  · simp only [Function.comp_apply, is, ↓reduceIte, Option.guard, id_same, state_same, same, BEq.rfl, Bool.true_and]
    cases atBeltEnd e s <;> rfl
  · simp [is, Option.guard]

/-- The sweep of one sheet, on the queue. -/
theorem sweepEntry_queue (n : EntryId) {s : State} (distinct : EntriesDistinct s) :
    (sweepEntry s n).tracker.queue
      = s.tracker.queue.filterMap (fun e => if e.id = n then sweptEntry s e else some e) := by
  have found_of {x : Entry} (mem : x ∈ s.tracker.queue) (is : x.id = n) : findEntry n s = some x :=
    is ▸ findEntry_of_mem distinct mem
  rcases sweepEntry_cases s n with ⟨e, found, waits, same⟩ | ⟨judged, same⟩ <;> rw [same]
  · rw [rejectEntry_queue n .outOfStep none distinct]
    refine List.filterMap_congr fun x mem => ?_
    by_cases is : x.id = n
    · have : x = e := Option.some.inj ((found_of mem is).symm.trans found)
      have waits' : x.state = .awaitReport := this ▸ waits
      rw [if_pos is, if_pos is, sweptEntry, if_pos waits']
    · rw [if_neg is, if_neg is]
  · refine (List.filterMap_some.symm.trans (List.filterMap_congr fun x mem => ?_))
    by_cases is : x.id = n
    · rw [if_pos is, sweptEntry, if_neg (judged x (found_of mem is))]
    · rw [if_neg is]

/-! ### The entry eye after entries have left (R52) -/

/-- In a list without repetition the last item stays the last while it is there. -/
theorem getLast?_of_sublist {α : Type} {l l' : List α} (sub : l'.Sublist l) (nodup : l.Nodup) {a : α}
    (last : l.getLast? = some a) (mem : a ∈ l') : l'.getLast? = some a := by
  obtain ⟨q, rfl⟩ := List.getLast?_eq_some_iff.mp last
  obtain ⟨l1, l2, rfl, sub1, sub2⟩ := List.sublist_append_iff.mp sub
  rcases List.sublist_singleton.mp sub2 with rfl | rfl
  · rw [List.append_nil] at mem
    exact absurd rfl ((List.nodup_append.mp nodup).2.2 a (sub1.subset mem) a List.mem_cons_self)
  · exact List.getLast?_concat

/-- Entries of `s` may have left, those that stay are in the order they had, and the entry eye follows (R52). -/
structure EntriesLeave (s t : State) : Prop where
  order : (t.tracker.queue.map Entry.id).Sublist (s.tracker.queue.map Entry.id)
  eye : EntriesDistinct s → EyeFollows s t

theorem EyeFollows.of_ids {s t : State} (ids : t.tracker.queue.map Entry.id = s.tracker.queue.map Entry.id)
    (eye : t.tracker.eye = s.tracker.eye) : EyeFollows s t where
  removed e _ last gone := by
    rw [ids] at gone
    exact absurd (List.mem_map_of_mem (List.mem_of_getLast? last)) gone
  left _ _ _ := eye
  untracked _ := eye

namespace EntriesLeave

theorem of_ids {s t : State} (ids : t.tracker.queue.map Entry.id = s.tracker.queue.map Entry.id)
    (eye : t.tracker.eye = s.tracker.eye) : EntriesLeave s t :=
  ⟨ids ▸ List.Sublist.refl _, fun _ => .of_ids ids eye⟩

theorem of_tracker {s t : State} (same : t.tracker = s.tracker) : EntriesLeave s t :=
  of_ids (by rw [same]) (by rw [same])

theorem refl (s : State) : EntriesLeave s s := of_tracker rfl

theorem distinct {s t : State} (h : EntriesLeave s t) (d : EntriesDistinct s) : EntriesDistinct t :=
  h.order.nodup d

theorem trans {s t u : State} (h : EntriesLeave s t) (k : EntriesLeave t u) : EntriesLeave s u := by
  refine ⟨k.order.trans h.order, fun d => ?_⟩
  have first := h.eye d
  have second := k.eye (h.distinct d)
  have last_in_t {e : Entry} (last : s.tracker.queue.getLast? = some e) (mem : e.id ∈ t.tracker.queue.map Entry.id) :
      ∃ x, t.tracker.queue.getLast? = some x ∧ x.id = e.id := by
    have := getLast?_of_sublist h.order d (by rw [List.getLast?_map, last]; rfl) mem
    rwa [List.getLast?_map, Option.map_eq_some_iff] at this
  refine ⟨fun e tracked last gone => ?_, fun e last mem => ?_, fun other => ?_⟩
  · by_cases mem : e.id ∈ t.tracker.queue.map Entry.id
    · obtain ⟨x, last', is⟩ := last_in_t last mem
      exact second.removed x ((first.left e last mem).trans tracked) last' (is ▸ gone)
    · have untracked := first.removed e tracked last mem
      rw [second.untracked (by rw [untracked]; nofun), untracked]
  · have mem' := k.order.subset mem
    obtain ⟨x, last', is⟩ := last_in_t last mem'
    rw [second.left x last' (is ▸ mem), first.left e last mem']
  · have same := first.untracked other
    rw [second.untracked (by rwa [same]), same]

theorem setEntry (n : EntryId) {f : Entry → Entry} (keeps : ∀ e, (f e).id = e.id) (s : State) :
    EntriesLeave s (setEntry n f s) :=
  of_ids (map_updFirst _ _ f _ keeps) rfl

theorem removeEntry (n : EntryId) (s : State) : EntriesLeave s (removeEntry n s) := by
  have queue : (Machine.removeEntry n s).tracker.queue = s.tracker.queue.eraseP (fun e => e.id == n) := rfl
  have eye : (Machine.removeEntry n s).tracker.eye
      = if s.tracker.eye == .blockedTracked
            && (s.tracker.queue.eraseP (fun e => e.id == n)).getLast? != s.tracker.queue.getLast?
        then .blockedUntracked else s.tracker.eye := rfl
  have sub : (s.tracker.queue.eraseP (fun e => e.id == n)).Sublist s.tracker.queue := List.eraseP_sublist
  refine ⟨queue ▸ sub.map _, fun d => ⟨fun e tracked last gone => ?_, fun e last mem => ?_, fun other => ?_⟩⟩
  · have moved : (s.tracker.queue.eraseP (fun e => e.id == n)).getLast? ≠ some e := fun still =>
      gone (queue ▸ List.mem_map_of_mem (List.mem_of_getLast? still))
    rw [eye, last, tracked, if_pos (by simpa using moved)]
  · rw [queue] at mem
    obtain ⟨x, mem, is⟩ := List.mem_map.mp mem
    have : x = e := List.inj_on_of_nodup_map d (sub.subset mem) (List.mem_of_getLast? last) is
    have still := getLast?_of_sublist sub (List.Nodup.of_map _ d) last (this ▸ mem)
    rw [eye, still, last, if_neg (by simp)]
  · rw [eye, if_neg (by simp [other])]

theorem dropAtBeltEnd (n : EntryId) (s : State) : EntriesLeave s (dropAtBeltEnd n s) := by
  rcases dropAtBeltEnd_cases n s with same | ⟨e, -, -, -, same⟩ <;> rw [same]
  · exact refl s
  · exact (removeEntry n s).trans (of_tracker (tally_tracker _ _))

theorem rejectEntry (n : EntryId) (why : RejectReason) (values : Option Computed) (s : State) :
    EntriesLeave s (rejectEntry n why values s) :=
  (setEntry n (f := Entry.rejected why values) (fun _ => rfl) s).trans (dropAtBeltEnd n _)

theorem sweepEntry (s : State) (n : EntryId) : EntriesLeave s (sweepEntry s n) := by
  rcases sweepEntry_cases s n with ⟨e, -, -, same⟩ | ⟨-, same⟩ <;> rw [same]
  · exact rejectEntry n _ _ s
  · exact refl s

theorem sweepAwaiting (s : State) : EntriesLeave s (sweepAwaiting s) :=
  foldl_rel EntriesLeave refl (fun _ _ _ => trans) _ sweepEntry _ s

theorem setMismatches (m : Nat) (s : State) : EntriesLeave s (setMismatches m s) := by
  have counted : EntriesLeave s (setTracker (fun t => { t with mismatches := m }) s) := of_ids rfl rfl
  rcases setMismatches_cases m s with ⟨-, same⟩ | ⟨-, -, same⟩ | ⟨-, -, same⟩ <;> rw [same]
  · exact counted
  · exact counted.trans (of_tracker rfl)
  · refine trans ?_ (sweepAwaiting _)
    exact of_ids rfl rfl

theorem countMismatch (s : State) : EntriesLeave s (countMismatch s) := setMismatches _ s

theorem finish (s : State) : EntriesLeave s (finish s) := of_tracker (finish_tracker s)

theorem applyRoute (n : EntryId) (plan : RoutePlan) (s : State) : EntriesLeave s (applyRoute n plan s) := by
  cases plan with
  | bin b key target =>
    have placed := (of_tracker (openLift_tracker b key target s)).trans
      (of_tracker (setBin_tracker b (fun x => { x with state := x.state.commit }) (openLift b key target s)))
    exact placed.trans (setEntry n (by exact fun _ => rfl) _)
  | redryGate p => exact setEntry n (by exact fun _ => rfl) s
  | beltEnd why values => exact rejectEntry n why values s

end EntriesLeave

/-! ### The queue that the sweep leaves (R69) -/

theorem foldl_sweepEntry_queue (ns : List EntryId) {s : State} (distinct : EntriesDistinct s) :
    (ns.foldl sweepEntry s).tracker.queue
      = s.tracker.queue.filterMap (fun e => if e.id ∈ ns then sweptEntry s e else some e) := by
  induction ns generalizing s with
  | nil => simp
  | cons n ns ih =>
    have frame : BeltFrame s (sweepEntry s n) := by
      rcases sweepEntry_cases s n with ⟨e, -, -, same⟩ | ⟨-, same⟩ <;> rw [same]
      · exact rejectEntry_beltFrame n _ _ s
      · exact .refl s
    rw [List.foldl_cons, ih ((EntriesLeave.sweepEntry s n).distinct distinct), sweptEntry_congr frame,
      sweepEntry_queue n distinct, List.filterMap_filterMap]
    refine List.filterMap_congr fun e _ => ?_
    by_cases is : e.id = n
    · rw [if_pos is, if_pos (is ▸ List.mem_cons_self)]
      cases swept : sweptEntry s e with
      | none => rfl
      | some x =>
        rw [Option.bind_some, sweptEntry_again swept, ite_self]
    · rw [if_neg is, Option.bind_some]
      simp only [List.mem_cons, is, false_or]

/-- The sweep makes of every entry what `sweptEntry` says, in the queue's order. -/
theorem sweepAwaiting_queue {s : State} (distinct : EntriesDistinct s) :
    (sweepAwaiting s).tracker.queue = s.tracker.queue.filterMap (sweptEntry s) := by
  rw [sweepAwaiting, foldl_sweepEntry_queue _ distinct]
  refine List.filterMap_congr fun e mem => ?_
  by_cases waits : e.state = .awaitReport
  · have listed : e.id ∈ entriesWhere (fun e => e.state == .awaitReport) s :=
      List.mem_map_of_mem (List.mem_filter.mpr ⟨mem, beq_iff_eq.mpr waits⟩)
    rw [if_pos listed]
  · rw [sweptEntry, if_neg waits, ite_self]

/-- Entry into OUT_OF_STEP, as the sweep carries it out (R69). -/
theorem sweepAwaiting_entered {s : State} (distinct : EntriesDistinct s) :
    OutOfStepEntered none s (sweepAwaiting s) := by
  have queue := sweepAwaiting_queue distinct
  refine ⟨fun e mem waits _ before => ?_, fun e mem waits _ beyond => ?_, fun e mem judged _ => ?_,
    (EntriesLeave.sweepAwaiting s).order⟩
  · rw [queue]
    exact List.mem_filterMap.mpr ⟨e, mem, by rw [sweptEntry, if_pos waits, before]; rfl⟩
  · rw [queue]
    intro still
    obtain ⟨x, mem', is⟩ := List.mem_map.mp still
    obtain ⟨y, mem'', swept⟩ := List.mem_filterMap.mp mem'
    have : y = e := List.inj_on_of_nodup_map distinct mem'' mem ((sweptEntry_id swept).symm.trans is)
    rw [this, sweptEntry, if_pos waits, if_pos beyond] at swept
    cases swept
  · rw [queue]
    exact List.mem_filterMap.mpr ⟨e, mem, by rw [sweptEntry, if_neg judged]⟩

namespace OutOfStepEntered

/-- What the third mismatch leaves, when before it the entry that it concerns was changed and the others were not. -/
theorem of_own {n : EntryId} {s u t : State} (h : OutOfStepEntered none u t)
    (belt : ∀ e, atBeltEnd e u = atBeltEnd e s)
    (others : ∀ e ∈ s.tracker.queue, e.id ≠ n → e ∈ u.tracker.queue)
    (order : (u.tracker.queue.map Entry.id).Sublist (s.tracker.queue.map Entry.id)) :
    OutOfStepEntered (some n) s t := by
  have other {e : Entry} (h : some n ≠ some e.id) : e.id ≠ n := fun is => h (is ▸ rfl)
  refine ⟨fun e mem waits own before => ?_, fun e mem waits own beyond => ?_, fun e mem judged own => ?_,
    h.order.trans order⟩
  · exact h.swept e (others e mem (other own)) waits nofun (by rwa [belt])
  · exact h.removed e (others e mem (other own)) waits nofun (by rwa [belt])
  · exact h.kept e (others e mem (other own)) judged nofun

/-- It is told of the queues and the belt alone. -/
theorem congr {own : Option EntryId} {s s' t t' : State} (h : OutOfStepEntered own s t)
    (belt : ∀ e, atBeltEnd e s' = atBeltEnd e s) (queue : s'.tracker.queue = s.tracker.queue)
    (queue' : t'.tracker.queue = t.tracker.queue) : OutOfStepEntered own s' t' := by
  obtain ⟨swept, removed, kept, order⟩ := h
  simp only [← queue, ← queue', ← belt] at swept removed kept order
  exact ⟨swept, removed, kept, order⟩

end OutOfStepEntered

/-! ### The count of mismatches (R68) -/

theorem sync_ne_outOfStep_iff (s : State) : s.sync ≠ .outOfStep ↔ s.tracker.mismatches < 3 := by
  unfold State.sync syncOf
  split
  · next zero => simp [zero]
  · split
    · next few => simp [few]
    · next many => simpa using many

section
variable (n : EntryId) (why : RejectReason) (values : Option Computed) (s : State)

@[simp] theorem dropAtBeltEnd_mismatches : (dropAtBeltEnd n s).tracker.mismatches = s.tracker.mismatches := by
  rcases dropAtBeltEnd_cases n s with same | ⟨e, -, -, -, same⟩ <;> rw [same]
  rfl

@[simp] theorem dropAtBeltEnd_events : (dropAtBeltEnd n s).events = s.events := by
  rcases dropAtBeltEnd_cases n s with same | ⟨e, -, -, -, same⟩ <;> rw [same]
  rfl

@[simp] theorem rejectEntry_mismatches :
    (rejectEntry n why values s).tracker.mismatches = s.tracker.mismatches := by
  rw [rejectEntry_eq, dropAtBeltEnd_mismatches, setEntry_tracker]

@[simp] theorem rejectEntry_events : (rejectEntry n why values s).events = s.events := by
  rw [rejectEntry_eq, dropAtBeltEnd_events, setEntry_events]

@[simp] theorem applyRoute_mismatches (plan : RoutePlan) :
    (applyRoute n plan s).tracker.mismatches = s.tracker.mismatches := by
  cases plan with
  | bin b key target =>
    have placed : (applyRoute n (.bin b key target) s).tracker.mismatches
        = (openLift b key target s).tracker.mismatches := rfl
    rw [placed, openLift_tracker]
  | redryGate p => rfl
  | beltEnd why values => exact rejectEntry_mismatches n why values s

@[simp] theorem sweepAwaiting_mismatches : (sweepAwaiting s).tracker.mismatches = s.tracker.mismatches :=
  sweepAwaiting_keeps (fun t => t.tracker.mismatches = s.tracker.mismatches)
    (fun _ _ _ _ _ keep => (rejectEntry_mismatches _ _ _ _).trans keep) s rfl

@[simp] theorem sweepAwaiting_events : (sweepAwaiting s).events = s.events :=
  sweepAwaiting_keeps (fun t => t.events = s.events)
    (fun _ _ _ _ _ keep => (rejectEntry_events _ _ _ _).trans keep) s rfl

/-- A rejection leaves the entries of the other sheets as they are. -/
theorem mem_rejectEntry {e : Entry} (mem : e ∈ s.tracker.queue) (other : e.id ≠ n) :
    e ∈ (rejectEntry n why values s).tracker.queue := by
  have apart : (e.id == n) = false := beq_false_of_ne other
  have changed : e ∈ (setEntry n (Entry.rejected why values) s).tracker.queue :=
    mem_updFirst_of_not _ mem apart
  rw [rejectEntry_eq]
  rcases dropAtBeltEnd_cases n (setEntry n (Entry.rejected why values) s) with same | ⟨x, -, -, -, same⟩ <;> rw [same]
  · exact changed
  · exact (List.mem_eraseP_of_neg (by simp [apart])).mpr changed

end

section
variable {s : State}

theorem countMismatch_first (zero : s.tracker.mismatches = 0) :
    countMismatch s = raise (.syncChanged .doubtful) (setTracker (fun t => { t with mismatches := 1 }) s) := by
  simp [countMismatch, setMismatches, State.sync, syncOf, zero]

theorem countMismatch_second (one : s.tracker.mismatches = 1) :
    countMismatch s = setTracker (fun t => { t with mismatches := 2 }) s := by
  simp [countMismatch, setMismatches, State.sync, syncOf, one]

theorem countMismatch_third (two : s.tracker.mismatches = 2) :
    countMismatch s
      = sweepAwaiting (raise (.syncChanged .outOfStep) (setTracker (fun t => { t with mismatches := 3 }) s)) := by
  simp [countMismatch, setMismatches, State.sync, syncOf, two]

theorem countMismatch_mismatches (inStep : s.sync ≠ .outOfStep) :
    (countMismatch s).tracker.mismatches = s.tracker.mismatches + 1 := by
  have few := (sync_ne_outOfStep_iff s).mp inStep
  rcases (by omega : s.tracker.mismatches = 0 ∨ s.tracker.mismatches = 1 ∨ s.tracker.mismatches = 2) with m | m | m
  · rw [countMismatch_first m, m]; rfl
  · rw [countMismatch_second m, m]; rfl
  · rw [countMismatch_third m, sweepAwaiting_mismatches, m]; rfl

theorem countMismatch_events (inStep : s.sync ≠ .outOfStep) : (countMismatch s).events = mismatchEvents s := by
  have few := (sync_ne_outOfStep_iff s).mp inStep
  rcases (by omega : s.tracker.mismatches = 0 ∨ s.tracker.mismatches = 1 ∨ s.tracker.mismatches = 2) with m | m | m
  · rw [countMismatch_first m, mismatchEvents, if_pos m]; rfl
  · rw [countMismatch_second m, mismatchEvents, m]; rfl
  · rw [countMismatch_third m, sweepAwaiting_events, mismatchEvents, m]; rfl

/-- A mismatch before the third leaves the queue and the tallies as they are. -/
theorem countMismatch_before_third (few : s.tracker.mismatches < 2) :
    (countMismatch s).tracker.queue = s.tracker.queue ∧ (countMismatch s).tallies = s.tallies := by
  rcases (by omega : s.tracker.mismatches = 0 ∨ s.tracker.mismatches = 1) with m | m
  · rw [countMismatch_first m]; exact ⟨rfl, rfl⟩
  · rw [countMismatch_second m]; exact ⟨rfl, rfl⟩

theorem countMismatch_entered (two : s.tracker.mismatches = 2) (distinct : EntriesDistinct s) :
    OutOfStepEntered none s (countMismatch s) := by
  have distinct' : EntriesDistinct
      (raise (.syncChanged .outOfStep) (setTracker (fun t => { t with mismatches := 3 }) s)) := distinct
  rw [countMismatch_third two]
  exact (sweepAwaiting_entered distinct').congr (fun _ => rfl) rfl rfl

/-- A counted mismatch leaves alone the entry found under a sheet, when that one does not wait for its report. -/
theorem findEntry_countMismatch {n : EntryId} {e : Entry} (found : findEntry n s = some e)
    (judged : e.state ≠ .awaitReport) : findEntry n (countMismatch s) = some e := by
  rcases setMismatches_cases (min 3 (s.tracker.mismatches + 1)) s with ⟨-, same⟩ | ⟨-, -, same⟩ | ⟨-, -, same⟩ <;>
    rw [countMismatch, same]
  · exact found
  · exact found
  · exact findEntry_sweepAwaiting (s := raise _ _) found judged

end

/-- The mode is DRAIN after an event of the belt only where it was before. -/
theorem BeltFrame.mode_ne_drain {s t : State} (h : BeltFrame s t) (on : s.mode ≠ .drain) : t.mode ≠ .drain := by
  rcases h.mode with same | ⟨drain, -⟩
  · rwa [same]
  · exact absurd drain on

end Sys2Proof.Machine
end

section
/-! SUPPORT. A SHEET_REPORT taken on the scan port, in each case of Figure 1-1: what it is answered with, the mismatch
that it counts, and the entry that it binds; then the statements about it. -/

namespace Sys2Proof.Machine

/-! ### The cases of Figure 1-1 -/

section
variable {tag : Byte} {payload : List Byte} {s : State} (taken : Taken (.sheetReport .scan tag payload) s)
include taken

theorem sheetReport_waits : (!(s.hasPlace .scan && s.holdsFrame .scan
    (requestFrame (reportReq .scan tag) .sheetReport (.sheetReport .scan tag payload)))) = false := by
  have h : CanTake (reportReq .scan tag) .sheetReport (.sheetReport .scan tag payload) s := taken
  have place : s.hasPlace .scan = true := h.place
  have waits : s.holdsFrame .scan
    (requestFrame (reportReq .scan tag) .sheetReport (.sheetReport .scan tag payload)) = true := h.waits
  rw [place, waits]
  rfl

theorem sheetReport_invalid (malformed : parseReport payload = none) :
    exec (.sheetReport .scan tag payload) s
      = .next (refuse (reportReq .scan tag) .sheetReport .invalid (freeBuffer .scan s)) := by
  simp only [exec, execSheetReport, sheetReport_waits taken, malformed]
  rfl

section
variable {raw : SheetData} (parsed : parseReport payload = some raw)
include parsed

theorem sheetReport_outOfStep (lost : s.sync = .outOfStep) :
    exec (.sheetReport .scan tag payload) s
      = .next (refuse (reportReq .scan tag) .sheetReport .outOfStep (freeBuffer .scan s)) := by
  have lost' : (freeBuffer .scan s).sync = .outOfStep := lost
  simp only [exec, execSheetReport, sheetReport_waits taken, parsed, lost']
  rfl

variable (inStep : s.sync ≠ .outOfStep)
include inStep

/-- No entry is ready to bind: none waits for its report, or the oldest that does has no eye length yet (R59). -/
theorem sheetReport_noSheet (unready : ∀ e, oldestAwaiting s = some e → e.eyeLen = none) :
    exec (.sheetReport .scan tag payload) s
      = .next (refuseNoSheet (reportReq .scan tag) (freeBuffer .scan s)) := by
  have inStep' : (freeBuffer .scan s).sync ≠ .outOfStep := inStep
  have same : oldestAwaiting (freeBuffer .scan s) = oldestAwaiting s := rfl
  cases oldest : oldestAwaiting s with
  | none =>
    simp only [exec, execSheetReport, sheetReport_waits taken, parsed, inStep', same, oldest]
    rfl
  | some e =>
    simp only [exec, execSheetReport, sheetReport_waits taken, parsed, inStep', same, oldest, unready e oldest]
    rfl

variable {e : Entry} {eye : Nat} {k : BankNo} (oldest : oldestAwaiting s = some e) (measured : e.eyeLen = some eye)
  (bank : s.banks.active = some k)
include oldest measured bank

theorem sheetReport_binds :
    exec (.sheetReport .scan tag payload) s
      = .next (if lengthsDiffer s raw.length eye
          then bindMismatch (reportReq .scan tag) k e raw (freeBuffer .scan s)
          else bindGood (reportReq .scan tag) k e raw (freeBuffer .scan s)) := by
  have inStep' : (freeBuffer .scan s).sync ≠ .outOfStep := inStep
  have oldest' : oldestAwaiting (freeBuffer .scan s) = some e := oldest
  have bank' : (freeBuffer .scan s).banks.active = some k := bank
  have differ : lengthsDiffer (freeBuffer .scan s) raw.length eye = lengthsDiffer s raw.length eye := rfl
  simp only [exec, execSheetReport, sheetReport_waits taken, parsed, inStep', oldest', measured, bank', differ]
  cases lengthsDiffer s raw.length eye <;> rfl

end

end

theorem lengthsDiffer_iff (s : State) (reported eye : Nat) :
    lengthsDiffer s reported eye = true
      ↔ eye + s.geometry.lengthTolerance < reported ∨ reported + s.geometry.lengthTolerance < eye := by
  rw [lengthsDiffer, decide_eq_true_iff]
  omega

/-! ### A refusal NO_SHEET in RUN, and a mismatch (R59, R60) -/

theorem BeltFrame.refuse {s t : State} (h : BeltFrame s t) (r : Req) (k : ReqKind) (why : RefusalReason) :
    BeltFrame (refuse r k why s) (refuse r k why t) where
  travel := h.travel
  number := h.number
  trailing := h.trailing
  banks := h.banks
  geometry := h.geometry
  arbiter := h.arbiter
  ports := by rw [Machine.refuse, Machine.refuse, queueReply_ports, queueReply_ports, h.ports]
  refusal := h.refusal
  pending := h.pending
  mask := h.mask
  timeout := h.timeout
  binEyes := h.binEyes
  slotEyes := h.slotEyes
  mode := h.mode

theorem refuseNoSheet_run (r : Req) {s : State} (run : s.mode = .run) :
    refuseNoSheet r s = refuse r .sheetReport .noSheet (finish (countMismatch s)) := by
  rw [refuseNoSheet, if_pos run]

theorem refuseNoSheet_not_run (r : Req) {s : State} (not_run : s.mode ≠ .run) :
    refuseNoSheet r s = refuse r .sheetReport .noSheet s := by
  rw [refuseNoSheet, if_neg not_run]

/-- The mismatch of a NO_SHEET in RUN, counted on the state `s` that the taking leaves. -/
theorem noSheetCounted {s : State} (inStep : s.sync ≠ .outOfStep) (run : s.mode = .run) :
    let t := finish (countMismatch s)
    BeltFrame s t ∧ t.tracker.mismatches = s.tracker.mismatches + 1 ∧ t.events = mismatchEvents s
    ∧ (s.tracker.mismatches < 2 → t.tracker.queue = s.tracker.queue ∧ t.tallies = s.tallies)
    ∧ (s.tracker.mismatches = 2 → EntriesDistinct s → OutOfStepEntered none s t)
    ∧ EntriesLeave s t := by
  intro t
  have frame := countMismatch_beltFrame s
  have on : (countMismatch s).mode ≠ .drain ∨ (countMismatch s).tracker.queue ≠ [] :=
    .inl (frame.mode_ne_drain (by rw [run]; nofun))
  have tracker : t.tracker = (countMismatch s).tracker := finish_tracker _
  refine ⟨frame.trans (finish_beltFrame _), ?_, ?_, fun few => ?_, fun two distinct => ?_,
    (EntriesLeave.countMismatch s).trans (.finish _)⟩
  · rw [tracker, countMismatch_mismatches inStep]
  · rw [finish_events on, countMismatch_events inStep]
  · obtain ⟨queue, tallies⟩ := countMismatch_before_third few
    exact ⟨by rw [tracker, queue], by rw [finish_tallies on, tallies]⟩
  · exact (countMismatch_entered two distinct).congr (fun _ => rfl) rfl (by rw [tracker])

/-- An entry as a report that binds it to bank `k` finds it: the bank is held with it (R61). -/
def Entry.bound (k : BankNo) (e : Entry) : Entry := { e with bank := some k }

/-- The state in which the mismatch of a bound report is counted: the entry is rejected MISMATCH under its bank. -/
def mismatched (n : EntryId) (k : BankNo) (s : State) : State :=
  rejectEntry n .mismatch none (setEntry n (Entry.bound k) s)

theorem bindMismatch_eq (r : Req) (k : BankNo) (e : Entry) (raw : SheetData) (s : State) :
    bindMismatch r k e raw s
      = finish (done r .sheetReport (.sheet e.number (.reject .mismatch none) .beltEnd (clampedMark raw))
          (countMismatch (mismatched e.id k s))) := rfl

section
variable (n : EntryId) (k : BankNo) (s : State)

theorem mismatched_beltFrame : BeltFrame s (mismatched n k s) :=
  (setEntry_beltFrame n (Entry.bound k) s).trans (rejectEntry_beltFrame n .mismatch none _)

theorem mismatched_leave : EntriesLeave s (mismatched n k s) :=
  (EntriesLeave.setEntry n (f := Entry.bound k) (fun _ => rfl) s).trans (.rejectEntry n .mismatch none _)

theorem mismatched_mismatches : (mismatched n k s).tracker.mismatches = s.tracker.mismatches :=
  rejectEntry_mismatches n .mismatch none _

theorem mismatched_events : (mismatched n k s).events = s.events := rejectEntry_events n .mismatch none _

theorem mismatched_others {e : Entry} (mem : e ∈ s.tracker.queue) (other : e.id ≠ n) :
    e ∈ (mismatched n k s).tracker.queue :=
  mem_rejectEntry n .mismatch none _ (mem_updFirst_of_not _ mem (beq_false_of_ne other)) other

theorem findEntry_mismatched {e : Entry} (found : findEntry n s = some e) (before : atBeltEnd e s = false) :
    findEntry n (mismatched n k s) = some ((e.bound k).rejected .mismatch none) :=
  findEntry_rejectEntry_self .mismatch none (findEntry_setEntry_self found rfl) before

end

/-- A bound report's mismatch, counted on the state `s` that the taking leaves. -/
theorem mismatchCounted {n : EntryId} {k : BankNo} {s : State} (inStep : s.sync ≠ .outOfStep) :
    let u := countMismatch (mismatched n k s)
    BeltFrame s u ∧ EntriesLeave s u ∧ u.tracker.mismatches = s.tracker.mismatches + 1 ∧ u.events = mismatchEvents s
    ∧ (∀ e, findEntry n s = some e → atBeltEnd e s = false →
        findEntry n u = some ((e.bound k).rejected .mismatch none))
    ∧ (s.tracker.mismatches = 2 → EntriesDistinct s → OutOfStepEntered (some n) s u) := by
  intro u
  have frame := mismatched_beltFrame n k s
  have leave := mismatched_leave n k s
  have mismatches := mismatched_mismatches n k s
  have events := mismatched_events n k s
  have inStep' : (mismatched n k s).sync ≠ .outOfStep := by
    rwa [sync_ne_outOfStep_iff, mismatches, ← sync_ne_outOfStep_iff]
  refine ⟨frame.trans (countMismatch_beltFrame _), leave.trans (.countMismatch _), ?_, ?_,
    fun e found before => ?_, fun two distinct => ?_⟩
  · rw [countMismatch_mismatches inStep', mismatches]
  · rw [countMismatch_events inStep', mismatchEvents, mismatches, events]; rfl
  · exact findEntry_countMismatch (findEntry_mismatched n k s found before) nofun
  · exact (countMismatch_entered (mismatches.trans two) (leave.distinct distinct)).of_own frame.atBeltEnd_eq
      (fun _ mem other => mismatched_others n k s mem other) leave.order

/-- The DONE reply and the end of the event, after what a report did to the state `u`. -/
theorem finish_done (r : Req) (x : Result) {s u : State} (frame : BeltFrame (freeBuffer r.port s) u) :
    let t := finish (done r .sheetReport x u)
    t.ports = answeredPorts r.port (doneItem r .sheetReport x) s ∧ t.tracker.travel = s.tracker.travel
    ∧ t.banks = s.banks ∧ t.geometry = s.geometry ∧ t.arbiter = s.arbiter ∧ t.refusal = s.refusal
    ∧ t.pending = s.pending := by
  have ends := finish_beltFrame (done r .sheetReport x u)
  exact ⟨ends.ports.trans (done_ports_of r .sheetReport x s u frame.ports), ends.travel.trans frame.travel,
    ends.banks.trans frame.banks, ends.geometry.trans frame.geometry, ends.arbiter.trans frame.arbiter,
    ends.refusal.trans frame.refusal, ends.pending.trans frame.pending⟩

/-- Settles O27: the refusals of Figure 1-1 in their order, and the mismatch of a NO_SHEET and of a report. -/
theorem sheetReportRefusedOrMismatched : Obligations.SheetReportRefusedOrMismatched := by
  intro tag payload s taken refused
  have refused_eq (why : RefusalReason) :
      refuse (reportReq .scan tag) .sheetReport why (freeBuffer .scan s) = refused why :=
    refuse_freeBuffer (reportReq .scan tag) .sheetReport why s
  have taking : EntriesLeave s (freeBuffer .scan s) := .of_tracker rfl
  refine ⟨fun malformed => ?_, fun formed lost => ?_, fun formed inStep unready not_run => ?_,
    fun formed inStep unready run => ?_, fun raw e eye k parsed inStep oldest found measured bank differ => ?_⟩
  · rw [sheetReport_invalid taken malformed, refused_eq]
  · obtain ⟨raw, parsed⟩ := Option.ne_none_iff_exists'.mp formed
    rw [sheetReport_outOfStep taken parsed lost, refused_eq]
  · obtain ⟨raw, parsed⟩ := Option.ne_none_iff_exists'.mp formed
    rw [sheetReport_noSheet taken parsed inStep unready,
      refuseNoSheet_not_run _ (s := freeBuffer .scan s) not_run, refused_eq]
  · obtain ⟨raw, parsed⟩ := Option.ne_none_iff_exists'.mp formed
    obtain ⟨frame, mismatches, events, few, third, leave⟩ := noSheetCounted (s := freeBuffer .scan s) inStep run
    refine ⟨refuse (reportReq .scan tag) .sheetReport .noSheet (finish (countMismatch (freeBuffer .scan s))), ?_, ?_,
      mismatches, events, few, fun two distinct => ?_, ?_⟩
    · rw [sheetReport_noSheet taken parsed inStep unready, refuseNoSheet_run _ (s := freeBuffer .scan s) run]
    · rw [← refused_eq]
      exact frame.refuse _ _ _
    · exact (third two distinct).congr (fun _ => rfl) rfl rfl
    · exact ((taking.trans leave).trans (.of_tracker (refuse_tracker _ _ _ _))).eye
  · obtain ⟨frame, leave, mismatches, events, entry, third⟩ :=
      mismatchCounted (n := e.id) (k := k) (s := freeBuffer .scan s) inStep
    have differ' : lengthsDiffer s raw.length eye = true := (lengthsDiffer_iff s raw.length eye).mpr differ
    rw [sheetReport_binds taken parsed inStep oldest measured bank, if_pos differ', bindMismatch_eq]
    generalize countMismatch (mismatched e.id k (freeBuffer .scan s)) = u at *
    obtain ⟨ports, travel, banks, geometry, arbiter, refusal, pending⟩ := finish_done (reportReq .scan tag)
      (.sheet e.number (.reject .mismatch none) .beltEnd (clampedMark raw)) frame
    have tracker := (finish_tracker (done (reportReq .scan tag) .sheetReport
      (.sheet e.number (.reject .mismatch none) .beltEnd (clampedMark raw)) u)).trans (done_tracker _ _ _ _)
    refine ⟨_, rfl, ports, ?_, travel, banks, geometry, arbiter, refusal, pending, fun before => ?_, fun on => ?_,
      fun two distinct => ?_, ?_⟩
    · rw [tracker]; exact mismatches
    · exact (findEntry_congr (congrArg Tracker.queue tracker) e.id).trans (entry e found before)
    · refine (finish_events ?_).trans events
      refine on.imp (fun on => frame.mode_ne_drain on) (fun some_left => ?_)
      rwa [tracker] at some_left
    · exact (third two distinct).congr (fun _ => rfl) rfl (congrArg Tracker.queue tracker)
    · exact ((taking.trans leave).trans (.of_tracker tracker)).eye

end Sys2Proof.Machine
end

section
/-! SUPPORT. A SHEET_REPORT that binds (R60, R62): the verdict and the route that its entry takes, and the bin's commit;
then the statement about it and about the bin search. -/

namespace Sys2Proof.Machine

/-! ### The entry that a route is for (R79, R85, R87) -/

section
variable {n : EntryId} {s : State} {e : Entry} (found : findEntry n s = some e)
include found

theorem findEntry_commitTo (key : Key) (target : Nat) {b : BinNo} {p : Nat}
    (position : s.geometry.binPosition[b] = some p) :
    findEntry n (commitTo n b key target s)
      = some { e with
          state := .routed b (e.lead + mm (p - s.geometry.gateLead)) (e.lead + mm (p + s.geometry.gateHold)) } := by
  have found' : findEntry n (setBin b (fun x => { x with state := x.state.commit }) (openLift b key target s))
      = some e := (findEntry_congr (congrArg Tracker.queue (openLift_tracker b key target s)) n).trans found
  unfold commitTo
  rw [position]
  exact findEntry_setEntry_self found' rfl

theorem findEntry_applyRoute_redryGate (p : Nat) :
    findEntry n (applyRoute n (.redryGate p) s)
      = some { e with
          state :=
            .toRedry (e.lead + mm (p - s.geometry.gateLead)) (e.lead + mm (p + s.geometry.gateHold)) false } :=
  findEntry_setEntry_self found rfl

end

/-! ### The binding of a report (R60, R62) -/

/-- An entry as a report that agrees leaves it, before the route: it holds the bank and the verdict (R61, R62). -/
def Entry.judged (k : BankNo) (v : Verdict) (e : Entry) : Entry := { e with bank := some k, verdict := some v }

/-- The state in which the verdict of a bound report is routed: the count is cleared and the entry is judged. -/
def agreed (n : EntryId) (k : BankNo) (v : Verdict) (s : State) : State :=
  setEntry n (Entry.judged k v) (setMismatches 0 s)

/-- The verdict that a report gives an entry under a bank (R24). -/
def verdictOf (s : State) (k : BankNo) (e : Entry) (raw : SheetData) : Verdict :=
  overPreset e.verdict (evaluate s.banks.bank[k] (clampReport raw))

section
variable (n : EntryId) (k : BankNo) (v : Verdict) (s : State)

theorem agreed_eq :
    agreed n k v s
      = setEntry n (Entry.judged k v)
          { s with
            tracker := { s.tracker with mismatches := 0 }
            events := if s.sync = .inStep then s.events else s.events.append (.syncChanged .inStep) } := by
  rw [agreed, setMismatches_zero]

theorem agreed_beltFrame : BeltFrame s (agreed n k v s) :=
  (setMismatches_beltFrame 0 s).trans (setEntry_beltFrame n (Entry.judged k v) _)

theorem agreed_leave : EntriesLeave s (agreed n k v s) :=
  (EntriesLeave.setMismatches 0 s).trans (.setEntry n (f := Entry.judged k v) (fun _ => rfl) _)

theorem agreed_mismatches : (agreed n k v s).tracker.mismatches = 0 := by rw [agreed_eq]; rfl

theorem agreed_bins : (agreed n k v s).bins = s.bins := by rw [agreed_eq]; rfl

theorem agreed_slots : (agreed n k v s).slots = s.slots := by rw [agreed_eq]; rfl

theorem agreed_store : (agreed n k v s).store = s.store := by rw [agreed_eq]; rfl

theorem findEntry_agreed {e : Entry} (found : findEntry n s = some e) :
    findEntry n (agreed n k v s) = some (e.judged k v) := by
  rw [agreed_eq]
  exact findEntry_setEntry_self (s := { s with tracker := _, events := _ }) found rfl

theorem planRoute_agreed : planRoute (agreed n k v s) = planRoute s :=
  planRoute_congr (agreed_beltFrame n k v s).banks (agreed_beltFrame n k v s).geometry (agreed_bins n k v s)

end

theorem bindGood_eq (r : Req) (k : BankNo) (e : Entry) (raw : SheetData) (s : State) {v : Verdict} {plan : RoutePlan}
    (verdict : verdictOf s k e raw = v) (route : planRoute s (some k) v (travelOf e s) none = plan) :
    bindGood r k e raw s
      = finish (done r .sheetReport (.sheet e.number (plan.verdict v) plan.goal (clampedMark raw))
          (applyRoute e.id plan (agreed e.id k v s))) := by
  rw [← planRoute_agreed e.id k v] at route
  subst verdict route
  rfl

/-- What a route does to the state `s` of a judged entry, whose bin, where it has one, is eligible (R79, R85). -/
theorem applyRoute_agreed {n : EntryId} {k : BankNo} {v : Verdict} {plan : RoutePlan} {s : State} {e : Entry}
    (found : findEntry n s = some e) :
    let u := applyRoute n plan (agreed n k v s)
    (∀ b key target travel p, plan = .bin b key target → eligible s key travel none b = true →
        s.geometry.binPosition[b] = some p →
        findEntry n u
          = some { e.judged k v with
              state := .routed b (e.lead + mm (p - s.geometry.gateLead)) (e.lead + mm (p + s.geometry.gateHold)) }
        ∧ Commits s b key target (u.bin b).state)
    ∧ (∀ p, plan = .redryGate p →
        findEntry n u
          = some { e.judged k v with
              state :=
                .toRedry (e.lead + mm (p - s.geometry.gateLead)) (e.lead + mm (p + s.geometry.gateHold)) false })
    ∧ ∀ why x, plan = .beltEnd why x → atBeltEnd e s = false →
        findEntry n u = some ((e.judged k v).rejected why x) := by
  intro u
  have frame := agreed_beltFrame n k v s
  have judged := findEntry_agreed n k v s found
  have geometry : (agreed n k v s).geometry = s.geometry := frame.geometry
  refine ⟨fun b key target travel p is ok position => ?_, fun p is => ?_, fun why x is before => ?_⟩ <;>
    simp only [u, is, applyRoute]
  · have ok' : eligible (agreed n k v s) key travel none b = true := by
      rw [← canTakeSheet_iff] at ok ⊢
      obtain ⟨room, reach, other⟩ := ok
      unfold State.bin at room
      rw [← agreed_bins n k v s] at room
      rw [← geometry] at reach
      exact ⟨room, reach, other⟩
    refine ⟨?_, (commitTo_commits n target ok').congr (agreed_bins n k v s) (agreed_slots n k v s)
      (agreed_store n k v s)⟩
    rw [findEntry_commitTo judged key target (geometry ▸ position), geometry]
    rfl
  · rw [← geometry]
    exact findEntry_applyRoute_redryGate judged p
  · exact findEntry_rejectEntry_self why x judged ((frame.atBeltEnd_eq e).trans before)

/-- The end of the event after a route leaves the routed entry and its bin as the route left them. -/
theorem finish_done_routed (r : Req) (x : Result) {n : EntryId} {u : State} {e : Entry}
    (found : findEntry n u = some e) :
    let t := finish (done r .sheetReport x u)
    findEntry n t = some e ∧ ∀ b, (∀ l, (u.bin b).state ≠ .fullWait l) → (t.bin b).state = (u.bin b).state := by
  have tracker := (finish_tracker (done r .sheetReport x u)).trans (done_tracker _ _ _ _)
  refine ⟨(findEntry_congr (congrArg Tracker.queue tracker) n).trans found,
    fun b live => finish_bin_state live (.inr ?_)⟩
  exact List.ne_nil_of_mem (findEntry_mem found)

/-- Settles O28: the binding with its route, and the four-pass search that the route is made by. -/
theorem sheetReportBindsAndRoutes : Obligations.SheetReportBindsAndRoutes := by
  constructor
  · intro tag payload raw e eye k s taken parsed inStep oldest found measured bank long short v plan
    have agree : ¬lengthsDiffer s raw.length eye = true := by rw [lengthsDiffer_iff]; omega
    have route : planRoute (freeBuffer .scan s) (some k) v (travelOf e (freeBuffer .scan s)) none = plan := by
      rw [planRoute_congr (s := s) (t := freeBuffer .scan s) rfl rfl rfl]
      rfl
    have ok : ∀ b key target, plan = .bin b key target → eligible s key (travelOf e s) none b = true :=
      fun _ _ _ is => planRoute_bin is
    have taking : EntriesLeave s (freeBuffer .scan s) := .of_tracker rfl
    have frame := (agreed_beltFrame e.id k v (freeBuffer .scan s)).trans (applyRoute_beltFrame e.id plan _)
    have leave := (agreed_leave e.id k v (freeBuffer .scan s)).trans (.applyRoute e.id plan _)
    have cleared := (applyRoute_mismatches e.id (agreed e.id k v (freeBuffer .scan s)) plan).trans
      (agreed_mismatches e.id k v (freeBuffer .scan s))
    obtain ⟨toBin, toRedry, toBelt⟩ :=
      applyRoute_agreed (k := k) (v := v) (plan := plan) (s := freeBuffer .scan s) found
    rw [sheetReport_binds taken parsed inStep oldest measured bank, if_neg agree,
      bindGood_eq _ _ _ _ (freeBuffer .scan s) (v := v) rfl route]
    generalize applyRoute e.id plan (agreed e.id k v (freeBuffer .scan s)) = u at *
    have routed {x : Entry} := finish_done_routed (reportReq .scan tag)
      (.sheet e.number (plan.verdict v) plan.goal (clampedMark raw)) (n := e.id) (u := u) (e := x)
    obtain ⟨ports, travel, banks, geometry, arbiter, refusal, pending⟩ := finish_done (reportReq .scan tag)
      (.sheet e.number (plan.verdict v) plan.goal (clampedMark raw)) frame
    have tracker := (finish_tracker (done (reportReq .scan tag) .sheetReport
      (.sheet e.number (plan.verdict v) plan.goal (clampedMark raw)) u)).trans (done_tracker _ _ _ _)
    refine ⟨_, rfl, ports, ?_, travel, banks, geometry, arbiter, refusal, pending,
      fun b key target p is position => ?_, fun p is => ?_, fun why x is before => ?_, ?_⟩
    · rw [tracker]; exact cleared
    · obtain ⟨entry, commits⟩ := toBin b key target _ p is (ok b key target is) position
      obtain ⟨entry', same⟩ := routed entry
      rw [same b commits.not_fullWait]
      exact ⟨entry', commits⟩
    · exact (routed (toRedry p is)).1
    · exact (routed (toBelt why x is before)).1
    · exact ((taking.trans leave).trans (.of_tracker tracker)).eye
  · intro s k code cls travel x lost plan
    have graded (found : Option RoutePlan) (is : searchGrade s k code cls travel lost = found) :
        plan = found.getD (.beltEnd .noBin (some x)) := is ▸ rfl
    refine ⟨fun g b rule met => graded _ (searchGrade_own rule met),
      fun g c h b rule none_own spill rule' met => graded _ (searchGrade_spill rule none_own spill rule' met), ?_,
      fun p gate ahead => ?_, fun missed => ?_, fun _ _ => rfl⟩
    · rintro (unruled | ⟨g, rule, none_own, none_spill⟩)
      · exact graded _ (searchGrade_unruled unruled)
      · exact graded _ (searchGrade_none rule none_own none_spill)
    · rcases planRoute_redry_cases s (some k) x travel lost with ⟨q, gate', -, is⟩ | ⟨missed, -⟩
      · rw [gate] at gate'
        cases gate'
        exact is
      · have := missed p gate
        omega
    · rcases planRoute_redry_cases s (some k) x travel lost with ⟨p, gate, ahead, -⟩ | ⟨-, is⟩
      · have := missed p gate
        omega
      · exact is

end Sys2Proof.Machine
end

section
/-! SUPPORT. What one command can do to the recipe banks (R30 to R33, R44 to R46): for every command but a full reset,
nothing or one of five moves; then the two invariants of the active bank. -/

namespace Sys2Proof.Machine

/-! ### The moves of the banks -/

/-- The banks with one bank's state set. -/
def Banks.setState (k : BankNo) (x : BankState) (b : Banks) : Banks :=
  { b with bank := vset b.bank k { b.bank[k] with state := x } }

/-- The banks after the switch of R46. -/
def Banks.switch (k : BankNo) (b : Banks) : Banks :=
  { (match b.active with
      | some j => b.setState j .valid
      | none => b).setState k .active with active := some k }

/-- The switch of R46 changes nothing but the banks. -/
theorem switchBank_eq (k : BankNo) (s : State) : switchBank k s = { s with banks := s.banks.switch k } := by
  unfold switchBank retireActive Banks.switch
  cases s.banks.active <;> rfl

theorem switchBank_banks (k : BankNo) (s : State) : (switchBank k s).banks = s.banks.switch k := by
  rw [switchBank_eq]

/-- What a command other than a full reset can do to the banks. -/
inductive BanksMove (x : Banks) : Banks → Prop where
  | same : BanksMove x x
  | select (k : BankNo) : BanksMove x { x with edit := k }
  | write (b : Bank) (unprotected : x.active ≠ some x.edit) (inactive : b.state ≠ .active) :
      BanksMove x { x with bank := vset x.bank x.edit b }
  | validate (k : BankNo) : BanksMove x (x.setState k x.bank[k].state.afterPass)
  | activate (k : BankNo) (other : x.active ≠ some k) : BanksMove x (x.switch k)

theorem Banks.setState_bank_self (k : BankNo) (x : BankState) (b : Banks) :
    (b.setState k x).bank[k] = { b.bank[k] with state := x } :=
  vset_get_self _ _ _

theorem Banks.setState_bank_ne {j k : BankNo} (h : j ≠ k) (x : BankState) (b : Banks) :
    (b.setState k x).bank[j] = b.bank[j] :=
  vset_get_ne _ _ _ _ h

theorem Banks.setState_contents (j k : BankNo) (x : BankState) (b : Banks) :
    (b.setState k x).bank[j].contents = b.bank[j].contents := by
  by_cases h : j = k
  · subst h; rw [setState_bank_self]; rfl
  · rw [setState_bank_ne h]

theorem Banks.switch_active (k : BankNo) (b : Banks) : (b.switch k).active = some k := rfl

theorem Banks.switch_edit (k : BankNo) (b : Banks) : (b.switch k).edit = b.edit := by
  unfold switch
  cases b.active <;> rfl

section
variable {j k : BankNo} {b : Banks}

theorem Banks.switch_bank_self (h : b.active ≠ some k) :
    (b.switch k).bank[k] = { b.bank[k] with state := .active } := by
  unfold switch
  cases active : b.active with
  | none => exact setState_bank_self k .active b
  | some i =>
    have other : k ≠ i := fun e => h (e ▸ active)
    show ((b.setState i .valid).setState k .active).bank[k] = _
    rw [setState_bank_self, setState_bank_ne other]

theorem Banks.switch_bank_retired (h : j ≠ k) (active : b.active = some j) :
    (b.switch k).bank[j] = { b.bank[j] with state := .valid } := by
  unfold switch
  rw [active]
  show ((b.setState j .valid).setState k .active).bank[j] = _
  rw [setState_bank_ne h, setState_bank_self]

theorem Banks.switch_bank_other (h : j ≠ k) (inactive : b.active ≠ some j) :
    (b.switch k).bank[j] = b.bank[j] := by
  unfold switch
  cases active : b.active with
  | none => exact setState_bank_ne h .active b
  | some i =>
    have other : j ≠ i := fun e => inactive (e ▸ active)
    show ((b.setState i .valid).setState k .active).bank[j] = _
    rw [setState_bank_ne h, setState_bank_ne other]

end

theorem BankState.afterPass_eq_active_iff (x : BankState) : x.afterPass = .active ↔ x = .active := by
  cases x <;> decide

/-- A bank is ACTIVE exactly when the active bank number names it (R30), said of the banks alone. -/
def Banks.ActiveNamed (x : Banks) : Prop := ∀ k : BankNo, x.bank[k].state = .active ↔ x.active = some k

theorem activeBankNamed_iff (s : State) : ActiveBankNamed s ↔ s.banks.ActiveNamed := Iff.rfl

/-- No move of the banks changes what the active bank holds (R33). -/
theorem BanksMove.contents {x y : Banks} (move : BanksMove x y) {k : BankNo} (active : x.active = some k) :
    y.bank[k].contents = x.bank[k].contents := by
  cases move with
  | same => rfl
  | select => rfl
  | write b unprotected =>
    have other : k ≠ x.edit := fun e => unprotected (e ▸ active)
    exact congrArg Bank.contents (vset_get_ne _ _ _ _ other)
  | validate j => exact Banks.setState_contents k j _ x
  | activate j other =>
    have apart : k ≠ j := fun e => other (e ▸ active)
    rw [Banks.switch_bank_retired apart active]
    rfl

/-- Every move of the banks keeps the active bank number in step with the banks' states (R30, R46). -/
theorem BanksMove.activeNamed {x y : Banks} (move : BanksMove x y) (named : x.ActiveNamed) : y.ActiveNamed := by
  intro k
  cases move with
  | same => exact named k
  | select => exact named k
  | write b unprotected inactive =>
    show (vset x.bank x.edit b)[k].state = .active ↔ x.active = some k
    by_cases e : k = x.edit
    · subst e
      rw [vset_get_self]
      exact iff_of_false inactive unprotected
    · rw [vset_get_ne _ _ _ _ e]
      exact named k
  | validate j =>
    show (x.setState j _).bank[k].state = .active ↔ x.active = some k
    by_cases e : k = j
    · subst e
      rw [Banks.setState_bank_self]
      exact (BankState.afterPass_eq_active_iff _).trans (named k)
    · rw [Banks.setState_bank_ne e]
      exact named k
  | activate j other =>
    rw [Banks.switch_active]
    by_cases e : k = j
    · subst e
      rw [Banks.switch_bank_self other]
      exact iff_of_true rfl rfl
    · have apart : some j ≠ some k := fun h => e (Option.some.inj h).symm
      by_cases active : x.active = some k
      · rw [Banks.switch_bank_retired e active]
        exact iff_of_false nofun apart
      · rw [Banks.switch_bank_other e active]
        exact iff_of_false (fun h => active ((named k).mp h)) apart

end Sys2Proof.Machine
end

section
/-! SUPPORT. Which commands move the banks: what each operation that ends a command, and each way to take a request,
leaves of them; then every command in turn. -/

namespace Sys2Proof.Machine

/-! ### Operations that leave the banks alone -/

@[simp] theorem setMode_banks (m : SortMode) (s : State) : (setMode m s).banks = s.banks := by
  unfold setMode
  split <;> rfl

@[simp] theorem discardQueue_banks (s : State) : (discardQueue s).banks = s.banks := by
  simp [discardQueue]

@[simp] theorem discardPulls_banks (s : State) : (discardPulls s).banks = s.banks := by
  simp [discardPulls]

@[simp] theorem emptyQueues_banks (s : State) : (emptyQueues s).banks = s.banks := rfl

@[simp] theorem addPull_banks (p : Pull) (s : State) : (addPull p s).banks = s.banks := rfl

@[simp] theorem giveBackLift_banks (n : Nat) (s : State) : (giveBackLift n s).banks = s.banks := by
  unfold giveBackLift
  split <;> rfl

@[simp] theorem expireHandover_banks (i : LineNo) (s : State) : (expireHandover i s).banks = s.banks := by
  unfold expireHandover
  split <;> simp

@[simp] theorem settleHandover_banks (s : State) (i : LineNo) : (settleHandover s i).banks = s.banks := by
  unfold settleHandover
  split <;> simp

@[simp] theorem tick_banks (s : State) : (tick s).banks = s.banks := by
  have settled (t : State) : (allFour.foldl settleHandover t).banks = t.banks :=
    foldl_rel (fun s t => t.banks = s.banks) (fun _ => rfl) (fun _ _ _ h k => k.trans h) _ settleHandover_banks _ t
  rw [tick, settled]
  split
  · exact timeOutEjection_banks _
  · rfl

@[simp] theorem completeEjection_banks (b : BinNo) (n : SlotNo) (s : State) :
    (completeEjection b n s).banks = s.banks := by
  unfold completeEjection
  split <;> simp [storeLift]

@[simp] theorem takenRemoval_banks (n : SlotNo) (l : Lift) (p : Pull) (s : State) :
    (takenRemoval n l p s).banks = s.banks := by
  simp [takenRemoval, vacate]

@[simp] theorem unclaimedRemoval_banks (n : SlotNo) (l : Lift) (s : State) :
    (unclaimedRemoval n l s).banks = s.banks := by
  simp [unclaimedRemoval, vacate]

@[simp] theorem clearFaulted_banks (r : Req) (b : BinNo) (l : Option Lift) (s : State) :
    (clearFaulted r b l s).banks = s.banks := by
  unfold clearFaulted
  split
  · simp
  · split
    · split <;> simp
    · simp

@[simp] theorem closeShort_banks (b : BinNo) (l : Lift) (s : State) : (closeShort b l s).banks = s.banks := by
  simp [closeShort]

@[simp] theorem measureNewest_banks (s : State) : (measureNewest s).banks = s.banks := by
  unfold measureNewest
  split <;> rfl

@[simp] theorem refuseNoSheet_banks (r : Req) (s : State) : (refuseNoSheet r s).banks = s.banks := by
  unfold refuseNoSheet
  split <;> simp

@[simp] theorem bindMismatch_banks (r : Req) (k : BankNo) (e : Entry) (raw : SheetData) (s : State) :
    (bindMismatch r k e raw s).banks = s.banks := by
  simp [bindMismatch]

@[simp] theorem bindGood_banks (r : Req) (k : BankNo) (e : Entry) (raw : SheetData) (s : State) :
    (bindGood r k e raw s).banks = s.banks := by
  simp [bindGood]

/-! ### The taking of a request -/

section
variable {r : Req} {k : ReqKind} {c : Instr} {s : State} {f : State → State}

theorem takeFrame_banks {p : Port} {test : Frame → Bool} (h : ∀ t, (f t).banks = t.banks) :
    (takeFrame p test f s).banks = s.banks := by
  rcases takeFrame_cases p test f s with ⟨-, e⟩ | ⟨-, e⟩ <;> rw [e]
  exact h _

theorem take_banks (h : ∀ t, (f t).banks = t.banks) : (take r k c f s).banks = s.banks :=
  takeFrame_banks h

/-- A served request moves the banks as its handler does, or not at all. -/
theorem serve_banksMove {g : Option Target} (h : ∀ t, BanksMove t.banks (f t).banks) :
    BanksMove s.banks (serve r k c g f s).banks := by
  rcases serve_cases r k c g f s with ⟨-, e⟩ | ⟨-, e⟩ | ⟨-, -, e⟩ | ⟨-, -, -, e⟩ <;> rw [e]
  · exact h (freeBuffer r.port s)
  all_goals exact .same

/-- A bank write moves the banks as its handler does on an unprotected edit bank, or not at all (R33). -/
theorem serveWrite_banksMove
    (h : ∀ t : State, t.banks.active ≠ some t.banks.edit → BanksMove t.banks (f t).banks) :
    BanksMove s.banks (serveWrite r k c f s).banks := by
  rcases serveWrite_cases r k c f s with ⟨can, e⟩ | ⟨-, e⟩ | ⟨-, -, e⟩ | ⟨-, -, -, e⟩ | ⟨-, -, -, -, e⟩ <;> rw [e]
  · exact h (freeBuffer r.port s) can.unprotected
  all_goals exact .same

theorem serve_banks {g : Option Target} (h : ∀ t, (f t).banks = t.banks) :
    (serve r k c g f s).banks = s.banks := by
  rcases serve_cases r k c g f s with ⟨-, e⟩ | ⟨-, e⟩ | ⟨-, -, e⟩ | ⟨-, -, -, e⟩ <;> rw [e]
  · exact h _
  all_goals rfl

end

theorem serveQuery_banks (r : Req) (c : Instr) (x : Subject) (first : Nat) (count : State → Nat)
    (data : State → QueryData) (s : State) : (serveQuery r c x first count data s).banks = s.banks := by
  rcases serveQuery_cases r c x first count data s with e | ⟨y, e⟩ | ⟨-, -, e⟩ <;> rw [e] <;> rfl

theorem storeBank_banksMove (r : Req) (k : ReqKind) {b : Bank} (inactive : b.state ≠ .active) (t : State)
    (unprotected : t.banks.active ≠ some t.banks.edit) : BanksMove t.banks (storeBank r k b t).banks :=
  .write b unprotected inactive

/-! ### The commands that move the banks -/

/-- An outcome moves the banks as a command may. -/
def MovesBanks (s : State) (o : Host.Outcome State Fault Refusal) : Prop :=
  ∀ t, o = .next t → BanksMove s.banks t.banks

theorem MovesBanks.next {s t : State} (h : BanksMove s.banks t.banks) : MovesBanks s (.next t) := by
  rintro _ ⟨⟩
  exact h

theorem MovesBanks.fault {s : State} (why : Fault) : MovesBanks s (.fault why) := by
  rintro _ ⟨⟩

theorem MovesBanks.kept {s t : State} (h : t.banks = s.banks) : MovesBanks s (.next t) :=
  .next (h ▸ .same)

section
variable (r : Req) (s : State)

theorem execSelectBank_movesBanks (n : Nat) : MovesBanks s (execSelectBank r n s) := by
  refine .next (serve_banksMove fun t => ?_)
  cases asFour n with
  | none => exact .same
  | some k => exact .select k

theorem execWriteClasses_movesBanks (l : List (Option ClassRange)) : MovesBanks s (execWriteClasses r l s) := by
  refine .next (serveWrite_banksMove fun t => ?_)
  cases classesOf l with
  | none => exact fun _ => .same
  | some c => exact storeBank_banksMove r .writeClasses (by nofun) t

theorem execWriteWeights_movesBanks (l : List Byte) : MovesBanks s (execWriteWeights r l s) := by
  refine .next (serveWrite_banksMove fun t => ?_)
  cases weightsOf l with
  | none => exact fun _ => .same
  | some w => exact storeBank_banksMove r .writeWeights (by nofun) t

theorem execWriteLimits_movesBanks (x w : Nat) : MovesBanks s (execWriteLimits r x w s) := by
  refine .next (serveWrite_banksMove fun t => ?_)
  dsimp only
  split
  · exact storeBank_banksMove r .writeLimits (by nofun) t
  · exact fun _ => .same

theorem execWriteGrade_movesBanks (pos : Nat) (g : GradeRule) : MovesBanks s (execWriteGrade r pos g s) := by
  refine .next (serveWrite_banksMove fun t => ?_)
  dsimp only
  split
  · exact storeBank_banksMove r .writeGrade (by nofun) t
  · exact fun _ => .same

theorem execDeleteGrade_movesBanks (pos : Nat) : MovesBanks s (execDeleteGrade r pos s) := by
  refine .next (serveWrite_banksMove fun t => ?_)
  dsimp only
  split
  · exact storeBank_banksMove r .deleteGrade (by nofun) t
  · exact fun _ => .same

theorem execClearBank_movesBanks : MovesBanks s (execClearBank r s) :=
  .next (serveWrite_banksMove (storeBank_banksMove r .clearBank (by nofun)))

theorem execValidate_movesBanks (n : Nat) : MovesBanks s (execValidate r n s) := by
  refine .next (serve_banksMove fun t => ?_)
  cases asFour n with
  | none => exact .same
  | some k =>
    dsimp only
    split
    · exact .same
    · exact .validate k

theorem execActivate_movesBanks (n : Nat) : MovesBanks s (execActivate r n s) := by
  refine .next (serve_banksMove fun t => ?_)
  cases asFour n with
  | none => exact .same
  | some k =>
    dsimp only
    split
    · exact .same
    · next other =>
      split
      · exact .same
      · rw [closeEvent_banks, done_banks, completeDrains_banks, drainBins_banks, switchBank_banks]
        exact .activate k other

end

/-! ### The commands that leave the banks as they are -/

section
variable (s : State)

theorem execSheetReport_movesBanks (p : Port) (tag : Byte) (payload : List Byte) :
    MovesBanks s (execSheetReport p tag payload s) := by
  rcases sheetReport_cases p tag payload s with ⟨-, e⟩ | outcome
  · rw [e]; exact .kept rfl
  · generalize execSheetReport p tag payload s = o at outcome
    cases outcome with
    | noBank => exact .fault _
    | noSheet => exact .kept (by rw [refuseNoSheet_banks, freeBuffer_banks])
    | mismatch => exact .kept (by rw [bindMismatch_banks, freeBuffer_banks])
    | good => exact .kept (by rw [bindGood_banks, freeBuffer_banks])
    | _ => exact .kept rfl

theorem execPull_movesBanks (r : Req) (code : Nat) (bank cls : Option Nat) (nowait : Bool) :
    MovesBanks s (execPull r code bank cls nowait s) := by
  refine .kept (take_banks fun t => ?_)
  cases r.port with
  | line i => simp only [apply_ite State.banks]; simp
  | scan => rfl
  | setup => rfl

theorem execForceClose_movesBanks (r : Req) (code : Nat) (cls : Option Nat) :
    MovesBanks s (execForceClose r code cls s) := by
  refine .kept (take_banks fun t => ?_)
  cases r.port with
  | line i =>
    simp only [apply_ite State.banks, refuseRecorded_banks, refuse_banks]
    cases forceChoice t code cls <;> simp
  | scan => rfl
  | setup => rfl

theorem execRelease_movesBanks (r : Req) (number : Nat) : MovesBanks s (execRelease r number s) := by
  refine .kept (take_banks fun t => ?_)
  cases r.port with
  | line i =>
    simp only [apply_ite State.banks, refuse_banks]
    cases ownPull t i number with
    | none => simp only [apply_ite State.banks, refuse_banks, ite_self]
    | some p =>
      cases h : p.state <;> simp [h]
  | scan => rfl
  | setup => rfl

theorem execCancel_movesBanks (r : Req) (number : Nat) : MovesBanks s (execCancel r number s) := by
  refine .kept (take_banks fun t => ?_)
  cases r.port with
  | line i =>
    simp only [apply_ite State.banks, refuse_banks]
    cases ownPull t i number with
    | none => simp
    | some p => cases h : p.state <;> simp [h]
  | scan => rfl
  | setup => rfl


theorem execWriteGeometry_movesBanks (r : Req) (p : GeomParam) (v : Option Nat) :
    MovesBanks s (execWriteGeometry r p v s) := by
  refine .kept (serve_banks fun t => ?_)
  simp only [apply_ite State.banks, refuse_banks]
  cases geomConflict (t.geometry.put p v) p <;> simp

theorem execClearBin_movesBanks (r : Req) (n : Nat) : MovesBanks s (execClearBin r n s) := by
  refine .kept (serve_banks fun t => ?_)
  cases asBin n with
  | none => rfl
  | some b => cases h : (t.bin b).state <;> simp [h, apply_ite State.banks]

theorem execBinOnline_movesBanks (r : Req) (n : Nat) : MovesBanks s (execBinOnline r n s) := by
  refine .kept (serve_banks fun t => ?_)
  cases asBin n with
  | none => rfl
  | some b => simp [apply_ite State.banks]

theorem execBinOffline_movesBanks (r : Req) (n : Nat) : MovesBanks s (execBinOffline r n s) := by
  refine .kept (serve_banks fun t => ?_)
  cases asBin n with
  | none => rfl
  | some b =>
    dsimp only
    split <;> rfl

theorem execCloseBin_movesBanks (r : Req) (n : Nat) : MovesBanks s (execCloseBin r n s) := by
  refine .kept (serve_banks fun t => ?_)
  cases asBin n with
  | none => rfl
  | some b => cases h : (t.bin b).state <;> simp [h]


theorem execReadBank_movesBanks (r : Req) (n : Nat) : MovesBanks s (execReadBank r n s) := by
  refine .kept (serve_banks fun t => ?_)
  cases asFour n <;> rfl

theorem execReadGrade_movesBanks (r : Req) (n pos : Nat) : MovesBanks s (execReadGrade r n pos s) := by
  refine .kept (serve_banks fun t => ?_)
  cases asFour n with
  | none => rfl
  | some k =>
    dsimp only
    split
    · split <;> rfl
    · rfl

theorem execSlotOnline_movesBanks (r : Req) (n : Nat) : MovesBanks s (execSlotOnline r n s) := by
  refine .kept (serve_banks fun t => ?_)
  cases asSlot n <;> simp [apply_ite State.banks]

theorem execSlotOffline_movesBanks (r : Req) (n : Nat) : MovesBanks s (execSlotOffline r n s) := by
  refine .kept (serve_banks fun t => ?_)
  cases asSlot n <;> simp [apply_ite State.banks]

theorem execClearSlot_movesBanks (r : Req) (n : Nat) : MovesBanks s (execClearSlot r n s) := by
  refine .kept (serve_banks fun t => ?_)
  cases asSlot n <;> simp [apply_ite State.banks]

theorem execWriteLine_movesBanks (r : Req) (line : Nat) (access : AccessSet) (force : Bool) (rank : Nat) :
    MovesBanks s (execWriteLine r line access force rank s) := by
  refine .kept (serve_banks fun t => ?_)
  cases asFour line <;> simp [apply_ite State.banks]

theorem execStart_movesBanks (r : Req) : MovesBanks s (execStart r s) := by
  refine .kept (serve_banks fun t => ?_)
  cases h : t.mode <;> simp [apply_ite State.banks]

theorem execTallyRead_movesBanks (r : Req) (bank : Option Nat) : MovesBanks s (execTallyRead r bank s) := by
  refine .kept (serve_banks fun t => ?_)
  cases bank with
  | none => rfl
  | some n =>
    dsimp only
    split <;> rfl

theorem execUnknownRequest_movesBanks (p : Port) (tag : Byte) (what : Unknown) :
    MovesBanks s (execUnknownRequest p tag what s) := by
  refine .kept (takeFrame_banks fun t => ?_)
  cases what with
  | kind => rfl
  | subject =>
    show (refuseUnknownSubject p tag t).banks = t.banks
    unfold refuseUnknownSubject
    split <;> rfl

/-! ### Edges -/

theorem execEntryEyeLeadingEdge_movesBanks : MovesBanks s (execEntryEyeLeadingEdge s) :=
  .kept (by simp [apply_ite State.banks])

theorem execEntryEyeTrailingEdge_movesBanks : MovesBanks s (execEntryEyeTrailingEdge s) :=
  .kept (by simp [apply_ite State.banks])

theorem execLandedEyeBlocked_movesBanks (b : BinNo) : MovesBanks s (execLandedEyeBlocked b s) :=
  .kept (by simp [apply_ite State.banks])

theorem execSlotEyeBlocked_movesBanks (n : SlotNo) : MovesBanks s (execSlotEyeBlocked n s) := by
  refine .kept ?_
  split
  · rfl
  · cases s.slots[n].state <;> simp

theorem execSlotEyeClears_movesBanks (n : SlotNo) : MovesBanks s (execSlotEyeClears n s) := by
  refine .kept ?_
  split
  · rfl
  · cases h : s.slots[n].state with
    | holding l => cases g : takerOf s l <;> simp [g]
    | _ => simp

end

/-! ### Every command, and the step -/

/-- Every command but a full reset moves the banks as one of the five moves says. -/
theorem exec_movesBanks (c : Instr) (s : State) (live : ∀ pins, c ≠ .fullReset pins) : MovesBanks s (exec c s) := by
  cases c with
  | fullReset pins => exact absurd rfl (live pins)
  | selectBank r n => exact execSelectBank_movesBanks r s n
  | writeClasses r l => exact execWriteClasses_movesBanks r s l
  | writeWeights r l => exact execWriteWeights_movesBanks r s l
  | writeLimits r x w => exact execWriteLimits_movesBanks r s x w
  | writeGrade r pos g => exact execWriteGrade_movesBanks r s pos g
  | deleteGrade r pos => exact execDeleteGrade_movesBanks r s pos
  | clearBank r => exact execClearBank_movesBanks r s
  | validate r n => exact execValidate_movesBanks r s n
  | activate r n => exact execActivate_movesBanks r s n
  | readBank r n => exact execReadBank_movesBanks s r n
  | readGrade r n pos => exact execReadGrade_movesBanks s r n pos
  | sheetReport p tag payload => exact execSheetReport_movesBanks s p tag payload
  | scanResync r => exact .kept (serve_banks fun t => by simp)
  | writeGeometry r p v => exact execWriteGeometry_movesBanks s r p v
  | clearBin r n => exact execClearBin_movesBanks s r n
  | binOnline r n => exact execBinOnline_movesBanks s r n
  | binOffline r n => exact execBinOffline_movesBanks s r n
  | closeBin r n => exact execCloseBin_movesBanks s r n
  | forceClose r code cls => exact execForceClose_movesBanks s r code cls
  | writeEjectTimeout r n => exact .kept (serve_banks fun t => by simp [apply_ite State.banks])
  | clearOutfeed r => exact .kept (serve_banks fun t => by simp [apply_ite State.banks])
  | slotOnline r n => exact execSlotOnline_movesBanks s r n
  | slotOffline r n => exact execSlotOffline_movesBanks s r n
  | clearSlot r n => exact execClearSlot_movesBanks s r n
  | writeLine r line access force rank => exact execWriteLine_movesBanks s r line access force rank
  | writePassLimit r n => exact .kept (serve_banks fun t => by simp [apply_ite State.banks])
  | writeHandoverTimeout r n => exact .kept (serve_banks fun t => by simp [apply_ite State.banks])
  | pull r code bank cls nowait => exact execPull_movesBanks s r code bank cls nowait
  | release r n => exact execRelease_movesBanks s r n
  | cancel r n => exact execCancel_movesBanks s r n
  | start r => exact execStart_movesBanks s r
  | drain r => exact .kept (serve_banks fun t => by simp [apply_ite State.banks])
  | stop r => exact .kept (serve_banks fun t => by simp [apply_ite State.banks])
  | restart r => exact .kept (serve_banks fun t => by simp)
  | tallyRead r bank => exact execTallyRead_movesBanks s r bank
  | tallyClear r => exact .kept (serve_banks fun t => rfl)
  | writeEventMask r mask => exact .kept (serve_banks fun t => rfl)
  | eventRead r n => exact .kept (serve_banks fun t => by simp [apply_ite State.banks])
  | queryTracker | queryBins | queryStoredLifts | queryPulls | queryOutfeed | querySettings | queryLines
  | queryRefusals | queryPorts | queryMode => exact .kept (serveQuery_banks _ _ _ _ _ _ s)
  | unknownRequest p tag what => exact execUnknownRequest_movesBanks s p tag what
  | frameReceived | sendItem | interByteGapTimeout | partFrameEnds => exact .kept (setPort_banks _ _ s)
  | travelPulse => exact .kept (by simp)
  | entryEyeLeadingEdge => exact execEntryEyeLeadingEdge_movesBanks s
  | entryEyeTrailingEdge => exact execEntryEyeTrailingEdge_movesBanks s
  | decisionPointPassage n => exact .kept (passDecision_banks s n)
  | gateOpenPassage n => exact .kept (passGateOpen_banks s n)
  | gateClosePassage n => exact .kept (passGateClose_banks s n)
  | landingWindowEnd n => exact .kept (passWindowEnd_banks s n)
  | redryGateOpenPassage n => exact .kept (passRedryOpen_banks s n)
  | redryGateClosePassage n => exact .kept (passRedryClose_banks s n)
  | beltEndPassage n => exact .kept (passBeltEnd_banks s n)
  | eyeStuckPassage b => exact .kept (passEyeStuck_banks s b)
  | landedEyeBlocked b => exact execLandedEyeBlocked_movesBanks s b
  | landedEyeClears b => exact .kept (setBin_banks b _ s)
  | drainCompletion b => exact .kept (by simp)
  | endOfDrain => exact .kept (finish_banks s)
  | ejectionStart => exact .kept (ejectionTest_banks s)
  | slotEyeBlocked n => exact execSlotEyeBlocked_movesBanks s n
  | slotEyeClears n => exact execSlotEyeClears_movesBanks s n
  | ejectTimeout => exact .kept (timeOutEjection_banks s)
  | handoverExpired line => exact .kept (expireHandover_banks line s)

/-- A step moves the banks as a command may, unless it takes a full reset. -/
theorem step_banks {s t : State} (h : step s = .next t) :
    BanksMove s.banks t.banks
    ∨ ∃ pins rest, s.pending = .fullReset pins :: rest ∧ t.banks = (State.resetWith pins).banks := by
  unfold step at h
  split at h
  · next c rest front =>
    by_cases reset : ∃ pins, c = .fullReset pins
    · obtain ⟨pins, rfl⟩ := reset
      cases h
      exact .inr ⟨pins, rest, front, rfl⟩
    · exact .inl (exec_movesBanks c { s with pending := rest } (fun pins e => reset ⟨pins, e⟩) t h)
  · cases h
    rw [tick_banks]
    exact .inl .same

theorem resetWith_activeNamed (pins : Pins) : (State.resetWith pins).banks.ActiveNamed := by
  have banks : (State.resetWith pins).banks = { bank := Vector.replicate 4 Bank.empty, active := none, edit := 0 } := rfl
  unfold Banks.ActiveNamed
  rw [banks]
  decide

/-- Settles O20: no move of the banks changes what the active bank holds. -/
theorem activeContentsStayFixed : Obligations.ActiveContentsStayFixed := by
  intro s t k h active live
  rcases step_banks h with move | ⟨pins, rest, front, -⟩
  · exact move.contents active
  · exact absurd front (live pins rest)

/-- Settles O21: every move of the banks, and a full reset, keeps the active bank number in step. -/
theorem activeBankNamedKept : Obligations.ActiveBankNamedKept := by
  intro s t named h
  rw [activeBankNamed_iff] at named ⊢
  rcases step_banks h with move | ⟨pins, -, -, banks⟩
  · exact move.activeNamed named
  · rw [banks]
    exact resetWith_activeNamed pins

end Sys2Proof.Machine
end

section
/-! SUPPORT. The bank writes (R33 to R40): their field checks in the terms of the manual, what an accepted one leaves, and
the protection of the active bank; then the statements about them. -/

namespace Sys2Proof.Machine

/-! ### An admitted bank write -/

theorem WriteAdmitted.canWrite {c : Instr} {r : Req} {k : ReqKind} {s : State} (h : WriteAdmitted c s)
    (is : c.request? = some (r, k)) : CanWrite r k c s := by
  have can := h.admitted
  rw [Admitted, is] at can
  exact ⟨can, h.unprotected⟩

section
variable {r : Req} {k : ReqKind} {c : Instr} {s : State} {f : State → State} (can : CanWrite r k c s)
include can

/-- A write that its handler stores leaves the edit bank replaced and the DONE reply, and nothing else (R33). -/
theorem serveWrite_stores {b : Bank}
    (stores : f (freeBuffer r.port s) = storeBank r k b (freeBuffer r.port s)) :
    serveWrite r k c f s = bankWritten r k b s := by
  rw [serveWrite_admitted can, stores]
  exact done_freeBuffer r k _ { s with banks := { s.banks with bank := vset s.banks.bank s.banks.edit b } }

theorem serveWrite_refuses {why : RefusalReason}
    (refuses : f (freeBuffer r.port s) = refuse r k why (freeBuffer r.port s)) :
    serveWrite r k c f s = answered r.port (refusedItem r k why) s := by
  rw [serveWrite_admitted can, refuses, refuse_freeBuffer]

end

theorem inRange_iff (lo hi x : Nat) : inRange lo hi x = true ↔ lo ≤ x ∧ x ≤ hi := by
  rw [inRange, Bool.and_eq_true, decide_eq_true_iff, decide_eq_true_iff]

theorem optInRange_iff (lo hi : Nat) (x : Option Nat) :
    optInRange lo hi x = true ↔ ∀ n, x = some n → lo ≤ n ∧ n ≤ hi := by
  cases x <;> simp [optInRange, inRange_iff]

/-! ### WRITE_LIMITS (R36) -/

theorem limitsFormed_iff (redryLimit fullWidth : Nat) :
    (inRange 0 300 redryLimit && inRange 100 1400 fullWidth) = true
      ↔ redryLimit ≤ 300 ∧ 100 ≤ fullWidth ∧ fullWidth ≤ 1400 := by
  simp only [Bool.and_eq_true, inRange_iff, Nat.zero_le, true_and]

/-- Settles O13: one check of both limits, and the two readers of them in the evaluator. -/
theorem writeLimitsReplacesBoth : Obligations.WriteLimitsReplacesBoth := by
  refine ⟨fun r redryLimit fullWidth s h => ⟨fun dry narrow wide => ?_, fun out => ?_⟩,
    fun bank x => ⟨⟨?_, fun wet => ⟨_, evaluate_wet wet⟩⟩, ?_, ?_⟩⟩
  · have formed := (limitsFormed_iff redryLimit fullWidth).mpr ⟨dry, narrow, wide⟩
    refine congrArg _ (serveWrite_stores (h.canWrite rfl) ?_)
    exact if_pos formed
  · have not_formed : ¬(inRange 0 300 redryLimit && inRange 100 1400 fullWidth) = true := by
      rw [limitsFormed_iff]; omega
    refine congrArg _ (serveWrite_refuses (h.canWrite rfl) ?_)
    exact if_neg not_formed
  · rintro ⟨v, e⟩
    by_contra dry
    exact evaluate_dry_ne_redry (Nat.not_lt.mp dry) v e
  · unfold widthClassOf; split <;> simp [*]
  · unfold widthClassOf; split <;> simp <;> omega

/-! ### WRITE_CLASSES, WRITE_WEIGHTS and DELETE_GRADE (R34, R35, R39) -/

theorem classesOf_eq_some {a b c d : Option ClassRange}
    (inside : ∀ x ∈ [a, b, c, d], ∀ y, x = some y → 500 ≤ y.lo ∧ y.lo ≤ 6000 ∧ 500 ≤ y.hi ∧ y.hi ≤ 6000) :
    classesOf [a, b, c, d] = some #v[a, b, c, d] := by
  refine if_pos (List.all_eq_true.mpr fun x mem => ?_)
  cases x with
  | none => rfl
  | some y =>
    have := inside _ mem y rfl
    simp only [Bool.and_eq_true, inRange_iff]
    omega

theorem classesOf_eq_none {places : List (Option ClassRange)}
    (bad : places.length ≠ 4
      ∨ ∃ y, some y ∈ places ∧ (y.lo < 500 ∨ 6000 < y.lo ∨ y.hi < 500 ∨ 6000 < y.hi)) :
    classesOf places = none := by
  unfold classesOf
  split
  · next a b c d =>
    obtain ⟨y, mem, out⟩ : ∃ y, some y ∈ [a, b, c, d] ∧ (y.lo < 500 ∨ 6000 < y.lo ∨ y.hi < 500 ∨ 6000 < y.hi) :=
      bad.resolve_left (fun short => short rfl)
    refine if_neg fun inside => ?_
    have := List.all_eq_true.mp inside (some y) mem
    simp only [Bool.and_eq_true, inRange_iff] at this
    omega
  · rfl

theorem weightsOf_eq_none {l : List Byte} (bad : l.length ≠ 8) : weightsOf l = none := by
  unfold weightsOf
  split
  · exact absurd rfl bad
  · rfl

theorem deleteFormed_iff (rules : List GradeRule) (pos : Nat) :
    (inRange 0 11 pos && decide (pos < rules.length)) = true ↔ pos ≤ 11 ∧ pos < rules.length := by
  simp only [Bool.and_eq_true, inRange_iff, Nat.zero_le, true_and, decide_eq_true_iff]

theorem eraseIdx_length_append_cons {α : Type} (before after : List α) (x : α) :
    (before ++ x :: after).eraseIdx before.length = before ++ after := by
  rw [List.eraseIdx_append_of_length_le (Nat.le_refl _), Nat.sub_self, List.eraseIdx_cons_zero]

/-- Settles O14: each write's check, and the part of the edit bank that it replaces. -/
theorem bankWritesReplaceContents : Obligations.BankWritesReplaceContents := by
  intro r s
  refine ⟨fun a b c d h inside => ?_, fun places h bad => ?_, fun a b c d e f g i h => ?_, fun weights h bad => ?_,
    fun before after x h split small => ?_, fun pos h bad => ?_, fun h => ?_⟩
  · refine congrArg _ (serveWrite_stores (h.canWrite rfl) ?_)
    dsimp only
    rw [classesOf_eq_some inside]
    rfl
  · refine congrArg _ (serveWrite_refuses (h.canWrite rfl) ?_)
    dsimp only
    rw [classesOf_eq_none bad]
  · exact congrArg _ (serveWrite_stores (h.canWrite rfl) rfl)
  · refine congrArg _ (serveWrite_refuses (h.canWrite rfl) ?_)
    dsimp only
    rw [weightsOf_eq_none bad]
  · have formed : (inRange 0 11 before.length && decide (before.length < s.editBank.rules.length)) = true := by
      rw [deleteFormed_iff, split, List.length_append, List.length_cons]; omega
    rw [← eraseIdx_length_append_cons before after x, ← split]
    refine congrArg _ (serveWrite_stores (h.canWrite rfl) ?_)
    exact if_pos formed
  · have not_formed : ¬(inRange 0 11 pos && decide (pos < s.editBank.rules.length)) = true := by
      rw [deleteFormed_iff]; omega
    refine congrArg _ (serveWrite_refuses (h.canWrite rfl) ?_)
    exact if_neg not_formed
  · exact congrArg _ (serveWrite_stores (h.canWrite rfl) rfl)

/-! ### WRITE_GRADE (R37, R38) -/

/-- The field checks of WRITE_GRADE are the lines of R37. -/
theorem gradeWriteFormed_iff (rules : List GradeRule) (pos : Nat) (g : GradeRule) :
    gradeWriteFormed rules pos g = true ↔ GradeWriteFormed rules pos g := by
  have unique : (rules.eraseIdx pos).all (fun r => r.code != g.code) = true
      ↔ ∀ i x, rules[i]? = some x → i ≠ pos → x.code ≠ g.code := by
    simp only [List.all_eq_true, List.mem_eraseIdx_iff_getElem?, bne_iff_ne]
    exact ⟨fun h i x is other => h x ⟨i, other, is⟩, fun h x ⟨i, other, is⟩ => h i x is other⟩
  have kinds : allKinds.all (fun k => optInRange 0 32 (g.countLimit.get k) && inRange 1 999 (g.sizeLimit.get k)) = true
      ↔ (∀ k n, g.countLimit.get k = some n → n ≤ 32) ∧ ∀ k, 1 ≤ g.sizeLimit.get k ∧ g.sizeLimit.get k ≤ 999 := by
    simp only [List.all_eq_true, mem_allKinds, true_imp_iff, Bool.and_eq_true, optInRange_iff, inRange_iff,
      Nat.zero_le, true_and, forall_and]
  have inFour (l : List Nat) : l.all (inRange 0 3) = true ↔ ∀ c ∈ l, c ≤ 3 := by
    simp only [List.all_eq_true, inRange_iff, Nat.zero_le, true_and]
  have inBins (l : List Nat) : l.all (inRange 0 15) = true ↔ ∀ c ∈ l, c ≤ 15 := by
    simp only [List.all_eq_true, inRange_iff, Nat.zero_le, true_and]
  simp only [gradeWriteFormed, Bool.and_eq_true, unique, kinds, inFour, inBins, inRange_iff, optInRange_iff,
    decide_eq_true_iff, Nat.zero_le, true_and, and_assoc]
  constructor
  · rintro ⟨p, p', c, c', unique, n, n', nodup, classes, m, m', density, counts, sizes, spill, b, b', nodup', bins,
      t, t', l, l'⟩
    exact ⟨⟨p, p'⟩, ⟨c, c'⟩, unique, ⟨n, n', nodup, classes⟩, ⟨m, m'⟩, density, counts, sizes, spill,
      ⟨b, b', nodup', bins⟩, ⟨t, t'⟩, ⟨l, l'⟩⟩
  · rintro ⟨⟨p, p'⟩, ⟨c, c'⟩, unique, ⟨n, n', nodup, classes⟩, ⟨m, m'⟩, density, counts, sizes, spill,
      ⟨b, b', nodup', bins⟩, ⟨t, t'⟩, ⟨l, l'⟩⟩
    exact ⟨p, p', c, c', unique, n, n', nodup, classes, m, m', density, counts, sizes, spill, b, b', nodup', bins,
      t, t', l, l'⟩

/-- Settles O15: the checks of R37, and where the rule is placed (R38). -/
theorem writeGradePlacesRule : Obligations.WriteGradePlacesRule := by
  intro r pos g s h
  simp only [← gradeWriteFormed_iff]
  refine ⟨fun formed within => ?_, fun formed atEnd => ?_, fun bad => ?_⟩
  · have placed : placeRule s.editBank.rules pos g = s.editBank.rules.set pos g := if_pos within
    rw [← placed]
    refine congrArg _ (serveWrite_stores (h.canWrite rfl) ?_)
    exact if_pos formed
  · have placed : placeRule s.editBank.rules pos g = s.editBank.rules ++ [g] := if_neg (by omega)
    rw [← placed]
    refine congrArg _ (serveWrite_stores (h.canWrite rfl) ?_)
    exact if_pos formed
  · refine congrArg _ (serveWrite_refuses (h.canWrite rfl) ?_)
    exact if_neg bad

/-! ### The protection of the active bank (R33, R179) -/

/-- The six bank writes are each taken by `serveWrite`. -/
theorem exec_bankWrite {c : Instr} {r : Req} {k : ReqKind} (is : c.request? = some (r, k))
    (write : k ∈ [ReqKind.writeClasses, .writeWeights, .writeLimits, .writeGrade, .deleteGrade, .clearBank])
    (s : State) : ∃ f, exec c s = .next (serveWrite r k c f s) := by
  cases c <;> cases is
  case writeClasses | writeWeights | writeLimits | writeGrade | deleteGrade | clearBank => exact ⟨_, rfl⟩
  all_goals exact absurd write (by decide)

theorem serveWrite_protected {r : Req} {k : ReqKind} {c : Instr} (f : State → State) {s : State}
    (can : CanTake r k c s) (right : mayMake r.port k = true) (active : s.banks.active = some s.banks.edit) :
    serveWrite r k c f s
      = refusedRecorded r.port r.tag k .protectedBank (some (.bank s.banks.edit.val)) s := by
  rcases serveWrite_cases r k c f s with ⟨free, -⟩ | ⟨waits, -⟩ | ⟨-, denied, -⟩ | ⟨-, -, -, e⟩ | ⟨-, -, free, -⟩
  · exact absurd active free.unprotected
  · exact absurd can waits
  · rw [right] at denied; cases denied
  · exact e
  · exact absurd active free

/-- Settles O16: the protection stands before the form and the fields. -/
theorem protectedBankWritesRefused : Obligations.ProtectedBankWritesRefused := by
  intro c r k s is setup taken write active
  obtain ⟨f, e⟩ := exec_bankWrite is write s
  rw [Taken, is] at taken
  have right : mayMake r.port k = true := by
    rw [setup]
    revert write
    cases k <;> decide
  rw [e, serveWrite_protected f taken right active, setup]

end Sys2Proof.Machine
end

section
/-! SUPPORT. The requests that select, read, validate or activate a bank (R32, R41, R43 to R45), up to the switch: their
replies and effects; then the statement about them. -/

namespace Sys2Proof.Machine

/-! ### An admitted request -/

theorem Admitted.canServe {c : Instr} {r : Req} {k : ReqKind} {s : State} (h : Admitted c s)
    (is : c.request? = some (r, k)) : CanServe r k c s := by
  rwa [Admitted, is] at h

section
variable {r : Req} {k : ReqKind} {c : Instr} {target : Option Target} {s : State} {f : State → State}
  (can : CanServe r k c s)
include can

theorem serve_answers {x : Result} (answers : f (freeBuffer r.port s) = done r k x (freeBuffer r.port s)) :
    serve r k c target f s = answered r.port (doneItem r k x) s := by
  rw [serve_admitted can, answers, done_freeBuffer]

theorem serve_answers_with_banks {x : Result} {b : Banks}
    (answers : f (freeBuffer r.port s) = done r k x { freeBuffer r.port s with banks := b }) :
    serve r k c target f s = answered r.port (doneItem r k x) { s with banks := b } := by
  rw [serve_admitted can, answers]
  exact done_freeBuffer r k x { s with banks := b }

theorem serve_refuses {why : RefusalReason}
    (refuses : f (freeBuffer r.port s) = refuse r k why (freeBuffer r.port s)) :
    serve r k c target f s = answered r.port (refusedItem r k why) s := by
  rw [serve_admitted can, refuses, refuse_freeBuffer]

theorem serve_refuses_with {x : FailureReport}
    (refuses : f (freeBuffer r.port s) = refuseWith r k x (freeBuffer r.port s)) :
    serve r k c target f s
      = answered r.port (.reply (.request k) r.tag (.refused .invalid (some x))) s := by
  rw [serve_admitted can, refuses, refuseWith_freeBuffer]

end

/-! ### The bank a number names -/

theorem asFour_val (k : Fin 4) : asFour k.val = some k := dif_pos k.isLt

theorem asFour_eq_none {n : Nat} (h : 4 ≤ n) : asFour n = none := dif_neg (Nat.not_lt.mpr h)

theorem BankState.afterPass_eq (x : BankState) : x.afterPass = if x = .active then .active else .valid := by
  cases x <;> rfl

/-! ### The commands -/

section
variable {r : Req} {s : State}

theorem exec_selectBank (k : BankNo) (h : Admitted (.selectBank r k.val) s) :
    exec (.selectBank r k.val) s
      = .next (answered r.port (doneItem r .selectBank (.selected k s.banks.bank[k].state))
          { s with banks := { s.banks with edit := k } }) := by
  refine congrArg _ (serve_answers_with_banks (h.canServe rfl) ?_)
  rw [asFour_val]
  rfl

theorem exec_readBank (k : BankNo) (h : Admitted (.readBank r k.val) s) :
    exec (.readBank r k.val) s
      = .next (answered r.port
          (doneItem r .readBank
            (.bankContents s.banks.bank[k].state (s.banks.active == some k)
              s.banks.bank[k].classes s.banks.bank[k].weights s.banks.bank[k].redryLimit
              s.banks.bank[k].fullWidth s.banks.bank[k].rules.length
              (s.banks.bank[k].rules.map (fun g => g.code)))) s) := by
  refine congrArg _ (serve_answers (h.canServe rfl) ?_)
  rw [asFour_val]
  rfl

theorem exec_readGrade (k : BankNo) {pos : Nat} {g : GradeRule} (h : Admitted (.readGrade r k.val pos) s)
    (rule : s.banks.bank[k].rules[pos]? = some g) (small : pos ≤ 11) :
    exec (.readGrade r k.val pos) s
      = .next (answered r.port (doneItem r .readGrade (.gradeContents g)) s) := by
  refine congrArg _ (serve_answers (h.canServe rfl) ?_)
  simp only [asFour_val, freeBuffer_banks, rule, small, ↓reduceIte]

theorem exec_readGrade_outside (k : BankNo) {pos : Nat} (h : Admitted (.readGrade r k.val pos) s)
    (outside : 11 < pos ∨ s.banks.bank[k].rules.length ≤ pos) :
    exec (.readGrade r k.val pos) s = .next (answered r.port (refusedItem r .readGrade .invalid) s) := by
  refine congrArg _ (serve_refuses (h.canServe rfl) ?_)
  simp only [asFour_val, freeBuffer_banks]
  split
  · next g rule =>
    have : pos < s.banks.bank[k].rules.length := (List.getElem?_eq_some_iff.mp rule).1
    rw [if_neg (by omega)]
  · rfl

theorem exec_validate_passes (k : BankNo) (h : Admitted (.validate r k.val) s)
    (passes : validationOf s.geometry s.banks.bank[k] = none) :
    exec (.validate r k.val) s
      = .next (answered r.port (doneItem r .validate (.validated k s.banks.bank[k].state.afterPass))
          { s with banks := s.banks.setState k s.banks.bank[k].state.afterPass }) := by
  refine congrArg _ (serve_answers_with_banks (h.canServe rfl) ?_)
  simp only [asFour_val, freeBuffer_banks, freeBuffer_geometry, passes]
  rfl

theorem exec_validate_fails (k : BankNo) {f : ValidationFailure} (h : Admitted (.validate r k.val) s)
    (fails : validationOf s.geometry s.banks.bank[k] = some f) :
    exec (.validate r k.val) s
      = .next (answered r.port
          (.reply (.request .validate) r.tag (.refused .invalid (some (.validation f)))) s) := by
  refine congrArg _ (serve_refuses_with (h.canServe rfl) ?_)
  simp only [asFour_val, freeBuffer_banks, freeBuffer_geometry, fails]

theorem exec_activate_again (k : BankNo) (h : Admitted (.activate r k.val) s) (active : s.banks.active = some k) :
    exec (.activate r k.val) s = .next (answered r.port (doneItem r .activate (.activated k none [])) s) := by
  refine congrArg _ (serve_answers (h.canServe rfl) ?_)
  simp only [asFour_val, freeBuffer_banks, active, ↓reduceIte]

theorem exec_activate_fails (k : BankNo) {f : ValidationFailure} (h : Admitted (.activate r k.val) s)
    (other : s.banks.active ≠ some k) (fails : validationOf s.geometry s.banks.bank[k] = some f) :
    exec (.activate r k.val) s
      = .next (answered r.port
          (.reply (.request .activate) r.tag (.refused .invalid (some (.validation f)))) s) := by
  refine congrArg _ (serve_refuses_with (h.canServe rfl) ?_)
  simp only [asFour_val, freeBuffer_banks, freeBuffer_geometry, other, fails, ↓reduceIte]

end

/-- Settles O17: the reply and the effect of each request, and a number that names no bank (R32, R41, R44, R45). -/
theorem selectReadAndValidateBanks : Obligations.SelectReadAndValidateBanks := by
  intro r s
  refine ⟨exec_selectBank, fun n no_bank h => ?_, exec_readBank, fun n no_bank h => ?_,
    fun k pos g h rule small => exec_readGrade k h rule small, fun k pos h => exec_readGrade_outside k h,
    fun n pos no_bank h => ?_, fun k h passes => ⟨_, BankState.afterPass_eq _, exec_validate_passes k h passes⟩,
    fun k f h => exec_validate_fails k h, fun n no_bank h => ?_, exec_activate_again,
    fun k f h => exec_activate_fails k h, fun n no_bank h => ?_⟩
  all_goals
    refine congrArg _ (serve_refuses (h.canServe rfl) ?_)
    rw [asFour_eq_none no_bank]

end Sys2Proof.Machine
end

section
/-! SUPPORT. The validation of a bank (R42, R43): each check of Table 2-4 in the terms of the manual, and the first that
fails; then the statement about it. -/

namespace Sys2Proof.Machine

/-! ### The checks in the terms of the manual -/

/-- Class `i`, where it is present, is not reversed (check 2). -/
def ClassOrdered (classes : Vector (Option ClassRange) 4) (i : Fin 4) : Prop :=
  ∀ x, classes[i] = some x → x.lo ≤ x.hi

/-- Classes `i` and `j`, where both are present, share no thickness (check 3). -/
def ClassesApart (classes : Vector (Option ClassRange) 4) (i j : Fin 4) : Prop :=
  ∀ x y, classes[i] = some x → classes[j] = some y → x.hi < y.lo ∨ y.hi < x.lo

/-- A rule's spill grade, where it has one, is the code of a later rule (check 4). -/
def SpillLater (x : GradeRule) (later : List GradeRule) : Prop :=
  ∀ c, x.spill = some c → ∃ y ∈ later, y.code = c

/-- A rule before the rules `later` passes check 4. -/
structure RuleSound (g : Geometry) (x : GradeRule) (later : List GradeRule) : Prop where
  moisture : x.moistureMin ≤ x.moistureMax
  spill : SpillLater x later
  placed : ∀ n ∈ x.bins, g.positionOf n ≠ none

/-! ### Check 2: the first reversed class -/

/-- Check 2 of one class. -/
def classFailure (classes : Vector (Option ClassRange) 4) (i : Fin 4) : Option ValidationFailure :=
  match classes[i] with
  | some r => if r.hi < r.lo then some (.range i.val) else none
  | none => none

theorem rangeFailure_eq (classes : Vector (Option ClassRange) 4) :
    rangeFailure classes = allFour.findSome? (classFailure classes) := rfl

section
variable {classes : Vector (Option ClassRange) 4} {i j : Fin 4}

theorem classFailure_eq_none (h : ClassOrdered classes i) : classFailure classes i = none := by
  unfold classFailure
  split
  · next r present => exact if_neg (Nat.not_lt.mpr (h r present))
  · rfl

theorem classFailure_eq_some (h : ¬ClassOrdered classes i) : classFailure classes i = some (.range i.val) := by
  simp only [ClassOrdered, not_forall, Nat.not_le] at h
  obtain ⟨r, present, reversed⟩ := h
  simp only [classFailure, present, reversed, ↓reduceIte]

theorem rangeFailure_eq_some (h : ¬ClassOrdered classes i) (lower : ∀ j, j < i → ClassOrdered classes j) :
    rangeFailure classes = some (.range i.val) := by
  obtain ⟨before, after, split, below⟩ := allFour_split i
  rw [rangeFailure_eq, List.findSome?_eq_some_iff]
  exact ⟨before, i, after, split, classFailure_eq_some h,
    fun j mem => classFailure_eq_none (lower j (below j mem))⟩

theorem rangeFailure_eq_none_iff : rangeFailure classes = none ↔ ∀ i, ClassOrdered classes i := by
  rw [rangeFailure_eq, List.findSome?_eq_none_iff]
  refine ⟨fun h i => ?_, fun h i _ => classFailure_eq_none (h i)⟩
  by_contra reversed
  have := h i (mem_allFour i)
  rw [classFailure_eq_some reversed] at this
  cases this

/-! ### Check 3: the first two classes that overlap -/

/-- Check 3 of one pair of classes. -/
def pairFailure (classes : Vector (Option ClassRange) 4) (p : Fin 4 × Fin 4) : Option ValidationFailure :=
  match classes[p.1], classes[p.2] with
  | some r, some q => if r.lo ≤ q.hi ∧ q.lo ≤ r.hi then some (.overlap p.2.val p.1.val) else none
  | _, _ => none

theorem overlapFailure_eq (classes : Vector (Option ClassRange) 4) :
    overlapFailure classes = classPairs.findSome? (pairFailure classes) := rfl

theorem pairFailure_eq_none (h : ClassesApart classes i j) : pairFailure classes (i, j) = none := by
  unfold pairFailure
  split
  · next r q present present' =>
    have := h r q present present'
    exact if_neg (by omega)
  · rfl

theorem pairFailure_eq_some (h : ¬ClassesApart classes i j) :
    pairFailure classes (i, j) = some (.overlap j.val i.val) := by
  simp only [ClassesApart, not_forall, not_or, Nat.not_lt] at h
  obtain ⟨r, q, present, present', shared, shared'⟩ := h
  simp only [pairFailure, present, present']
  exact if_pos ⟨shared', shared⟩

theorem mem_classPairs_iff (i j : Fin 4) : (i, j) ∈ classPairs ↔ i < j := by
  revert i j; decide

/-- The pairs before a pair of `classPairs`: by the lower class and then by the higher. -/
theorem classPairs_split (h : i < j) :
    ∃ before after, classPairs = before ++ (i, j) :: after
      ∧ ∀ p ∈ before, p.1 < p.2 ∧ (p.1 < i ∨ p.1 = i ∧ p.2 < j) := by
  refine ⟨classPairs.take (classPairs.idxOf (i, j)), classPairs.drop (classPairs.idxOf (i, j) + 1), ?_⟩
  revert i j
  decide

theorem overlapFailure_eq_some (lt : i < j) (h : ¬ClassesApart classes i j)
    (earlier : ∀ k m : Fin 4, k < m → (k < i ∨ k = i ∧ m < j) → ClassesApart classes k m) :
    overlapFailure classes = some (.overlap j.val i.val) := by
  obtain ⟨before, after, split, first⟩ := classPairs_split lt
  rw [overlapFailure_eq, List.findSome?_eq_some_iff]
  refine ⟨before, (i, j), after, split, pairFailure_eq_some h, fun p mem => ?_⟩
  obtain ⟨ordered, place⟩ := first p mem
  exact pairFailure_eq_none (earlier p.1 p.2 ordered place)

theorem overlapFailure_eq_none_iff : overlapFailure classes = none ↔ ∀ i j, i < j → ClassesApart classes i j := by
  rw [overlapFailure_eq, List.findSome?_eq_none_iff]
  refine ⟨fun h i j lt => ?_, fun h p mem => pairFailure_eq_none (h p.1 p.2 ((mem_classPairs_iff _ _).mp mem))⟩
  by_contra shared
  have := h (i, j) ((mem_classPairs_iff i j).mpr lt)
  rw [pairFailure_eq_some shared] at this
  cases this

end

/-! ### Check 4: the first rule that fails -/

section
variable {g : Geometry} {x : GradeRule} {later : List GradeRule} (i : Nat)

/-- No later rule has the code of a rule's spill grade. -/
def spillUnmet (x : GradeRule) (later : List GradeRule) : Bool :=
  match x.spill with
  | none => false
  | some c => later.all (fun y => y.code != c)

theorem spillUnmet_iff : spillUnmet x later = true ↔ ¬SpillLater x later := by
  unfold spillUnmet SpillLater
  cases x.spill <;> simp

theorem rulesFailure_cons (g : Geometry) (x : GradeRule) (later : List GradeRule) :
    rulesFailure g i (x :: later)
      = if x.moistureMax < x.moistureMin then some (.moisture i)
        else if spillUnmet x later then some (.spill i)
        else ((x.bins.find? (fun n => (g.positionOf n).isNone)).map (.bin i)).or (rulesFailure g (i + 1) later) := by
  rw [rulesFailure]
  cases x.bins.find? (fun n => (g.positionOf n).isNone) <;> rfl

theorem rulesFailure_moisture (h : ¬x.moistureMin ≤ x.moistureMax) :
    rulesFailure g i (x :: later) = some (.moisture i) := by
  rw [rulesFailure_cons, if_pos (Nat.not_le.mp h)]

section
variable (moisture : x.moistureMin ≤ x.moistureMax)
include moisture

theorem rulesFailure_spill (h : ¬SpillLater x later) : rulesFailure g i (x :: later) = some (.spill i) := by
  rw [rulesFailure_cons, if_neg (Nat.not_lt.mpr moisture), if_pos (spillUnmet_iff.mpr h)]

variable (spill : SpillLater x later)
include spill

theorem rulesFailure_bins :
    rulesFailure g i (x :: later)
      = ((x.bins.find? (fun n => (g.positionOf n).isNone)).map (.bin i)).or (rulesFailure g (i + 1) later) := by
  rw [rulesFailure_cons, if_neg (Nat.not_lt.mpr moisture), if_neg (fun h => spillUnmet_iff.mp h spill)]

theorem rulesFailure_bin {front rest : List Nat} {n : Nat} (bins : x.bins = front ++ n :: rest)
    (placed : ∀ m ∈ front, g.positionOf m ≠ none) (unset : g.positionOf n = none) :
    rulesFailure g i (x :: later) = some (.bin i n) := by
  have found : x.bins.find? (fun n => (g.positionOf n).isNone) = some n := by
    rw [List.find?_eq_some_iff_append]
    refine ⟨Option.isNone_iff_eq_none.mpr unset, front, rest, bins, fun m mem => ?_⟩
    simpa [Option.isSome_iff_ne_none] using placed m mem
  rw [rulesFailure_bins i moisture spill, found]
  rfl

end

theorem rulesFailure_sound (h : RuleSound g x later) :
    rulesFailure g i (x :: later) = rulesFailure g (i + 1) later := by
  have found : x.bins.find? (fun n => (g.positionOf n).isNone) = none :=
    List.find?_eq_none.mpr fun n mem => by simpa using h.placed n mem
  rw [rulesFailure_bins i h.moisture h.spill, found]
  rfl

/-- The rules before the first that fails are passed over, and it is named by its rank position. -/
theorem rulesFailure_append {before : List GradeRule} (rest : List GradeRule)
    (sound : ∀ front y mid, before = front ++ y :: mid → RuleSound g y (mid ++ rest)) :
    rulesFailure g i (before ++ rest) = rulesFailure g (i + before.length) rest := by
  induction before generalizing i with
  | nil => rfl
  | cons y before ih =>
    have head : RuleSound g y (before ++ rest) := sound [] y before rfl
    have tail := ih (i + 1) fun front z mid split => sound (y :: front) z mid (by rw [split]; rfl)
    rw [List.cons_append, rulesFailure_sound i head, tail, List.length_cons]
    congr 1
    omega

theorem rulesFailure_cons_eq_none_iff :
    rulesFailure g i (x :: later) = none ↔ RuleSound g x later ∧ rulesFailure g (i + 1) later = none := by
  refine ⟨fun passes => ?_, fun ⟨sound, rest⟩ => by rw [rulesFailure_sound i sound, rest]⟩
  have sound : RuleSound g x later := by
    have moisture : x.moistureMin ≤ x.moistureMax := by
      by_contra h
      rw [rulesFailure_moisture i h] at passes
      cases passes
    have spill : SpillLater x later := by
      by_contra h
      rw [rulesFailure_spill i moisture h] at passes
      cases passes
    rw [rulesFailure_bins i moisture spill, Option.or_eq_none_iff, Option.map_eq_none_iff, List.find?_eq_none] at passes
    exact ⟨moisture, spill, fun n mem unset => passes.1 n mem (Option.isNone_iff_eq_none.mpr unset)⟩
  rw [rulesFailure_sound i sound] at passes
  exact ⟨sound, passes⟩

theorem rulesFailure_eq_none_iff (g : Geometry) (rules : List GradeRule) :
    rulesFailure g i rules = none
      ↔ ∀ (j : Nat) (x : GradeRule), rules[j]? = some x → RuleSound g x (rules.drop (j + 1)) := by
  induction rules generalizing i with
  | nil => simp [rulesFailure]
  | cons x later ih =>
    rw [rulesFailure_cons_eq_none_iff, ih]
    constructor
    · rintro ⟨head, tail⟩ j y is
      cases j with
      | zero => cases is; exact head
      | succ j => exact tail j y is
    · exact fun sound => ⟨sound 0 x rfl, fun j y is => sound (j + 1) y is⟩

end

/-! ### The whole validation -/

theorem spillLater_drop_iff (x : GradeRule) (rules : List GradeRule) (i : Nat) :
    SpillLater x (rules.drop (i + 1))
      ↔ ∀ c, x.spill = some c → ∃ j y, i < j ∧ rules[j]? = some y ∧ y.code = c := by
  refine forall₂_congr fun c _ => ⟨?_, ?_⟩
  · rintro ⟨y, mem, code⟩
    obtain ⟨j, is⟩ := List.mem_iff_getElem?.mp mem
    rw [List.getElem?_drop] at is
    exact ⟨i + 1 + j, y, by omega, is, code⟩
  · rintro ⟨j, y, lt, is, code⟩
    refine ⟨y, List.mem_iff_getElem?.mpr ⟨j - (i + 1), ?_⟩, code⟩
    rw [List.getElem?_drop, ← is]
    congr 1
    omega

section
variable {g : Geometry} {b : Bank}

theorem validationOf_noRule (empty : b.rules = []) : validationOf g b = some .ruleCount := if_pos empty

theorem validationOf_rules (some_rule : b.rules ≠ []) :
    validationOf g b
      = ((rangeFailure b.classes).or (overlapFailure b.classes)).or (rulesFailure g 0 b.rules) :=
  if_neg some_rule

/-- A bank with a rule whose classes pass is judged by its rules. -/
theorem validationOf_classes_pass (some_rule : b.rules ≠ []) (ordered : ∀ i, ClassOrdered b.classes i)
    (apart : ∀ i j, i < j → ClassesApart b.classes i j) : validationOf g b = rulesFailure g 0 b.rules := by
  rw [validationOf_rules some_rule, rangeFailure_eq_none_iff.mpr ordered, overlapFailure_eq_none_iff.mpr apart]
  rfl

/-- The rules before the first that fails are sound, so validation names what fails of that one. -/
theorem validationOf_rule {before later : List GradeRule} {x : GradeRule} {failure : ValidationFailure}
    (ordered : ∀ i, ClassOrdered b.classes i) (apart : ∀ i j, i < j → ClassesApart b.classes i j)
    (split : b.rules = before ++ x :: later)
    (sound : ∀ front y mid, before = front ++ y :: mid → RuleSound g y (mid ++ x :: later))
    (fails : rulesFailure g before.length (x :: later) = some failure) : validationOf g b = some failure := by
  have some_rule : b.rules ≠ [] := by rw [split]; simp
  rw [validationOf_classes_pass some_rule ordered apart, split, rulesFailure_append 0 (x :: later) sound,
    Nat.zero_add, fails]

theorem validationOf_eq_none_iff :
    validationOf g b = none
      ↔ b.rules ≠ [] ∧ (∀ i, ClassOrdered b.classes i) ∧ (∀ i j, i < j → ClassesApart b.classes i j)
        ∧ ∀ (i : Nat) (x : GradeRule), b.rules[i]? = some x → RuleSound g x (b.rules.drop (i + 1)) := by
  by_cases empty : b.rules = []
  · rw [validationOf_noRule empty]
    exact iff_of_false nofun (fun h => h.1 empty)
  · rw [validationOf_rules empty, Option.or_eq_none_iff, Option.or_eq_none_iff, rangeFailure_eq_none_iff,
      overlapFailure_eq_none_iff, rulesFailure_eq_none_iff, and_assoc]
    exact (and_iff_right empty).symm

end

/-- Settles O18: what each check passes, and the first that fails in the order of Table 2-4 (R42, R43). -/
theorem validationPassesExactly : Obligations.ValidationPassesExactly := by
  refine ⟨fun g b => ?_, fun g b => ⟨validationOf_noRule, fun i some_rule lower reversed => ?_,
    fun i j some_rule ordered lt shared earlier => ?_, fun before later x ordered apart split sound => ?_⟩⟩
  · rw [validationOf_eq_none_iff]
    have rule (i : Nat) (x : GradeRule) : RuleSound g x (b.rules.drop (i + 1))
        ↔ x.moistureMin ≤ x.moistureMax
          ∧ (∀ c, x.spill = some c → ∃ j y, i < j ∧ b.rules[j]? = some y ∧ y.code = c)
          ∧ ∀ n ∈ x.bins, (g.positionOf n).isSome = true := by
      simp only [← spillLater_drop_iff, Option.isSome_iff_ne_none]
      exact ⟨fun h => ⟨h.moisture, h.spill, h.placed⟩, fun ⟨m, s, p⟩ => ⟨m, s, p⟩⟩
    have apart : (∀ i j, i < j → ClassesApart b.classes i j)
        ↔ ∀ (i j : Fin 4) (x y : ClassRange), i < j → b.classes[i] = some x → b.classes[j] = some y →
          x.hi < y.lo ∨ y.hi < x.lo :=
      ⟨fun h i j x y lt => h i j lt x y, fun h i j lt x y => h i j x y lt⟩
    simp only [rule, apart]
    rfl
  · rw [validationOf_rules some_rule, rangeFailure_eq_some reversed lower]
    rfl
  · rw [validationOf_rules some_rule, rangeFailure_eq_none_iff.mpr ordered, overlapFailure_eq_some lt shared earlier]
    rfl
  · have named {failure : ValidationFailure} := validationOf_rule (failure := failure) ordered apart split
      fun front y mid is => ⟨(sound front y mid is).1, (sound front y mid is).2.1, (sound front y mid is).2.2⟩
    exact ⟨fun m => named (rulesFailure_moisture _ m), fun m spill => named (rulesFailure_spill _ m spill),
      fun front rest n m spill bins placed unset =>
        named (rulesFailure_bin _ m spill bins placed (not_not.mp unset))⟩

end Sys2Proof.Machine
end

section
/-! SUPPORT. The drains that ACTIVATE starts (R47): what a drain's completion makes of each bin, what the end of the
event makes of a FULL_WAIT bin (R121, R135); then the statement about ACTIVATE. -/

namespace Sys2Proof.Machine

/-! ### The completion of drains, bin by bin (R121, R124) -/

section
variable {b c : BinNo} {s : State} {why : CloseReason} {l : Lift}

theorem completeDrain_bin_ne (h : c ≠ b) (s : State) : (completeDrain b s).bin c = s.bin c := by
  rcases completeDrain_cases b s with ⟨e, -⟩ | ⟨why, l, -, -, -, e⟩ | ⟨why, l, -, -, -, e⟩ <;> rw [e]
  · exact vset_get_ne _ _ _ _ h
  · exact vset_get_ne _ _ _ _ h

theorem completeDrain_idle (h : ∀ why l, (s.bin b).state ≠ .drainClose why l) : completeDrain b s = s := by
  rcases completeDrain_cases b s with ⟨e, -⟩ | ⟨why, l, drains, -⟩ | ⟨why, l, drains, -⟩
  · exact e
  · exact absurd drains (h why l)
  · exact absurd drains (h why l)

section
variable (drains : (s.bin b).state = .drainClose why l)
include drains

theorem completeDrain_inFlight (flies : l.inFlight ≠ 0) : completeDrain b s = s := by
  simp only [completeDrain, drains, if_neg flies]

variable (still : l.inFlight = 0)
include still

theorem completeDrain_empty_bin (empty : l.landed = 0) : ((completeDrain b s).bin b).state = .ready := by
  have discards : completeDrain b s = discardLift b (.close why) l .ready s := by
    simp only [completeDrain, drains, if_pos still, if_pos empty]
  rw [discards]
  exact congrArg Bin.state (vset_get_self _ _ _)

theorem completeDrain_landed_bin (some_landed : l.landed ≠ 0) :
    ((completeDrain b s).bin b).state = .fullWait (l.closeAs why (s.store.closeCounter + 1)) := by
  have closes : completeDrain b s = closeLift b why l s := by
    simp only [completeDrain, drains, if_pos still, if_neg some_landed]
  rw [closes]
  exact congrArg Bin.state (vset_get_self _ _ _)

end

theorem foldl_completeDrain_bin {bins : List BinNo} (h : b ∉ bins) (s : State) :
    (bins.foldl (fun s c => completeDrain c s) s).bin b = s.bin b := by
  induction bins generalizing s with
  | nil => rfl
  | cons c bins ih =>
    rw [List.mem_cons, not_or] at h
    rw [List.foldl_cons, ih h.2, completeDrain_bin_ne h.1]

theorem allBins_split (b : BinNo) : ∃ before after, allBins = before ++ b :: after ∧ b ∉ before ∧ b ∉ after := by
  refine ⟨allBins.take b, allBins.drop (b + 1), ?_⟩
  revert b
  decide

/-- When every drain due is completed, each bin is as the completion of its own drain leaves it. -/
theorem completeDrains_bin (b : BinNo) (s : State) :
    ∃ t : State, t.bin b = s.bin b ∧ (completeDrains s).bin b = (completeDrain b t).bin b := by
  obtain ⟨before, after, split, not_before, not_after⟩ := allBins_split b
  refine ⟨before.foldl (fun s c => completeDrain c s) s, foldl_completeDrain_bin not_before s, ?_⟩
  rw [completeDrains, split, List.foldl_append, List.foldl_cons, foldl_completeDrain_bin not_after]

@[simp] theorem completeDrain_mode (b : BinNo) (s : State) : (completeDrain b s).mode = s.mode := by
  rcases completeDrain_cases b s with ⟨e, -⟩ | ⟨why, l, -, -, -, e⟩ | ⟨why, l, -, -, -, e⟩ <;> rw [e] <;> rfl

@[simp] theorem completeDrains_mode (s : State) : (completeDrains s).mode = s.mode :=
  foldl_rel (fun s t => t.mode = s.mode) (fun _ => rfl) (fun _ _ _ h k => k.trans h) _
    (fun s b => completeDrain_mode b s) _ s

/-! ### The end of the event (R135) -/

@[simp] theorem ejectionTest_mode (s : State) : (ejectionTest s).mode = s.mode := by
  rcases ejectionTest_cases s with e | ⟨b, rest, n, l, -, -, -, -, e⟩ <;> rw [e]
  rfl

@[simp] theorem closeEvent_mode (s : State) : (closeEvent s).mode = s.mode := by simp [closeEvent]

/-- A FULL_WAIT bin keeps waiting at the end of an event, or its ejection starts. -/
theorem closeEvent_bin_fullWait (waits : (s.bin b).state = .fullWait l) :
    ((closeEvent s).bin b).state = .fullWait l
    ∨ ∃ n, ((closeEvent s).bin b).state = .ejecting { l with state := .ejecting, slot := some n } := by
  have waits' : ((syncGates s).bin b).state = .fullWait l := by rw [syncGates_bin_state, waits]
  unfold closeEvent
  rcases ejectionTest_cases (syncGates s) with e | ⟨c, rest, n, m, -, -, -, head, e⟩ <;> rw [e]
  · exact .inl waits'
  · rw [startEjection_bin]
    by_cases same : b = c
    · subst same
      rw [waits'] at head
      cases head
      exact .inr ⟨n, by rw [if_pos rfl]⟩
    · exact .inl (by rw [if_neg same, waits'])

theorem drainBins_bin_filling (why : CloseReason) (p : BinNo → Lift → Bool)
    (fills : (s.bin b).state = .filling l) :
    ((drainBins why p s).bin b).state = if p b l then .drainClose why l else .filling l := by
  have fills' : s.bins[b].state = .filling l := fills
  simp only [State.bin, drainBins, vmap_get, fills']

/-- The bins that ACTIVATE drains are the FILLING ones whose lift names another bank (R47). -/
theorem mem_drainedBins_iff (k : BankNo) (s : State) (b : BinNo) :
    b ∈ drainedBins k s ↔ ∃ l, (s.bin b).state = .filling l ∧ l.key.bank ≠ k := by
  simp only [drainedBins, List.mem_filter, mem_allBins, true_and]
  cases (s.bin b).state <;> simp [otherBank]

end

/-! ### ACTIVATE (R45 to R47) -/

/-- The drains of ACTIVATE on the state after the switch, completed as far as they are due. -/
def recipeDrained (k : BankNo) (s : State) : State :=
  completeDrains (drainBins .recipe (fun _ l => otherBank k l) s)

theorem recipeDrained_bin (k : BankNo) (s : State) (b : BinNo) :
    ∃ t : State, t.bin b = (drainBins .recipe (fun _ l => otherBank k l) s).bin b
      ∧ (recipeDrained k s).bin b = (completeDrain b t).bin b := by
  unfold recipeDrained
  exact completeDrains_bin b _

section
variable {k : BankNo} {s : State} {b : BinNo} {l : Lift} (fills : (s.bin b).state = .filling l)
include fills

theorem recipeDrained_own (own : l.key.bank = k) : ((recipeDrained k s).bin b).state = .filling l := by
  obtain ⟨t, same, e⟩ := recipeDrained_bin k s b
  have kept : (t.bin b).state = .filling l := by
    rw [same, drainBins_bin_filling _ _ fills, if_neg (by simp [otherBank, own])]
  rw [e, completeDrain_idle (by simp [kept]), kept]

variable (other : l.key.bank ≠ k)
include other

/-- A FILLING bin of another bank is as the completion of its drain RECIPE leaves it. -/
theorem recipeDrained_other :
    ∃ t : State, (t.bin b).state = .drainClose .recipe l ∧ (recipeDrained k s).bin b = (completeDrain b t).bin b := by
  obtain ⟨t, same, e⟩ := recipeDrained_bin k s b
  have drains : (t.bin b).state = .drainClose .recipe l := by
    rw [same, drainBins_bin_filling _ _ fills, if_pos (by simp [otherBank, other])]
  exact ⟨t, drains, e⟩

theorem recipeDrained_inFlight (flies : l.inFlight ≠ 0) :
    ((recipeDrained k s).bin b).state = .drainClose .recipe l := by
  obtain ⟨t, drains, e⟩ := recipeDrained_other fills other
  rw [e, completeDrain_inFlight drains flies, drains]

theorem recipeDrained_empty (still : l.inFlight = 0) (empty : l.landed = 0) :
    ((recipeDrained k s).bin b).state = .ready := by
  obtain ⟨t, drains, e⟩ := recipeDrained_other fills other
  rw [e, completeDrain_empty_bin drains still empty]

theorem recipeDrained_landed (still : l.inFlight = 0) (some_landed : l.landed ≠ 0) :
    ∃ order, ((recipeDrained k s).bin b).state = .fullWait (l.closeAs .recipe order) := by
  obtain ⟨t, drains, e⟩ := recipeDrained_other fills other
  exact ⟨_, by rw [e, completeDrain_landed_bin drains still some_landed]⟩

end

section
variable (k : BankNo) (s : State)

theorem recipeDrained_beltFrame : BeltFrame s (recipeDrained k s) :=
  (drainBins_beltFrame .recipe (fun _ l => otherBank k l) s).trans (completeDrains_beltFrame _)

theorem recipeDrained_tracker : (recipeDrained k s).tracker = s.tracker := by simp [recipeDrained]

theorem recipeDrained_mode : (recipeDrained k s).mode = s.mode := by simp [recipeDrained]

end

/-- The state that the taking of an ACTIVATE and its switch leave: the buffer freed and the banks switched. -/
def switched (p : Port) (k : BankNo) (s : State) : State :=
  { freeBuffer p s with banks := s.banks.switch k }

/-- The state that a switching ACTIVATE leaves. -/
def activated (r : Req) (k : BankNo) (s : State) : State :=
  closeEvent
    (done r .activate (.activated k s.banks.active (drainedBins k s)) (recipeDrained k (switched r.port k s)))

/-- An ACTIVATE of a bank that passes: the switch, the drains, the reply and the end of the event. -/
theorem exec_activate_switches {r : Req} {k : BankNo} {s : State} (h : Admitted (.activate r k.val) s)
    (other : s.banks.active ≠ some k) (passes : validationOf s.geometry s.banks.bank[k] = none) :
    exec (.activate r k.val) s = .next (activated r k s) := by
  show Host.Outcome.next (serve r .activate _ _ _ s) = _
  rw [serve_admitted (h.canServe rfl)]
  simp only [asFour_val, freeBuffer_banks, freeBuffer_geometry, other, passes, switchBank_eq, ↓reduceIte]
  rfl

/-- What ACTIVATE does outside the bins: the reply, the switch, and nothing else. -/
theorem activated_frame (r : Req) (k : BankNo) (s : State) :
    (activated r k s).ports
        = answeredPorts r.port (doneItem r .activate (.activated k s.banks.active (drainedBins k s))) s
    ∧ (activated r k s).banks = s.banks.switch k ∧ (activated r k s).tracker = s.tracker
    ∧ (activated r k s).geometry = s.geometry ∧ (activated r k s).arbiter = s.arbiter
    ∧ (activated r k s).mode = s.mode ∧ (activated r k s).refusal = s.refusal
    ∧ (activated r k s).pending = s.pending := by
  have frame := recipeDrained_beltFrame k (switched r.port k s)
  have tracker := recipeDrained_tracker k (switched r.port k s)
  have mode := recipeDrained_mode k (switched r.port k s)
  unfold activated
  generalize recipeDrained k (switched r.port k s) = u at *
  have ends := closeEvent_beltFrame (done r .activate (.activated k s.banks.active (drainedBins k s)) u)
  refine ⟨ends.ports.trans (done_ports_of r .activate _ s u frame.ports), ends.banks.trans frame.banks, ?_,
    ends.geometry.trans frame.geometry, ends.arbiter.trans frame.arbiter, ?_, ends.refusal.trans frame.refusal,
    ends.pending.trans frame.pending⟩
  · rw [closeEvent_tracker, done_tracker, tracker]; rfl
  · rw [closeEvent_mode, done_mode, mode]; rfl

section
variable (r : Req) {k : BankNo} {s : State} {b : BinNo}

/-- A bin that the drains do not leave FULL_WAIT is as they leave it. -/
theorem activated_bin_state {x : BinState} (drained : ((recipeDrained k (switched r.port k s)).bin b).state = x)
    (settled : ∀ l, x ≠ .fullWait l) : ((activated r k s).bin b).state = x := by
  unfold activated
  generalize recipeDrained k (switched r.port k s) = u at *
  have same (y : Result) : ((done r .activate y u).bin b).state = x := drained
  rw [closeEvent_bin_state (by rwa [same]), same]

theorem activated_landed {l : Lift} (fills : (s.bin b).state = .filling l) (other : l.key.bank ≠ k)
    (still : l.inFlight = 0) (some_landed : l.landed ≠ 0) :
    ∃ m : Lift, (((activated r k s).bin b).state = .fullWait m ∨ ((activated r k s).bin b).state = .ejecting m)
      ∧ m.id = l.id ∧ m.landed = l.landed ∧ m.closeReason = some .recipe := by
  obtain ⟨order, waits⟩ := recipeDrained_landed (s := switched r.port k s) fills other still some_landed
  unfold activated
  generalize recipeDrained k (switched r.port k s) = u at *
  have waits' (y : Result) : ((done r .activate y u).bin b).state = .fullWait (l.closeAs .recipe order) := waits
  rcases closeEvent_bin_fullWait (waits' (.activated k s.banks.active (drainedBins k s))) with e | ⟨n, e⟩
  · exact ⟨_, .inl e, rfl, rfl, rfl⟩
  · exact ⟨_, .inr e, rfl, rfl, rfl⟩

end

/-- Settles O19: the switch of R46 and, bin by bin, the drains of R47 to the end of the event. -/
theorem activateSwitchesBanks : Obligations.ActivateSwitchesBanks := by
  intro r k s h other passes
  obtain ⟨ports, banks, tracker, geometry, arbiter, mode, refusal, pending⟩ := activated_frame r k s
  refine ⟨activated r k s, exec_activate_switches h other passes, ports, ?_, ?_, ?_, fun j apart active => ?_,
    fun j apart inactive => ?_,
    fun b l fills own => activated_bin_state r (recipeDrained_own (s := switched r.port k s) fills own) (by simp),
    fun b l fills other flies =>
      activated_bin_state r (recipeDrained_inFlight (s := switched r.port k s) fills other flies) (by simp),
    fun b l fills other still empty =>
      activated_bin_state r (recipeDrained_empty (s := switched r.port k s) fills other still empty) (by simp),
    fun b l => activated_landed r, mem_drainedBins_iff k s,
    tracker, geometry, arbiter, mode, refusal, pending⟩ <;> rw [banks]
  · exact Banks.switch_active k s.banks
  · exact Banks.switch_edit k s.banks
  · exact Banks.switch_bank_self other
  · exact Banks.switch_bank_retired apart active
  · exact Banks.switch_bank_other apart inactive

end Sys2Proof.Machine
end

section
/-! SUPPORT. The sheets in flight (R118) and the moves of the bins that leave them alone: what the ends of an event, the
closes and the ejections do to the bins, the events and the tallies, within their limits. -/

namespace Sys2Proof.Machine

/-! ### Sheets in flight (R118) -/

/-- The in-flight count of the lift that a bin state holds, 0 when it holds none. -/
def BinState.flying (x : BinState) : Nat :=
  match x.lift? with
  | some l => l.inFlight
  | none => 0

/-- A bin that takes no sheets has none in flight. -/
def BinState.Grounded (x : BinState) : Prop := x.takesSheets = false → x.flying = 0

/-- A change of a bin's state that leaves its sheets in flight alone. -/
def BinState.Settles (x y : BinState) : Prop := x.Grounded → y.flying = x.flying ∧ y.Grounded

namespace BinState.Settles

theorem refl (x : BinState) : x.Settles x := fun g => ⟨rfl, g⟩

theorem trans {x y z : BinState} (h : x.Settles y) (k : y.Settles z) : x.Settles z := fun g =>
  ⟨((k (h g).2).1).trans (h g).1, (k (h g).2).2⟩

/-- A bin with nothing in flight goes to a state with nothing in flight. -/
theorem of_empty {x y : BinState} (none_left : x.takesSheets = false ∨ x.flying = 0)
    (still : x.flying = 0 → y.flying = 0) : x.Settles y := fun g => by
  have zero : x.flying = 0 := none_left.elim g id
  exact ⟨(still zero).trans zero.symm, fun _ => still zero⟩

theorem of_takes {x y : BinState} (same : y.flying = x.flying) (takes : y.takesSheets = true) : x.Settles y := fun _ =>
  ⟨same, fun takes_none => absurd (takes.symm.trans takes_none) (by decide)⟩

end BinState.Settles

/-- An entry is ROUTED to a bin or LANDING for it. -/
def Entry.aboard (b : BinNo) (e : Entry) : Bool := e.routedTo b || e.landingAt b

/-- `InFlightCounted` with one bin, a lost one, left out of its second part. -/
structure FlightsCounted (lost : Option BinNo) (s : State) : Prop where
  counted : ∀ b : BinNo, s.tracker.queue.countP (Entry.aboard b) = (s.bin b).state.flying
  grounded : ∀ b : BinNo, lost ≠ some b → (s.bin b).state.Grounded
  judged : ∀ b : BinNo, ∀ e ∈ s.tracker.queue, e.routedTo b = true → e.verdict ≠ none

theorem inFlightCounted_iff (s : State) : InFlightCounted s ↔ FlightsCounted none s := by
  have aboard (b : BinNo) : (s.tracker.queue.filter (fun e => e.routedTo b || e.landingAt b)).length
      = s.tracker.queue.countP (Entry.aboard b) := List.countP_eq_length_filter.symm
  refine ⟨fun ⟨counted, onlyOpen, judged⟩ => ⟨fun b => (aboard b).symm.trans (counted b), fun b _ takes => ?_, judged⟩,
    fun ⟨counted, grounded, judged⟩ => ⟨fun b => (aboard b).trans (counted b), fun b l holds takes => ?_, judged⟩⟩
  · unfold BinState.flying
    split
    · next l holds => exact onlyOpen b l holds takes
    · rfl
  · have zero := grounded b nofun takes
    unfold BinState.flying at zero
    rwa [holds] at zero

/-! ### The tallies (R172) -/

theorem TallyLimits.congr {s t : State} (h : TallyLimits s) (same : t.tallies = s.tallies) : TallyLimits t := by
  obtain ⟨h1, h2, h3, h4, h5, h6, h7, h8, h9⟩ := h
  rw [← same] at h1 h2 h3 h4 h5 h6 h7 h8 h9
  exact ⟨h1, h2, h3, h4, h5, h6, h7, h8, h9⟩

theorem tallyAdd_le (n x : Nat) : tallyAdd n x ≤ Config.tallyMax := Nat.min_le_left _ _

/-- A change of the tallies that keeps them 32-bit counts. -/
def TallyStep (f : Tallies → Tallies) : Prop := ∀ s : State, TallyLimits s → TallyLimits (tally f s)

theorem vset_le {n m : Nat} {v : Vector Nat n} {i : Fin n} {x : Nat} (h : ∀ j : Fin n, v[j] ≤ m) (hx : x ≤ m)
    (j : Fin n) : (vset v i x)[j] ≤ m := by
  rw [vset_get]
  split
  · exact hx
  · exact h j

theorem countReject_tallyStep (why : RejectReason) (n : Nat) : TallyStep (fun t => t.countReject why n) := fun _ h =>
  { h with rejects := vset_le h.rejects (tallyAdd_le _ _) }

theorem countClosed_tallyStep (why : CloseReason) : TallyStep (fun t => t.countClosed why) := fun _ h =>
  { h with closed := vset_le h.closed (tallyAdd_le _ _) }

theorem countLanding_tallyStep (code : Nat) : TallyStep (fun t => t.countLanding code) := by
  intro s h
  obtain ⟨landed, landedTotal, redry, rejects, missed, stray, closed, taken, unclaimed⟩ := h
  constructor <;> simp only [tally_tallies, Tallies.countLanding]
  case landed =>
    intro i
    rw [vmap_get]
    split
    · exact tallyAdd_le _ _
    · exact landed i
  case landedTotal => exact tallyAdd_le _ _
  all_goals assumption

theorem countVerdict_tallyStep (v : Option Verdict) : TallyStep (countVerdict v) := by
  unfold countVerdict
  split
  · exact countReject_tallyStep _ _
  · exact fun _ h => h

theorem countRedry_tallyStep : TallyStep (fun t => { t with redry := tallyAdd 1 t.redry }) := fun _ h =>
  { h with redry := tallyAdd_le _ _ }

theorem countMissed_tallyStep : TallyStep (fun t => { t with missed := tallyAdd 1 t.missed }) := fun _ h =>
  { h with missed := tallyAdd_le _ _ }

theorem countStray_tallyStep : TallyStep (fun t => { t with stray := tallyAdd 1 t.stray }) := fun _ h =>
  { h with stray := tallyAdd_le _ _ }

theorem countTaken_tallyStep : TallyStep (fun t => { t with taken := tallyAdd 1 t.taken }) := fun _ h =>
  { h with taken := tallyAdd_le _ _ }

theorem countUnclaimed_tallyStep : TallyStep (fun t => { t with unclaimed := tallyAdd 1 t.unclaimed }) := fun _ h =>
  { h with unclaimed := tallyAdd_le _ _ }

/-! ### What leaves the sheets alone -/

/-- An act that leaves the tracker as it is and each bin's sheets in flight alone, within the limits of the suspicion
counts, the event list and the tallies. -/
structure Quiet (s t : State) : Prop where
  tracker : t.tracker = s.tracker
  bins : ∀ b : BinNo, (s.bin b).state.Settles (t.bin b).state
  suspicion : ∀ b : BinNo, (s.bin b).suspicion ≤ 3 → (t.bin b).suspicion ≤ 3
  events : s.events.list.length ≤ Config.maxEvents → t.events.list.length ≤ Config.maxEvents
  tallies : TallyLimits s → TallyLimits t

namespace Quiet

theorem of_same {s t : State} (tracker : t.tracker = s.tracker) (bins : t.bins = s.bins) (events : t.events = s.events)
    (tallies : t.tallies = s.tallies) : Quiet s t := by
  have bin (b : BinNo) : t.bin b = s.bin b := congrArg (fun v : Vector Bin 16 => v[b]) bins
  exact ⟨tracker, fun b => bin b ▸ .refl _, fun b h => bin b ▸ h, fun h => events ▸ h, fun h => h.congr tallies⟩

theorem refl (s : State) : Quiet s s := of_same rfl rfl rfl rfl

theorem trans {s t u : State} (h : Quiet s t) (k : Quiet t u) : Quiet s u where
  tracker := k.tracker.trans h.tracker
  bins b := (h.bins b).trans (k.bins b)
  suspicion b x := k.suspicion b (h.suspicion b x)
  events x := k.events (h.events x)
  tallies x := k.tallies (h.tallies x)

theorem foldl {α : Type} (f : State → α → State) (h : ∀ s a, Quiet s (f s a)) (l : List α) (s : State) :
    Quiet s (l.foldl f s) :=
  foldl_rel Quiet refl (fun _ _ _ => trans) f h l s

/-- A change of every bin that is quiet for each. -/
theorem of_bins {s t : State} (tracker : t.tracker = s.tracker) (events : t.events = s.events)
    (tallies : t.tallies = s.tallies)
    (bins : ∀ b, (s.bin b).state.Settles (t.bin b).state ∧ ((s.bin b).suspicion ≤ 3 → (t.bin b).suspicion ≤ 3)) :
    Quiet s t :=
  ⟨tracker, fun b => (bins b).1, fun b => (bins b).2, fun h => events ▸ h, fun h => h.congr tallies⟩

end Quiet

theorem tally_quiet {f : Tallies → Tallies} (h : TallyStep f) (s : State) : Quiet s (tally f s) where
  tracker := rfl
  bins _ := .refl _
  suspicion _ := id
  events := id
  tallies := h s

theorem raise_quiet (e : Event) (s : State) : Quiet s (raise e s) where
  tracker := rfl
  bins _ := .refl _
  suspicion _ := id
  events := append_length s.events e
  tallies h := h.congr rfl

/-- One bin's record changed in a quiet way. -/
theorem setBin_quiet {b : BinNo} {f : Bin → Bin} {s : State} (state : (s.bin b).state.Settles (f (s.bin b)).state)
    (suspicion : (s.bin b).suspicion ≤ 3 → (f (s.bin b)).suspicion ≤ 3) : Quiet s (setBin b f s) := by
  refine .of_bins rfl rfl rfl fun c => ?_
  rw [setBin_bin]
  split
  · next e => subst e; exact ⟨state, suspicion⟩
  · exact ⟨.refl _, id⟩

/-- A bin's state replaced, and no more of its record. -/
theorem setBinState_quiet {b : BinNo} {y : BinState} {s : State} (h : (s.bin b).state.Settles y) :
    Quiet s (setBin b (fun x => { x with state := y }) s) :=
  setBin_quiet h id

theorem syncGates_quiet (s : State) : Quiet s (syncGates s) := by
  refine .of_bins rfl rfl rfl fun b => ?_
  simp only [State.bin, syncGates_bins, vmap_get]
  exact ⟨.refl _, id⟩

theorem drainBins_quiet (why : CloseReason) (p : BinNo → Lift → Bool) (s : State) : Quiet s (drainBins why p s) := by
  refine .of_bins rfl rfl rfl fun b => ?_
  simp only [State.bin, drainBins, vmap_get]
  refine ⟨?_, id⟩
  cases s.bins[b].state with
  | filling l =>
    dsimp only
    split
    · exact .of_takes rfl rfl
    · exact .refl _
  | _ => exact .refl _

theorem joinEjection_quiet (b : BinNo) (s : State) : Quiet s (joinEjection b s) := .of_same rfl rfl rfl rfl

theorem waitForOutfeed_quiet {b : BinNo} {l : Lift} {s : State} (h : (s.bin b).state.Settles (.fullWait l)) :
    Quiet s (waitForOutfeed b l s) :=
  (setBinState_quiet h).trans (joinEjection_quiet b _)

theorem closeLift_quiet {b : BinNo} {why : CloseReason} {l : Lift} {s : State}
    (h : ∀ order, (s.bin b).state.Settles (.fullWait (l.closeAs why order))) : Quiet s (closeLift b why l s) := by
  unfold closeLift
  refine Quiet.trans ?_ (waitForOutfeed_quiet (h _))
  refine Quiet.trans ?_ (raise_quiet _ _)
  refine Quiet.trans ?_ (tally_quiet (countClosed_tallyStep why) _)
  exact .of_same rfl rfl rfl rfl

theorem discardLift_quiet {b : BinNo} (why : DiscardReason) (l : Lift) {y : BinState} {s : State}
    (h : (s.bin b).state.Settles y) : Quiet s (discardLift b why l y s) :=
  (setBinState_quiet h).trans (raise_quiet _ _)

theorem completeDrain_quiet (b : BinNo) (s : State) : Quiet s (completeDrain b s) := by
  rcases completeDrain_cases b s with ⟨e, -⟩ | ⟨why, l, drains, still, -, e⟩ | ⟨why, l, drains, still, -, e⟩ <;> rw [e]
  · exact .refl s
  · exact discardLift_quiet _ _ (drains ▸ .of_empty (.inr still) fun _ => rfl)
  · exact closeLift_quiet fun _ => drains ▸ .of_empty (.inr still) fun _ => still

theorem completeDrains_quiet (s : State) : Quiet s (completeDrains s) :=
  .foldl _ (fun s b => completeDrain_quiet b s) _ s

theorem setSlot_quiet (n : SlotNo) (f : Slot → Slot) (s : State) : Quiet s (setSlot n f s) := .of_same rfl rfl rfl rfl

theorem startEjection_quiet {b : BinNo} {l : Lift} (n : SlotNo) {s : State} (waits : (s.bin b).state = .fullWait l) :
    Quiet s (startEjection b l n s) := by
  refine .of_bins rfl rfl rfl fun c => ?_
  rw [startEjection_bin]
  split
  · next e =>
    subst e
    exact ⟨waits ▸ .of_empty (.inl rfl) id, id⟩
  · exact ⟨.refl _, id⟩

theorem ejectionTest_quiet (s : State) : Quiet s (ejectionTest s) := by
  rcases ejectionTest_cases s with e | ⟨b, rest, n, l, -, -, -, waits, e⟩ <;> rw [e]
  · exact .refl s
  · exact startEjection_quiet n waits

theorem closeEvent_quiet (s : State) : Quiet s (closeEvent s) := (syncGates_quiet s).trans (ejectionTest_quiet _)

theorem setMode_quiet (m : SortMode) (s : State) : Quiet s (setMode m s) := by
  unfold setMode
  split
  · exact .refl s
  · exact Quiet.trans (t := { s with mode := m }) (.of_same rfl rfl rfl rfl) (raise_quiet _ _)

theorem endDrainIfDue_quiet (s : State) : Quiet s (endDrainIfDue s) := by
  rcases endDrainIfDue_cases s with ⟨-, -, e⟩ | ⟨-, e⟩ <;> rw [e]
  · exact ((drainBins_quiet _ _ s).trans (completeDrains_quiet _)).trans (setMode_quiet _ _)
  · exact .refl s

/-- The completed ejection: the EJECTING bin gives its lift to the slot (R137). -/
theorem storeLift_quiet {b : BinNo} {l : Lift} (n : SlotNo) {s : State} (ejects : (s.bin b).state = .ejecting l) :
    Quiet s (storeLift b n l s) := by
  refine Quiet.trans ?_ (setSlot_quiet _ _ _)
  refine Quiet.trans (t := { s with outfeed := { s.outfeed with state := .free, timer := none } })
    (.of_same rfl rfl rfl rfl) (setBin_quiet ?_ id)
  exact ejects ▸ .of_empty (.inl rfl) fun _ => rfl

theorem bumpSuspicion_quiet (b : BinNo) (s : State) : Quiet s (bumpSuspicion b s) :=
  setBin_quiet (.refl _) fun _ => Nat.min_le_left _ _

/-- A READY bin's lift opens with nothing in flight (R117). -/
theorem openLift_quiet (b : BinNo) (key : Key) (target : Nat) (s : State) : Quiet s (openLift b key target s) := by
  by_cases ready : (s.bin b).state = .ready
  · have test : isReady s b = true := by simp [isReady, ready]
    rw [openLift, if_pos test]
    refine Quiet.trans (t := { s with store := { s.store with nextId := nextNumberAfter (freshLiftId s) } })
      (.of_same rfl rfl rfl rfl) (setBinState_quiet ?_)
    exact ready ▸ .of_takes rfl rfl
  · rw [openLift_not_ready key target ready]
    exact .refl s

theorem loseEjection_quiet (b : BinNo) (why : BinFault) (s : State) : Quiet s (loseEjection b why s) :=
  .of_same rfl rfl rfl rfl

end Sys2Proof.Machine
end

section
/-! SUPPORT. What every operation of the belt keeps: the order of the entries, the limits of the mismatch and suspicion
counts, the event list and the tallies, and that no entry waits while sync is OUT_OF_STEP (R57, R68, R69, R95, R172,
R181). -/

namespace Sys2Proof.Machine

/-- An act of the belt or the bins that enters no sheet and keeps the limits. -/
structure Bounded (s t : State) : Prop where
  leave : EntriesLeave s t
  mismatches : s.tracker.mismatches ≤ 3 → t.tracker.mismatches ≤ 3
  suspicion : (∀ b : BinNo, (s.bin b).suspicion ≤ 3) → ∀ b : BinNo, (t.bin b).suspicion ≤ 3
  events : s.events.list.length ≤ Config.maxEvents → t.events.list.length ≤ Config.maxEvents
  tallies : TallyLimits s → TallyLimits t
  swept : EntriesDistinct s → SyncSwept s → SyncSwept t

theorem SyncSwept.congr {s t : State} (h : SyncSwept s) (same : t.tracker = s.tracker) : SyncSwept t := by
  unfold SyncSwept State.sync at *
  rwa [same]

theorem Quiet.bounded {s t : State} (h : Quiet s t) : Bounded s t where
  leave := .of_tracker h.tracker
  mismatches x := h.tracker ▸ x
  suspicion x b := h.suspicion b (x b)
  events := h.events
  tallies := h.tallies
  swept _ x := x.congr h.tracker

namespace Bounded

theorem refl (s : State) : Bounded s s := (Quiet.refl s).bounded

theorem trans {s t u : State} (h : Bounded s t) (k : Bounded t u) : Bounded s u where
  leave := h.leave.trans k.leave
  mismatches x := k.mismatches (h.mismatches x)
  suspicion x := k.suspicion (h.suspicion x)
  events x := k.events (h.events x)
  tallies x := k.tallies (h.tallies x)
  swept d x := k.swept (h.leave.distinct d) (h.swept d x)

theorem foldl {α : Type} (f : State → α → State) (h : ∀ s a, Bounded s (f s a)) (l : List α) (s : State) :
    Bounded s (l.foldl f s) :=
  foldl_rel Bounded refl (fun _ _ _ => trans) f h l s

/-- An act on the queue and the entry eye that makes no entry wait. -/
theorem of_queue {s t : State} (leave : EntriesLeave s t) (mismatches : t.tracker.mismatches = s.tracker.mismatches)
    (bins : t.bins = s.bins) (events : t.events = s.events) (tallies : t.tallies = s.tallies)
    (waits : ∀ e ∈ t.tracker.queue, e.state = .awaitReport → ∃ x ∈ s.tracker.queue, x.state = .awaitReport) :
    Bounded s t where
  leave := leave
  mismatches x := mismatches ▸ x
  suspicion x b := (congrArg (fun v : Vector Bin 16 => v[b].suspicion) bins).trans_le (x b)
  events x := events ▸ x
  tallies x := x.congr tallies
  swept _ x sync e mem wait := by
    have sync' : s.sync = .outOfStep := (congrArg syncOf mismatches).symm.trans sync
    obtain ⟨y, mem', wait'⟩ := waits e mem wait
    exact x sync' y mem' wait'

end Bounded

/-! ### Entries -/

theorem setEntry_bounded (n : EntryId) {f : Entry → Entry} (keeps : ∀ e, (f e).id = e.id)
    (waits : ∀ e, (f e).state = .awaitReport → e.state = .awaitReport) (s : State) : Bounded s (setEntry n f s) := by
  refine .of_queue (.setEntry n keeps s) rfl rfl rfl rfl fun e mem wait => ?_
  rcases mem_updFirst _ f e _ mem with kept | ⟨x, changed, -, rfl⟩
  · exact ⟨e, kept, wait⟩
  · exact ⟨x, changed, waits x wait⟩

theorem removeEntry_bounded (n : EntryId) (s : State) : Bounded s (removeEntry n s) :=
  .of_queue (.removeEntry n s) rfl rfl rfl rfl fun e mem wait => ⟨e, List.mem_of_mem_eraseP mem, wait⟩

theorem dropAtBeltEnd_bounded (n : EntryId) (s : State) : Bounded s (dropAtBeltEnd n s) := by
  rcases dropAtBeltEnd_cases n s with e | ⟨x, -, -, -, e⟩ <;> rw [e]
  · exact .refl s
  · exact (removeEntry_bounded n s).trans (tally_quiet (countVerdict_tallyStep _) _).bounded

theorem rejectEntry_bounded (n : EntryId) (why : RejectReason) (values : Option Computed) (s : State) :
    Bounded s (rejectEntry n why values s) :=
  (setEntry_bounded n (f := Entry.rejected why values) (fun _ => rfl) (fun _ => nofun) s).trans
    (dropAtBeltEnd_bounded n _)

theorem sweepEntry_bounded (s : State) (n : EntryId) : Bounded s (sweepEntry s n) := by
  rcases sweepEntry_cases s n with ⟨e, -, -, same⟩ | ⟨-, same⟩ <;> rw [same]
  · exact rejectEntry_bounded n _ _ s
  · exact .refl s

theorem sweepAwaiting_bounded (s : State) : Bounded s (sweepAwaiting s) := .foldl _ sweepEntry_bounded _ s

/-- After the sweep no entry waits for its report (R69). -/
theorem sweepAwaiting_none_waits {s : State} (distinct : EntriesDistinct s) :
    ∀ e ∈ (sweepAwaiting s).tracker.queue, e.state ≠ .awaitReport := by
  intro e mem
  rw [sweepAwaiting_queue distinct] at mem
  obtain ⟨x, -, swept⟩ := List.mem_filterMap.mp mem
  intro waits
  have again := sweptEntry_again swept
  unfold sweptEntry at again
  rw [if_pos waits] at again
  split at again
  · cases again
  · have : (e.rejected .outOfStep none).state = .awaitReport := (Option.some.inj again) ▸ waits
    cases this

theorem setMismatches_bounded {m : Nat} (le : m ≤ 3) (s : State) : Bounded s (setMismatches m s) := by
  have sweep := sweepAwaiting_bounded
    (raise (.syncChanged .outOfStep) (setTracker (fun t => { t with mismatches := m }) s))
  have raised (e : Event) : Quiet s (raise e s) := raise_quiet e s
  refine ⟨.setMismatches m s, fun _ => ?_, fun x => ?_, fun x => ?_, fun x => ?_, fun d x => ?_⟩ <;>
    rcases setMismatches_cases m s with ⟨sync, e⟩ | ⟨-, inStep, e⟩ | ⟨-, out, e⟩ <;> rw [e]
  · exact le
  · exact le
  · exact sweep.mismatches le
  · exact x
  · exact x
  · exact sweep.suspicion x
  · exact x
  · exact (raised _).events x
  · exact sweep.events ((raised _).events x)
  · exact x.congr rfl
  · exact x.congr rfl
  · exact sweep.tallies (x.congr rfl)
  · exact fun out => x (sync.symm.trans out)
  · exact fun out => absurd out inStep
  · exact fun _ => sweepAwaiting_none_waits d

theorem countMismatch_bounded (s : State) : Bounded s (countMismatch s) := setMismatches_bounded (Nat.min_le_left _ _) s

/-! ### Routes, and the loss of a bin -/

/-- A change of one bin's record that leaves its suspicion count within its limit. -/
theorem setBin_bounded {b : BinNo} {f : Bin → Bin} (suspicion : ∀ x : Bin, x.suspicion ≤ 3 → (f x).suspicion ≤ 3)
    (s : State) : Bounded s (setBin b f s) where
  leave := .of_tracker rfl
  mismatches := id
  suspicion x c := by
    rw [setBin_bin]
    split
    · exact suspicion _ (x b)
    · exact x c
  events := id
  tallies x := x.congr rfl
  swept _ x := x.congr rfl

theorem mapBinLift_bounded (b : BinNo) (f : Lift → Lift) (s : State) : Bounded s (mapBinLift b f s) :=
  setBin_bounded (by exact fun _ => id) s

theorem commitTo_bounded (n : EntryId) (b : BinNo) (key : Key) (target : Nat) (s : State) :
    Bounded s (commitTo n b key target s) := by
  unfold commitTo
  refine Bounded.trans ?_ (setEntry_bounded n (by exact fun _ => rfl) (by exact fun _ => nofun) _)
  exact (openLift_quiet b key target s).bounded.trans (setBin_bounded (by exact fun _ => id) _)

theorem applyRoute_bounded (n : EntryId) (plan : RoutePlan) (s : State) : Bounded s (applyRoute n plan s) := by
  cases plan with
  | bin b key target => exact commitTo_bounded n b key target s
  | redryGate p => exact setEntry_bounded n (by exact fun _ => rfl) (by exact fun _ => nofun) s
  | beltEnd why x => exact rejectEntry_bounded n why x s

theorem rerouteEntry_bounded (b : BinNo) (s : State) (n : EntryId) : Bounded s (rerouteEntry b s n) := by
  unfold rerouteEntry
  split
  · split
    · exact (mapBinLift_bounded _ _ _).trans (applyRoute_bounded _ _ _)
    · exact .refl s
  · exact .refl s

theorem turnAwayEntry_bounded (b : BinNo) (s : State) (n : EntryId) : Bounded s (turnAwayEntry b s n) := by
  unfold turnAwayEntry
  split
  · split
    · exact (mapBinLift_bounded _ _ _).trans (rejectEntry_bounded _ _ _ _)
    · exact .refl s
  · exact .refl s

theorem loseEntries_bounded (b : BinNo) (s : State) : Bounded s (loseEntries b s) :=
  (Bounded.foldl _ (rerouteEntry_bounded b) _ s).trans (.foldl _ (turnAwayEntry_bounded b) _ _)

/-- The state of a bin's fault (R105) before its entries are lost: the bin is FAULTED with its lift, out of the ejection
queue, and its ejection, where it had one, is given up. -/
def faultAnnounced (b : BinNo) (why : BinFault) (s : State) : State :=
  let faulted := setBin b (fun x => { x with state := .faulted why (s.bin b).state.faultLift, eject := false }) s
  let announced := raise (.binFaulted b why) faulted
  let unqueued :=
    { announced with
      outfeed := { announced.outfeed with queue := announced.outfeed.queue.filter (fun c => c != b) } }
  match (s.bin b).state with
  | .ejecting _ => loseEjection b why unqueued
  | _ => unqueued

/-- The fault of a bin: nothing when it is OFFLINE or FAULTED, and otherwise its fault and the loss of its entries. -/
theorem faultBin_cases (b : BinNo) (why : BinFault) (s : State) :
    faultBin b why s = s
    ∨ ((s.bin b).state ≠ .offline ∧ (∀ w l, (s.bin b).state ≠ .faulted w l)
      ∧ faultBin b why s = syncGates (loseEntries b (faultAnnounced b why s))) := by
  unfold faultBin faultAnnounced
  cases (s.bin b).state with
  | offline => exact .inl rfl
  | faulted w l => exact .inl rfl
  | _ => exact .inr ⟨nofun, nofun, rfl⟩

theorem faultAnnounced_bounded (b : BinNo) (why : BinFault) (s : State) : Bounded s (faultAnnounced b why s) := by
  have faulted := setBin_bounded (b := b)
    (f := fun x => { x with state := .faulted why (s.bin b).state.faultLift, eject := false }) (fun _ => id) s
  have announced := faulted.trans (raise_quiet (.binFaulted b why) _).bounded
  unfold faultAnnounced
  dsimp only
  split
  · refine announced.trans (Bounded.trans ?_ (loseEjection_quiet b why _).bounded)
    exact Quiet.bounded (.of_same rfl rfl rfl rfl)
  · exact announced.trans (Quiet.bounded (.of_same rfl rfl rfl rfl))

theorem faultBin_bounded (b : BinNo) (why : BinFault) (s : State) : Bounded s (faultBin b why s) := by
  rcases faultBin_cases b why s with e | ⟨-, -, e⟩ <;> rw [e]
  · exact .refl s
  · exact ((faultAnnounced_bounded b why s).trans (loseEntries_bounded b _)).trans (syncGates_quiet _).bounded

theorem anomalyTest_bounded (b : BinNo) (what : Anomaly) (s : State) : Bounded s (anomalyTest b what s) := by
  rcases anomalyTest_cases b what s with ⟨-, e⟩ | ⟨-, e⟩ | ⟨-, -, e⟩ <;> rw [e]
  · exact (raise_quiet _ s).bounded
  · exact faultBin_bounded _ _ s
  · exact .refl s

/-! ### Landings -/

theorem landEntry_bounded (b : BinNo) (e : Entry) (s : State) : Bounded s (landEntry b e s) := by
  unfold landEntry
  dsimp only
  refine Bounded.trans ?_ (completeDrain_quiet b _).bounded
  refine Bounded.trans ?_ (syncGates_quiet _).bounded
  have removed := (setBin_bounded (b := b)
    (f := fun x =>
      { x with
        state := x.state.mapLift (Lift.land ((e.verdict.bind Verdict.values).map fun v => v.meanM)), suspicion := 0 })
    (fun _ _ => Nat.zero_le 3) s).trans (removeEntry_bounded e.id _)
  split
  · exact removed.trans (tally_quiet (countLanding_tallyStep _) _).bounded
  · exact removed

theorem strayLanding_bounded (b : BinNo) (s : State) : Bounded s (strayLanding b s) :=
  ((bumpSuspicion_quiet b s).trans (tally_quiet countStray_tallyStep _)).bounded.trans (anomalyTest_bounded b .stray _)

/-- What a leading edge of a landed eye does (R97): nothing, the landing of the oldest LANDING entry on the lift of a bin
that takes sheets, or a stray landing. -/
theorem landedEdge_cases (b : BinNo) (s : State) :
    landedEdge b s = s
    ∨ (∃ e, oldestLanding b s = some e ∧ (s.bin b).state.takesSheets = true ∧ landedEdge b s = landEntry b e s)
    ∨ landedEdge b s = strayLanding b s := by
  unfold landedEdge
  split
  · exact .inl rfl
  · cases (s.bin b).state with
    | offline => exact .inl rfl
    | faulted => exact .inl rfl
    | filling =>
      cases oldestLanding b s with
      | some e => exact .inr (.inl ⟨e, rfl, rfl, rfl⟩)
      | none => exact .inr (.inr rfl)
    | drainClose =>
      cases oldestLanding b s with
      | some e => exact .inr (.inl ⟨e, rfl, rfl, rfl⟩)
      | none => exact .inr (.inr rfl)
    | _ => exact .inr (.inr rfl)

theorem landedEdge_bounded (b : BinNo) (s : State) : Bounded s (landedEdge b s) := by
  rcases landedEdge_cases b s with e | ⟨x, -, -, e⟩ | e <;> rw [e]
  · exact .refl s
  · exact landEntry_bounded b x s
  · exact strayLanding_bounded b s

/-- The state of a missed landing (R101) before the test of the suspicion count. -/
def missCounted (b : BinNo) (n : EntryId) (s : State) : State :=
  tally (fun t => { t with missed := tallyAdd 1 t.missed })
    (removeEntry n (bumpSuspicion b (mapBinLift b Lift.miss s)))

theorem missEntry_eq (b : BinNo) (n : EntryId) (s : State) :
    missEntry b n s = completeDrain b (anomalyTest b .missed (syncGates (missCounted b n s))) := rfl

theorem missCounted_bounded (b : BinNo) (n : EntryId) (s : State) : Bounded s (missCounted b n s) :=
  (((mapBinLift_bounded b Lift.miss s).trans (bumpSuspicion_quiet b _).bounded).trans
    (removeEntry_bounded n _)).trans (tally_quiet countMissed_tallyStep _).bounded

theorem missEntry_bounded (b : BinNo) (n : EntryId) (s : State) : Bounded s (missEntry b n s) := by
  rw [missEntry_eq]
  exact (((missCounted_bounded b n s).trans (syncGates_quiet _).bounded).trans (anomalyTest_bounded b .missed _)).trans
    (completeDrain_quiet b _).bounded

end Sys2Proof.Machine
end

section
/-! SUPPORT. The in-flight counts (R118) under every operation on the entries: what a rejection, a route, a landing and the
loss of a bin make of the number of entries that are on their way to each bin. -/

namespace Sys2Proof.Machine

/-! ### Counting the items of a list -/

section
variable {α : Type} {p q : α → Bool} {f : α → α} {l : List α} {e : α} (found : l.find? q = some e)
include found

theorem countP_updFirst : (updFirst q f l).countP p + (p e).toNat = l.countP p + (p (f e)).toNat := by
  induction l with
  | nil => cases found
  | cons x xs ih =>
    rw [List.find?_cons] at found
    unfold updFirst
    split at found
    · next hx =>
      cases found
      rw [if_pos hx, List.countP_cons, List.countP_cons]
      cases p e <;> cases p (f e) <;> simp
    · next hx =>
      have ih := ih found
      rw [if_neg (by simp [hx]), List.countP_cons, List.countP_cons]
      omega

theorem countP_eraseP : (l.eraseP q).countP p + (p e).toNat = l.countP p := by
  induction l with
  | nil => cases found
  | cons x xs ih =>
    rw [List.find?_cons] at found
    rw [List.eraseP_cons]
    split at found
    · next hx =>
      cases found
      rw [hx, cond_true, List.countP_cons]
      cases p e <;> simp
    · next hx =>
      have ih := ih found
      rw [hx, cond_false, List.countP_cons, List.countP_cons]
      omega

/-- The replacement in a list is of the item found. -/
theorem mem_updFirst_found {x : α} (h : x ∈ updFirst q f l) : x ∈ l ∨ x = f e := by
  induction l with
  | nil => cases found
  | cons y ys ih =>
    rw [List.find?_cons] at found
    unfold updFirst at h
    split at found
    · next hy =>
      cases found
      rw [if_pos hy] at h
      exact (List.mem_cons.mp h).symm.imp_left (List.mem_cons_of_mem _)
    · next hy =>
      rw [if_neg (by simp [hy])] at h
      rcases List.mem_cons.mp h with rfl | h
      · exact .inl List.mem_cons_self
      · exact (ih found h).imp_left (List.mem_cons_of_mem _)

end

theorem updFirst_of_none {α : Type} {q : α → Bool} (f : α → α) {l : List α} (missing : ∀ x ∈ l, q x ≠ true) :
    updFirst q f l = l := by
  induction l with
  | nil => rfl
  | cons x xs ih =>
    rw [List.forall_mem_cons] at missing
    rw [updFirst, if_neg missing.1, ih missing.2]


/-! ### Entries on their way to a bin -/

/-- An entry that is ROUTED has a verdict. -/
def Entry.Sound (e : Entry) : Prop := ∀ b : BinNo, e.routedTo b = true → e.verdict ≠ none

theorem Entry.not_aboard_of {e : Entry} (h : e.state = .awaitReport ∨ e.state = .toReject ∨ ∃ p q o, e.state = .toRedry p q o)
    (b : BinNo) : e.aboard b = false := by
  unfold aboard routedTo landingAt
  rcases h with h | h | ⟨p, q, o, h⟩ <;> rw [h] <;> rfl

theorem Entry.sound_of {e : Entry} (h : ∀ b p q, e.state ≠ .routed b p q) : e.Sound := by
  intro b routed
  unfold routedTo at routed
  split at routed
  · next c p q is => exact absurd is (h c p q)
  · cases routed

theorem Entry.aboard_of_routedTo {e : Entry} {b : BinNo} (h : e.routedTo b = true) (c : BinNo) :
    (e.aboard c).toNat = if c = b then 1 else 0 := by
  unfold aboard routedTo landingAt at *
  split at h
  · next t p q is =>
    rw [is]
    have : t = b := by simpa using h
    subst this
    by_cases same : c = t
    · simp [same]
    · simp [same, Ne.symm same]
  · cases h

theorem Entry.aboard_of_landingAt {e : Entry} {b : BinNo} (h : e.landingAt b = true) (c : BinNo) :
    (e.aboard c).toNat = if c = b then 1 else 0 := by
  unfold aboard routedTo landingAt at *
  split at h
  · next t p q x is =>
    rw [is]
    have : t = b := by simpa using h
    subst this
    by_cases same : c = t
    · simp [same]
    · simp [same, Ne.symm same]
  · cases h

namespace FlightsCounted

variable {lost : Option BinNo} {s t : State}

theorem congr (h : FlightsCounted lost s) (queue : t.tracker.queue = s.tracker.queue) (bins : t.bins = s.bins) :
    FlightsCounted lost t := by
  obtain ⟨counted, grounded, judged⟩ := h
  unfold State.bin at counted grounded
  rw [← queue] at judged
  rw [← bins] at grounded
  rw [← bins, ← queue] at counted
  exact ⟨counted, grounded, judged⟩

/-- The entries that leave a bin and those that join it are counted by its lift too. -/
theorem move {out into : BinNo → Nat} (h : FlightsCounted lost s)
    (queue : ∀ b, t.tracker.queue.countP (Entry.aboard b) + out b = s.tracker.queue.countP (Entry.aboard b) + into b)
    (bins : ∀ b : BinNo, (t.bin b).state.flying + out b = (s.bin b).state.flying + into b)
    (grounded : ∀ b : BinNo, (s.bin b).state.Grounded → (t.bin b).state.Grounded)
    (judged : ∀ e ∈ t.tracker.queue, e ∈ s.tracker.queue ∨ e.Sound) : FlightsCounted lost t where
  counted b := by
    have := h.counted b
    have := queue b
    have := bins b
    omega
  grounded b other := grounded b (h.grounded b other)
  judged b e mem := by
    rcases judged e mem with mem | sound
    · exact h.judged b e mem
    · exact sound b

/-- An entry on its way to a bin is counted there. -/
theorem flying_pos (h : FlightsCounted lost s) {b : BinNo} {e : Entry} (mem : e ∈ s.tracker.queue)
    (aboard : e.aboard b = true) : 0 < (s.bin b).state.flying :=
  h.counted b ▸ List.countP_pos_iff.mpr ⟨e, mem, aboard⟩

/-- A change of one entry that concerns no bin. -/
theorem setEntry (h : FlightsCounted lost s) (n : EntryId) {f : Entry → Entry}
    (aboard : ∀ e b, (f e).aboard b = e.aboard b) (sound : ∀ e : Entry, e.Sound → (f e).Sound) :
    FlightsCounted lost (setEntry n f s) := by
  cases found : findEntry n s with
  | none =>
    exact h.congr (updFirst_of_none f (List.find?_eq_none.mp found)) rfl
  | some e =>
    refine h.move (out := fun b => (e.aboard b).toNat) (into := fun b => (e.aboard b).toNat) (fun b => ?_)
      (fun _ => rfl) (fun _ => id) fun x mem => ?_
    · exact (countP_updFirst found).trans (by rw [aboard])
    · rcases mem_updFirst_found found mem with mem | rfl
      · exact .inl mem
      · exact .inr (sound e fun b => h.judged b e (findEntry_mem found))

/-- The removal of an entry that is on its way to no bin. -/
theorem removeEntry (h : FlightsCounted lost s) {n : EntryId} {e : Entry} (found : findEntry n s = some e)
    (away : ∀ b, e.aboard b = false) : FlightsCounted lost (removeEntry n s) := by
  refine h.move (out := fun _ => 0) (into := fun _ => 0) (fun b => ?_) (fun _ => rfl) (fun _ => id) fun x mem =>
    .inl (List.mem_of_mem_eraseP mem)
  have count := countP_eraseP (p := Entry.aboard b) found
  rw [away b] at count
  exact count

end FlightsCounted

theorem Quiet.flights {s t : State} (h : Quiet s t) (k : FlightsCounted none s) : FlightsCounted none t where
  counted b := by
    rw [h.tracker, k.counted b]
    exact ((h.bins b) (k.grounded b nofun)).1.symm
  grounded b _ := ((h.bins b) (k.grounded b nofun)).2
  judged := by
    rw [h.tracker]
    exact k.judged

/-! ### A rejection (R66, R69) -/

@[simp] theorem dropAtBeltEnd_bins (n : EntryId) (s : State) : (dropAtBeltEnd n s).bins = s.bins := by
  rcases dropAtBeltEnd_cases n s with e | ⟨x, -, -, -, e⟩ <;> rw [e]
  rfl

@[simp] theorem rejectEntry_bins (n : EntryId) (why : RejectReason) (values : Option Computed) (s : State) :
    (rejectEntry n why values s).bins = s.bins := by
  rw [rejectEntry_eq, dropAtBeltEnd_bins, setEntry_bins]

section
variable {n : EntryId} {s : State} {e : Entry} (found : findEntry n s = some e) (why : RejectReason)
  (values : Option Computed)
include found

/-- A rejected entry is on its way to no bin, and no other entry changes. -/
theorem rejectEntry_count (b : BinNo) :
    (rejectEntry n why values s).tracker.queue.countP (Entry.aboard b) + (e.aboard b).toNat
      = s.tracker.queue.countP (Entry.aboard b) := by
  have away : (e.rejected why values).aboard b = false := Entry.not_aboard_of (.inr (.inl rfl)) b
  have changed : (setEntry n (Entry.rejected why values) s).tracker.queue.countP (Entry.aboard b) + (e.aboard b).toNat
      = s.tracker.queue.countP (Entry.aboard b) := (countP_updFirst found).trans (by rw [away]; rfl)
  have found' := findEntry_setEntry_self (f := Entry.rejected why values) found rfl
  rw [rejectEntry_eq]
  rcases dropAtBeltEnd_cases n (setEntry n (Entry.rejected why values) s) with same | ⟨x, is, -, -, same⟩ <;> rw [same]
  · exact changed
  · have erased := countP_eraseP (p := Entry.aboard b) found'
    rw [away] at erased
    exact (congrArg (· + (e.aboard b).toNat) erased).trans changed

/-- What the queue holds after a rejection was there before, or is the rejected entry. -/
theorem mem_of_mem_rejectEntry {x : Entry} (mem : x ∈ (rejectEntry n why values s).tracker.queue) :
    x ∈ s.tracker.queue ∨ x = e.rejected why values := by
  have changed : x ∈ (setEntry n (Entry.rejected why values) s).tracker.queue := by
    rw [rejectEntry_eq] at mem
    rcases dropAtBeltEnd_cases n (setEntry n (Entry.rejected why values) s) with same | ⟨y, -, -, -, same⟩ <;>
      rw [same] at mem
    · exact mem
    · exact List.mem_of_mem_eraseP mem
  exact mem_updFirst_found found changed

theorem FlightsCounted.rejectEntry {lost : Option BinNo} (h : FlightsCounted lost s) (away : ∀ b, e.aboard b = false) :
    FlightsCounted lost (rejectEntry n why values s) := by
  refine h.move (out := fun _ => 0) (into := fun _ => 0) (fun b => ?_) (fun b => ?_) (fun b => ?_) fun x mem => ?_
  · have count := rejectEntry_count found why values b
    rw [away b] at count
    exact count
  · unfold State.bin; rw [rejectEntry_bins]
  · unfold State.bin; rw [rejectEntry_bins]; exact id
  · rcases mem_of_mem_rejectEntry found why values mem with mem | rfl
    · exact .inl mem
    · exact .inr (Entry.sound_of fun _ _ _ => nofun)

end

/-- Among distinct sheets, a rejected sheet's entry is rejected or gone. -/
theorem rejectEntry_own {n : EntryId} {why : RejectReason} {values : Option Computed} {s : State}
    (distinct : EntriesDistinct s) {x : Entry} (found : findEntry n (rejectEntry n why values s) = some x) :
    x.state = .toReject := by
  have mem := findEntry_mem found
  rw [rejectEntry_queue n why values distinct] at mem
  obtain ⟨y, -, became⟩ := List.mem_filterMap.mp mem
  split at became
  · split at became
    · cases became
    · cases became; rfl
  · next other =>
    cases became
    exact absurd (findEntry_id found) other

theorem FlightsCounted.sweepAwaiting {lost : Option BinNo} {s : State} (h : FlightsCounted lost s) :
    FlightsCounted lost (sweepAwaiting s) :=
  sweepAwaiting_keeps (FlightsCounted lost)
    (fun _ _ _ found waits h => h.rejectEntry found _ _ (Entry.not_aboard_of (.inl waits))) s h

theorem FlightsCounted.setMismatches {lost : Option BinNo} {s : State} (h : FlightsCounted lost s) (m : Nat) :
    FlightsCounted lost (setMismatches m s) := by
  rcases setMismatches_cases m s with ⟨-, e⟩ | ⟨-, -, e⟩ | ⟨-, -, e⟩ <;> rw [e]
  · exact h.congr rfl rfl
  · exact h.congr rfl rfl
  · have raised : FlightsCounted lost
        (raise (.syncChanged .outOfStep) (setTracker (fun t => { t with mismatches := m }) s)) := h.congr rfl rfl
    exact raised.sweepAwaiting

/-! ### A route (R79, R85, R92) -/

/-- The sheets that a route plan sends to a bin: one to the plan's own. -/
def RoutePlan.into (b : BinNo) : RoutePlan → Nat
  | .bin c _ _ => if b = c then 1 else 0
  | _ => 0

/-- A commit counts one sheet more on a bin that takes sheets. -/
theorem Commits.flying {s : State} {b : BinNo} {key : Key} {target : Nat} {x : BinState}
    (h : Commits s b key target x) : x.flying = (s.bin b).state.flying + 1 ∧ x.takesSheets = true := by
  obtain ⟨l, before, rfl⟩ := h
  have flies : (s.bin b).state.flying = l.inFlight := by
    rcases before with ⟨fills, -⟩ | ⟨ready, rfl⟩
    · rw [fills]; rfl
    · rw [ready]; rfl
  rw [flies]
  split <;> exact ⟨rfl, rfl⟩

theorem commitTo_bin_ne {b c : BinNo} (h : c ≠ b) (n : EntryId) (key : Key) (target : Nat) (s : State) :
    (commitTo n b key target s).bin c = s.bin c := by
  have same : (commitTo n b key target s).bin c
      = (setBin b (fun x => { x with state := x.state.commit }) (openLift b key target s)).bin c := rfl
  rw [same, setBin_bin, if_neg h]
  unfold openLift
  split
  · exact (setBin_bin _ _ _ _).trans (if_neg h)
  · rfl

theorem commitTo_queue (n : EntryId) (b : BinNo) (key : Key) (target : Nat) (s : State) :
    ∃ p q, (commitTo n b key target s).tracker.queue
      = updFirst (fun e => e.id == n) (fun e => { e with state := .routed b (e.lead + p) (e.lead + q) })
          s.tracker.queue := by
  have before : (setBin b (fun x => { x with state := x.state.commit }) (openLift b key target s)).tracker.queue
      = s.tracker.queue := by rw [setBin_tracker, openLift_tracker]
  exact ⟨_, _, by rw [commitTo, setEntry_tracker]; dsimp only; rw [before]⟩

section
variable {n : EntryId} {s : State} {e : Entry} (found : findEntry n s = some e) (plan : RoutePlan)
include found

theorem applyRoute_count (b : BinNo) :
    (applyRoute n plan s).tracker.queue.countP (Entry.aboard b) + (e.aboard b).toNat
      = s.tracker.queue.countP (Entry.aboard b) + plan.into b := by
  cases plan with
  | bin c key target =>
    obtain ⟨p, q, queue⟩ := commitTo_queue n c key target s
    have joins : (Entry.aboard b { e with state := .routed c (e.lead + p) (e.lead + q) }).toNat
        = if b = c then 1 else 0 :=
      Entry.aboard_of_routedTo (by simp [Entry.routedTo]) b
    rw [applyRoute, queue, countP_updFirst found, joins]
    rfl
  | redryGate p =>
    refine (countP_updFirst found).trans ?_
    rw [Entry.not_aboard_of (.inr (.inr ⟨_, _, _, rfl⟩))]
    rfl
  | beltEnd why x => exact rejectEntry_count found why x b

/-- What the queue holds after a route was there before, or has a verdict where it is ROUTED. -/
theorem applyRoute_sound (verdict : e.verdict ≠ none) {x : Entry}
    (mem : x ∈ (applyRoute n plan s).tracker.queue) : x ∈ s.tracker.queue ∨ x.Sound := by
  cases plan with
  | bin c key target =>
    obtain ⟨p, q, queue⟩ := commitTo_queue n c key target s
    rw [applyRoute, queue] at mem
    rcases mem_updFirst_found found mem with mem | rfl
    · exact .inl mem
    · exact .inr fun _ _ => verdict
  | redryGate p =>
    rcases mem_updFirst_found found mem with mem | rfl
    · exact .inl mem
    · exact .inr (Entry.sound_of fun _ _ _ => nofun)
  | beltEnd why x =>
    rcases mem_of_mem_rejectEntry found why x mem with mem | rfl
    · exact .inl mem
    · exact .inr (Entry.sound_of fun _ _ _ => nofun)

end

/-- A route made by the router counts its sheet on the plan's bin, which takes sheets. -/
theorem applyRoute_flying {s : State} {bank : Option BankNo} {v : Verdict} {travel : Nat} {lost : Option BinNo}
    {plan : RoutePlan} (route : planRoute s bank v travel lost = plan) (n : EntryId) (b : BinNo) :
    ((applyRoute n plan s).bin b).state.flying = (s.bin b).state.flying + plan.into b
    ∧ ((s.bin b).state.Grounded → ((applyRoute n plan s).bin b).state.Grounded) := by
  cases plan with
  | bin c key target =>
    by_cases own : b = c
    · subst own
      obtain ⟨flies, takes⟩ := (commitTo_commits n target (planRoute_bin route)).flying
      refine ⟨flies.trans (by simp [RoutePlan.into]), fun _ takes_none => absurd (takes.symm.trans takes_none) (by decide)⟩
    · rw [applyRoute, commitTo_bin_ne own]
      exact ⟨by simp [RoutePlan.into, own], id⟩
  | redryGate p => exact ⟨rfl, id⟩
  | beltEnd why x =>
    unfold applyRoute State.bin
    rw [rejectEntry_bins]
    exact ⟨rfl, id⟩

theorem findEntry_applyRoute_ne {m n : EntryId} (h : m ≠ n) (plan : RoutePlan) (s : State) :
    findEntry m (applyRoute n plan s) = findEntry m s := by
  cases plan with
  | bin b key target =>
    rw [applyRoute, commitTo, findEntry_setEntry_ne h (by exact fun _ => rfl)]
    exact findEntry_congr (congrArg Tracker.queue (openLift_tracker b key target s)) m
  | redryGate p => exact findEntry_setEntry_ne h (by exact fun _ => rfl) s
  | beltEnd why x => exact findEntry_rejectEntry_ne h why x s

/-! ### One sheet fewer in flight -/

theorem BinState.mapLift_takesSheets (f : Lift → Lift) (x : BinState) : (x.mapLift f).takesSheets = x.takesSheets := by
  cases x <;> rfl

theorem BinState.mapLift_flying {f : Lift → Lift} (h : ∀ l, (f l).inFlight = l.inFlight - 1) (x : BinState) :
    (x.mapLift f).flying = x.flying - 1 := by
  cases x with
  | offline => rfl
  | ready => rfl
  | faulted why l =>
    cases l with
    | none => rfl
    | some l => exact h l
  | drainClose why l => exact h l
  | _ l => exact h l

theorem BinState.mapLift_grounded {f : Lift → Lift} (h : ∀ l, (f l).inFlight = l.inFlight - 1) {x : BinState}
    (g : x.Grounded) : (x.mapLift f).Grounded := by
  intro takes
  rw [mapLift_takesSheets] at takes
  rw [mapLift_flying h, g takes]

/-- A bin's record changed so that one sheet fewer is in flight, while one is. -/
theorem setBin_flying {b : BinNo} {f : Lift → Lift} (fewer : ∀ l, (f l).inFlight = l.inFlight - 1) {g : Bin → Bin}
    (state : ∀ x : Bin, (g x).state = x.state.mapLift f) {s : State} (flies : 0 < (s.bin b).state.flying) (c : BinNo) :
    ((setBin b g s).bin c).state.flying + (if c = b then 1 else 0) = (s.bin c).state.flying
    ∧ ((s.bin c).state.Grounded → ((setBin b g s).bin c).state.Grounded) := by
  rw [setBin_bin]
  by_cases own : c = b
  · subst own
    rw [if_pos rfl, if_pos rfl, state, BinState.mapLift_flying fewer]
    exact ⟨Nat.sub_add_cancel flies, BinState.mapLift_grounded fewer⟩
  · rw [if_neg own, if_neg own]
    exact ⟨rfl, id⟩

section
variable {b : BinNo} {f : Lift → Lift} (fewer : ∀ l, (f l).inFlight = l.inFlight - 1) {g : Bin → Bin}
  (state : ∀ x : Bin, (g x).state = x.state.mapLift f) {n : EntryId} {s : State} {e : Entry}
  (found : findEntry n s = some e) (lands : e.landingAt b = true)
include fewer state found lands

/-- A sheet that lands or is missed leaves the queue and its lift's count. -/
theorem FlightsCounted.landed {lost : Option BinNo} (h : FlightsCounted lost s) :
    FlightsCounted lost (Machine.removeEntry n (setBin b g s)) := by
  have aboard := Entry.aboard_of_landingAt lands
  have flies := h.flying_pos (findEntry_mem found) (b := b) (by simp [Entry.aboard, lands])
  have bins := setBin_flying fewer state flies
  refine h.move (out := fun c => if c = b then 1 else 0) (into := fun _ => 0) (fun c => ?_)
    (fun c => (bins c).1) (fun c => (bins c).2) fun x mem => .inl (List.mem_of_mem_eraseP mem)
  rw [← aboard c]
  exact countP_eraseP found

end

/-! ### The loss of a bin's entries (R92, R93) -/

theorem loseSheet_fewer (l : Lift) : l.loseSheet.inFlight = l.inFlight - 1 := rfl

/-- The re-routing of an entry: nothing, when it is not ROUTED to the lost bin or has no verdict, and otherwise the route
that the router finds with the bin excluded. -/
theorem rerouteEntry_cases (b : BinNo) (s : State) (n : EntryId) :
    (rerouteEntry b s n = s
      ∧ ∀ e, findEntry n s = some e → e.routedTo b = true → e.verdict = none)
    ∨ ∃ e v plan, findEntry n s = some e ∧ e.routedTo b = true ∧ e.verdict = some v
        ∧ planRoute (mapBinLift b Lift.loseSheet s) e.bank v (travelOf e s) (some b) = plan
        ∧ rerouteEntry b s n = applyRoute n plan (mapBinLift b Lift.loseSheet s) := by
  unfold rerouteEntry
  split
  · next e found =>
    split
    · next v verdict routed => exact .inr ⟨e, v, _, found, routed, verdict, rfl, rfl⟩
    · next other =>
      refine .inl ⟨rfl, fun x is routed => ?_⟩
      rw [found] at is
      cases is
      cases verdict : e.verdict with
      | none => rfl
      | some v => exact absurd routed (other v verdict)
  · next missing => exact .inl ⟨rfl, fun x is => by rw [missing] at is; cases is⟩

/-- The turning away of an entry: nothing, when it is not LANDING for the lost bin, and otherwise its rejection. -/
theorem turnAwayEntry_cases (b : BinNo) (s : State) (n : EntryId) :
    (turnAwayEntry b s n = s ∧ ∀ e, findEntry n s = some e → e.landingAt b = false)
    ∨ ∃ e, findEntry n s = some e ∧ e.landingAt b = true
        ∧ turnAwayEntry b s n
          = rejectEntry n .binLost (e.verdict.bind Verdict.values) (mapBinLift b Lift.loseSheet s) := by
  unfold turnAwayEntry
  split
  · next e found =>
    cases lands : e.landingAt b
    · exact .inl ⟨rfl, fun x is => by rw [found] at is; cases is; exact lands⟩
    · exact .inr ⟨e, found, lands, rfl⟩
  · next missing => exact .inl ⟨rfl, fun x is => by rw [missing] at is; cases is⟩

theorem findEntry_rerouteEntry_ne {m n : EntryId} (h : m ≠ n) (b : BinNo) (s : State) :
    findEntry m (rerouteEntry b s n) = findEntry m s := by
  rcases rerouteEntry_cases b s n with ⟨e, -⟩ | ⟨x, v, plan, -, -, -, -, e⟩ <;> rw [e]
  rw [findEntry_applyRoute_ne h]
  rfl

theorem findEntry_turnAwayEntry_ne {m n : EntryId} (h : m ≠ n) (b : BinNo) (s : State) :
    findEntry m (turnAwayEntry b s n) = findEntry m s := by
  rcases turnAwayEntry_cases b s n with ⟨e, -⟩ | ⟨x, -, -, e⟩ <;> rw [e]
  rw [findEntry_rejectEntry_ne h]
  rfl

section
variable {lost : Option BinNo} {b : BinNo} {s : State} {n : EntryId}

theorem FlightsCounted.rerouteEntry (h : FlightsCounted lost s) : FlightsCounted lost (rerouteEntry b s n) := by
  rcases rerouteEntry_cases b s n with ⟨e, -⟩ | ⟨x, v, plan, found, routed, verdict, route, e⟩ <;> rw [e]
  · exact h
  have aboard := Entry.aboard_of_routedTo routed
  have flies := h.flying_pos (findEntry_mem found) (b := b) (by simp [Entry.aboard, routed])
  have fewer := setBin_flying (g := fun y => { y with state := y.state.mapLift Lift.loseSheet }) loseSheet_fewer
    (fun _ => rfl) flies
  have found' : findEntry n (mapBinLift b Lift.loseSheet s) = some x := found
  refine h.move (out := fun c => if c = b then 1 else 0) (into := plan.into) (fun c => ?_) (fun c => ?_) (fun c => ?_)
    fun y mem => applyRoute_sound found' plan (by simp [verdict]) mem
  · rw [← aboard c]
    exact applyRoute_count found' plan c
  · have joins := (applyRoute_flying route n c).1
    have leaves := (fewer c).1
    unfold mapBinLift at *
    omega
  · exact fun g => (applyRoute_flying route n c).2 ((fewer c).2 g)

theorem FlightsCounted.turnAwayEntry (h : FlightsCounted lost s) : FlightsCounted lost (turnAwayEntry b s n) := by
  rcases turnAwayEntry_cases b s n with ⟨e, -⟩ | ⟨x, found, lands, e⟩ <;> rw [e]
  · exact h
  have aboard := Entry.aboard_of_landingAt lands
  have flies := h.flying_pos (findEntry_mem found) (b := b) (by simp [Entry.aboard, lands])
  have fewer := setBin_flying (g := fun y => { y with state := y.state.mapLift Lift.loseSheet }) loseSheet_fewer
    (fun _ => rfl) flies
  have found' : findEntry n (mapBinLift b Lift.loseSheet s) = some x := found
  have bins (why : RejectReason) (values : Option Computed) (c : BinNo) :
      (Machine.rejectEntry n why values (mapBinLift b Lift.loseSheet s)).bin c = (mapBinLift b Lift.loseSheet s).bin c :=
    congrArg (fun v : Vector Bin 16 => v[c]) (rejectEntry_bins n why values _)
  refine h.move (out := fun c => if c = b then 1 else 0) (into := fun _ => 0) (fun c => ?_) (fun c => ?_) (fun c => ?_)
    fun y mem => ?_
  · rw [← aboard c]
    exact rejectEntry_count found' _ _ c
  · rw [bins]
    exact (fewer c).1
  · rw [bins]
    exact (fewer c).2
  · rcases mem_of_mem_rejectEntry found' _ _ mem with mem | rfl
    · exact .inl mem
    · exact .inr (Entry.sound_of fun _ _ _ => nofun)

/-- A re-routed entry is ROUTED to the lost bin no more. -/
theorem rerouteEntry_own (distinct : EntriesDistinct s) (h : FlightsCounted lost s) {x : Entry}
    (found : findEntry n (rerouteEntry b s n) = some x) : x.routedTo b = false := by
  rcases rerouteEntry_cases b s n with ⟨e, unjudged⟩ | ⟨y, v, plan, found', routed, verdict, route, e⟩ <;>
    rw [e] at found
  · cases routed : x.routedTo b
    · rfl
    · exact absurd (unjudged x found routed) (h.judged b x (findEntry_mem found) routed)
  · have found' : findEntry n (mapBinLift b Lift.loseSheet s) = some y := found'
    cases plan with
    | bin c key target =>
      have takes := (canTakeSheet_iff _ _ _ _ _).mpr (planRoute_bin route)
      obtain ⟨p, position, -⟩ := takes.reach
      have other : c ≠ b := fun same => takes.other (congrArg some same.symm)
      rw [applyRoute, findEntry_commitTo found' key target position] at found
      cases found
      simpa [Entry.routedTo] using other
    | redryGate p =>
      rw [findEntry_applyRoute_redryGate found' p] at found
      cases found
      rfl
    | beltEnd why values =>
      have rejected := rejectEntry_own (s := mapBinLift b Lift.loseSheet s) distinct found
      unfold Entry.routedTo
      rw [rejected]

/-- An entry turned away is LANDING for the lost bin no more. -/
theorem turnAwayEntry_own (distinct : EntriesDistinct s) {x : Entry}
    (found : findEntry n (turnAwayEntry b s n) = some x) : x.landingAt b = false := by
  rcases turnAwayEntry_cases b s n with ⟨e, away⟩ | ⟨y, -, -, e⟩ <;> rw [e] at found
  · exact away x found
  · have rejected := rejectEntry_own (s := mapBinLift b Lift.loseSheet s) distinct found
    unfold Entry.landingAt
    rw [rejected]

end

/-- A fold over the sheets that a test picks, each of whose acts clears its own sheet's entry and leaves the others, leaves
no entry that the test picks. -/
theorem foldl_clears {act : State → EntryId → State} {p : Entry → Bool} {inv : State → Prop}
    (leave : ∀ s n, EntriesLeave s (act s n)) (keeps : ∀ s n, inv s → inv (act s n))
    (others : ∀ s m n, m ≠ n → findEntry m (act s n) = findEntry m s)
    (own : ∀ s n e, EntriesDistinct s → inv s → findEntry n (act s n) = some e → p e = false) :
    ∀ (ns : List EntryId) (s : State), EntriesDistinct s → inv s → (∀ e ∈ s.tracker.queue, p e = true → e.id ∈ ns) →
      inv (ns.foldl act s) ∧ ∀ e ∈ (ns.foldl act s).tracker.queue, p e = false := by
  intro ns
  induction ns with
  | nil =>
    intro s _ h listed
    refine ⟨h, fun e mem => ?_⟩
    cases picked : p e
    · rfl
    · cases listed e mem picked
  | cons n ns ih =>
    intro s distinct h listed
    have distinct' := (leave s n).distinct distinct
    refine ih (act s n) distinct' (keeps s n h) fun e mem picked => ?_
    have found := findEntry_of_mem distinct' mem
    by_cases same : e.id = n
    · have : p e = false := own s n e distinct h (same ▸ found)
      rw [this] at picked
      cases picked
    · rw [others s e.id n same] at found
      exact (List.mem_cons.mp (listed e (findEntry_mem found) picked)).resolve_left same

/-- The loss of a bin's entries leaves none on its way there, and so nothing in flight for its lift. -/
theorem FlightsCounted.loseEntries {b : BinNo} {s : State} (distinct : EntriesDistinct s)
    (h : FlightsCounted (some b) s) : FlightsCounted none (loseEntries b s) := by
  have listed (p : Entry → Bool) (s : State) : ∀ e ∈ s.tracker.queue, p e = true → e.id ∈ entriesWhere p s :=
    fun e mem picked => List.mem_map_of_mem (List.mem_filter.mpr ⟨mem, picked⟩)
  obtain ⟨rerouted, none_routed⟩ := foldl_clears (act := Machine.rerouteEntry b) (p := Entry.routedTo b)
    (inv := FlightsCounted (some b)) (fun s n => (rerouteEntry_bounded b s n).leave) (fun _ _ h => h.rerouteEntry)
    (fun s _ _ other => findEntry_rerouteEntry_ne other b s) (fun _ _ _ d h found => rerouteEntry_own d h found)
    _ s distinct h (listed _ s)
  have distinct' := (Bounded.foldl _ (rerouteEntry_bounded b) (entriesWhere (Entry.routedTo b) s) s).leave.distinct distinct
  unfold Machine.loseEntries
  generalize (entriesWhere (Entry.routedTo b) s).foldl (Machine.rerouteEntry b) s = u at *
  obtain ⟨⟨away, none_routed⟩, none_landing⟩ := foldl_clears (act := Machine.turnAwayEntry b) (p := Entry.landingAt b)
    (inv := fun s => FlightsCounted (some b) s ∧ ∀ e ∈ s.tracker.queue, e.routedTo b = false)
    (fun s n => (turnAwayEntry_bounded b s n).leave)
    (fun s n ⟨h, none_routed⟩ => ⟨h.turnAwayEntry, fun e mem => by
      rcases turnAwayEntry_cases b s n with ⟨same, -⟩ | ⟨x, found, -, same⟩ <;> rw [same] at mem
      · exact none_routed e mem
      · rcases mem_of_mem_rejectEntry (s := mapBinLift b Lift.loseSheet s) found _ _ mem with mem | rfl
        · exact none_routed e mem
        · rfl⟩)
    (fun s _ _ other => findEntry_turnAwayEntry_ne other b s) (fun _ _ _ d _ found => turnAwayEntry_own d found)
    _ u distinct' ⟨rerouted, none_routed⟩ (listed _ u)
  refine ⟨away.counted, fun c _ => ?_, away.judged⟩
  by_cases own : c = b
  · subst own
    intro _
    rw [← away.counted c, List.countP_eq_zero]
    intro e mem
    simp [Entry.aboard, none_routed e mem, none_landing e mem]
  · exact away.grounded c (by simpa using Ne.symm own)

/-! ### The fault of a bin, and landings -/

theorem BinState.faultLift_flying (why : BinFault) (x : BinState) : (BinState.faulted why x.faultLift).flying = x.flying := by
  cases x <;> rfl

theorem faultAnnounced_tracker (b : BinNo) (why : BinFault) (s : State) : (faultAnnounced b why s).tracker = s.tracker := by
  unfold faultAnnounced
  dsimp only
  split <;> rfl

theorem faultAnnounced_bins (b : BinNo) (why : BinFault) (s : State) :
    (faultAnnounced b why s).bins
      = (setBin b (fun x => { x with state := .faulted why (s.bin b).state.faultLift, eject := false }) s).bins := by
  unfold faultAnnounced
  dsimp only
  split <;> rfl

theorem FlightsCounted.faultAnnounced {b : BinNo} {why : BinFault} {s : State} (h : FlightsCounted none s) :
    FlightsCounted (some b) (faultAnnounced b why s) := by
  have bin (c : BinNo) : (Machine.faultAnnounced b why s).bin c
      = if c = b then { s.bin b with state := .faulted why (s.bin b).state.faultLift, eject := false } else s.bin c :=
    (congrArg (fun v : Vector Bin 16 => v[c]) (faultAnnounced_bins b why s)).trans (setBin_bin _ _ _ _)
  refine ⟨fun c => ?_, fun c other => ?_, ?_⟩
  · rw [faultAnnounced_tracker, h.counted, bin]
    split
    · next own => rw [own]; exact (BinState.faultLift_flying _ _).symm
    · rfl
  · rw [bin, if_neg fun own => other (congrArg some own.symm)]
    exact h.grounded c nofun
  · rw [faultAnnounced_tracker]
    exact h.judged

section
variable {b : BinNo} {s : State} (distinct : EntriesDistinct s) (h : FlightsCounted none s)
include distinct h

theorem FlightsCounted.faultBin (why : BinFault) : FlightsCounted none (faultBin b why s) := by
  rcases faultBin_cases b why s with e | ⟨-, -, e⟩ <;> rw [e]
  · exact h
  · have announced := (faultAnnounced_bounded b why s).leave.distinct distinct
    exact (syncGates_quiet _).flights (h.faultAnnounced.loseEntries announced)

theorem FlightsCounted.anomalyTest (what : Anomaly) : FlightsCounted none (anomalyTest b what s) := by
  rcases anomalyTest_cases b what s with ⟨-, e⟩ | ⟨-, e⟩ | ⟨-, -, e⟩ <;> rw [e]
  · exact h.congr rfl rfl
  · exact h.faultBin distinct .landing
  · exact h

theorem FlightsCounted.strayLanding : FlightsCounted none (strayLanding b s) := by
  have counted := (bumpSuspicion_quiet b s).trans (tally_quiet countStray_tallyStep _)
  exact (counted.flights h).anomalyTest (counted.bounded.leave.distinct distinct) .stray

theorem FlightsCounted.landEntry {e : Entry} (oldest : oldestLanding b s = some e) : FlightsCounted none (landEntry b e s) := by
  have found := findEntry_of_mem distinct (List.mem_of_find?_eq_some oldest)
  have removed := h.landed (g := fun x =>
      { x with
        state := x.state.mapLift (Lift.land ((e.verdict.bind Verdict.values).map fun v => v.meanM)), suspicion := 0 })
    (f := Lift.land _) (fun _ => rfl) (fun _ => rfl) found (List.find?_some oldest)
  refine (completeDrain_quiet b _).flights ((syncGates_quiet _).flights ?_)
  split
  · exact removed.congr rfl rfl
  · exact removed

theorem FlightsCounted.missEntry {n : EntryId} {e : Entry} (found : findEntry n s = some e)
    (lands : e.landingAt b = true) : FlightsCounted none (missEntry b n s) := by
  have removed := h.landed (g := fun x =>
      { x with state := x.state.mapLift Lift.miss, suspicion := min 3 (x.suspicion + 1) })
    (f := Lift.miss) (fun _ => rfl) (fun _ => rfl) found lands
  have same : setBin b (fun x : Bin => { x with state := x.state.mapLift Lift.miss, suspicion := min 3 (x.suspicion + 1) }) s
      = bumpSuspicion b (mapBinLift b Lift.miss s) := by
    unfold bumpSuspicion mapBinLift setBin
    simp only [vset_get_self, vset_vset]
  rw [same] at removed
  have counted := (missCounted_bounded b n s).trans (syncGates_quiet (missCounted b n s)).bounded
  have tallied : FlightsCounted none (missCounted b n s) := removed.congr rfl rfl
  rw [missEntry_eq]
  exact (completeDrain_quiet b _).flights
    (((syncGates_quiet _).flights tallied).anomalyTest (counted.leave.distinct distinct) .missed)

theorem FlightsCounted.landedEdge : FlightsCounted none (landedEdge b s) := by
  rcases landedEdge_cases b s with e | ⟨x, oldest, -, e⟩ | e <;> rw [e]
  · exact h
  · exact h.landEntry distinct oldest
  · exact h.strayLanding distinct

end

end Sys2Proof.Machine
end

section
/-! SUPPORT. What an act, and what a whole event, keeps of everything that has a limit (R28, R57, R68, R69, R95, R118,
R147, R157, R167, R172, R176, R180, R181); then the events of the belt, the bins, the outfeed and the clock. -/

namespace Sys2Proof.Machine

/-! ### Ports, rule lists and pulls -/

/-- A port within the limits of its outgoing queue (R180) and its error count (R176). -/
def PortState.Fits (q : PortState) : Prop := q.queue.length ≤ Config.maxItems ∧ q.errors ≤ 65535

theorem reportingLimits_iff (s : State) :
    ReportingLimits s ↔ (∀ p : Fin 6, s.ports[p].Fits) ∧ s.events.list.length ≤ Config.maxEvents :=
  ⟨fun h => ⟨fun p => ⟨h.queues p, h.errors p⟩, h.events⟩, fun h => ⟨fun p => (h.1 p).1, fun p => (h.1 p).2, h.2⟩⟩

theorem ReportingLimits.congr {s t : State} (h : ReportingLimits s) (ports : t.ports = s.ports)
    (events : t.events.list.length ≤ Config.maxEvents) : ReportingLimits t := by
  rw [reportingLimits_iff] at *
  exact ⟨ports ▸ h.1, events⟩

theorem RecipeAndPullLimits.congr {s t : State} (h : RecipeAndPullLimits s) (banks : t.banks = s.banks)
    (arbiter : t.arbiter = s.arbiter) : RecipeAndPullLimits t := by
  obtain ⟨rules, pulls, expired⟩ := h
  unfold pullsOf at pulls
  rw [← banks] at rules
  rw [← arbiter] at pulls expired
  exact ⟨rules, pulls, expired⟩

/-! ### Acts and events -/

/-- An act within an event: it enters no sheet, lets no travel pass and keeps every limit. -/
structure ActKeeps (s t : State) : Prop where
  travel : t.tracker.travel = s.tracker.travel
  belt : BeltLimits s → BeltLimits t
  reporting : ReportingLimits s → ReportingLimits t
  recipes : RecipeAndPullLimits s → RecipeAndPullLimits t
  tallies : TallyLimits s → TallyLimits t
  distinct : EntriesDistinct s → EntriesDistinct t
  swept : EntriesDistinct s → SyncSwept s → SyncSwept t
  flights : EntriesDistinct s → FlightsCounted none s → FlightsCounted none t

/-- A whole event, which ends a drain that is over (R167). -/
structure Keeps (s t : State) : Prop extends ActKeeps s t where
  drain : DrainHasSheets s → DrainHasSheets t

theorem DrainHasSheets.congr {s t : State} (h : DrainHasSheets s) (mode : t.mode = s.mode)
    (tracker : t.tracker = s.tracker) : DrainHasSheets t := by
  unfold DrainHasSheets at *
  rwa [mode, tracker]

namespace ActKeeps

theorem trans {s t u : State} (h : ActKeeps s t) (k : ActKeeps t u) : ActKeeps s u where
  travel := k.travel.trans h.travel
  belt x := k.belt (h.belt x)
  reporting x := k.reporting (h.reporting x)
  recipes x := k.recipes (h.recipes x)
  tallies x := k.tallies (h.tallies x)
  distinct x := k.distinct (h.distinct x)
  swept d x := k.swept (h.distinct d) (h.swept d x)
  flights d x := k.flights (h.distinct d) (h.flights d x)

/-- An act of the belt. -/
theorem of_belt {s t : State} (frame : BeltFrame s t) (bounded : Bounded s t)
    (flights : EntriesDistinct s → FlightsCounted none s → FlightsCounted none t) : ActKeeps s t where
  travel := frame.travel
  belt x := by
    have length := bounded.leave.order.length_le
    rw [List.length_map, List.length_map] at length
    exact ⟨length.trans x.queue, bounded.mismatches x.mismatches, bounded.suspicion x.suspicion⟩
  reporting x := x.congr frame.ports (bounded.events x.events)
  recipes x := x.congr frame.banks frame.arbiter
  tallies := bounded.tallies
  distinct := bounded.leave.distinct
  swept := bounded.swept
  flights := flights

/-- An act that leaves the belt alone, and keeps the limits of what it does change. -/
theorem of_same {s t : State} (tracker : t.tracker = s.tracker) (bins : t.bins = s.bins) (tallies : t.tallies = s.tallies)
    (reporting : ReportingLimits s → ReportingLimits t) (recipes : RecipeAndPullLimits s → RecipeAndPullLimits t) :
    ActKeeps s t where
  travel := congrArg Tracker.travel tracker
  belt x := by
    obtain ⟨queue, mismatches, suspicion⟩ := x
    unfold State.bin at suspicion
    rw [← tracker] at queue mismatches
    rw [← bins] at suspicion
    exact ⟨queue, mismatches, suspicion⟩
  reporting := reporting
  recipes := recipes
  tallies x := x.congr tallies
  distinct x := by unfold EntriesDistinct at *; rwa [tracker]
  swept _ x := x.congr tracker
  flights _ x := x.congr (congrArg Tracker.queue tracker) bins

end ActKeeps

namespace Keeps

theorem trans {s t u : State} (h : Keeps s t) (k : Keeps t u) : Keeps s u :=
  ⟨h.toActKeeps.trans k.toActKeeps, fun x => k.drain (h.drain x)⟩

/-- An event that leaves the belt and the mode alone. -/
theorem of_same {s t : State} (tracker : t.tracker = s.tracker) (bins : t.bins = s.bins) (mode : t.mode = s.mode)
    (tallies : t.tallies = s.tallies) (reporting : ReportingLimits s → ReportingLimits t)
    (recipes : RecipeAndPullLimits s → RecipeAndPullLimits t) : Keeps s t :=
  ⟨.of_same tracker bins tallies reporting recipes, fun x => x.congr mode tracker⟩

/-- An event that changes nothing that has a limit. -/
theorem of_unlimited {s t : State} (tracker : t.tracker = s.tracker) (bins : t.bins = s.bins) (mode : t.mode = s.mode)
    (tallies : t.tallies = s.tallies) (ports : t.ports = s.ports) (events : t.events.list = s.events.list)
    (banks : t.banks = s.banks) (arbiter : t.arbiter = s.arbiter) : Keeps s t :=
  of_same tracker bins mode tallies (fun x => x.congr ports (events ▸ x.events)) (fun x => x.congr banks arbiter)

theorem refl (s : State) : Keeps s s := of_unlimited rfl rfl rfl rfl rfl rfl rfl rfl

theorem foldl {α : Type} (f : State → α → State) (h : ∀ s a, Keeps s (f s a)) (l : List α) (s : State) :
    Keeps s (l.foldl f s) :=
  foldl_rel Keeps refl (fun _ _ _ => trans) f h l s

theorem ite {c : Prop} [Decidable c] {s t u : State} (h : c → Keeps s t) (k : ¬c → Keeps s u) :
    Keeps s (if c then t else u) := by
  split
  · next is => exact h is
  · next is => exact k is

end Keeps

theorem Quiet.actKeeps {s t : State} (h : Quiet s t) (ports : t.ports = s.ports) (banks : t.banks = s.banks)
    (arbiter : t.arbiter = s.arbiter) : ActKeeps s t where
  travel := congrArg Tracker.travel h.tracker
  belt x := ⟨h.tracker ▸ x.queue, h.bounded.mismatches x.mismatches, h.bounded.suspicion x.suspicion⟩
  reporting x := x.congr ports (h.events x.events)
  recipes x := x.congr banks arbiter
  tallies := h.tallies
  distinct := h.bounded.leave.distinct
  swept := h.bounded.swept
  flights _ := h.flights

/-- A quiet act in an unchanged mode is an event of its own. -/
theorem Quiet.keeps {s t : State} (h : Quiet s t) (ports : t.ports = s.ports) (banks : t.banks = s.banks)
    (arbiter : t.arbiter = s.arbiter) (mode : t.mode = s.mode) : Keeps s t :=
  ⟨h.actKeeps ports banks arbiter, fun x => x.congr mode h.tracker⟩

/-! ### The ends of an event -/

theorem tally_keeps {f : Tallies → Tallies} (h : TallyStep f) (s : State) : Keeps s (tally f s) :=
  (tally_quiet h s).keeps rfl rfl rfl rfl

theorem raise_keeps (e : Event) (s : State) : Keeps s (raise e s) := (raise_quiet e s).keeps rfl rfl rfl rfl

theorem setSlot_keeps (n : SlotNo) (f : Slot → Slot) (s : State) : Keeps s (setSlot n f s) :=
  .of_unlimited rfl rfl rfl rfl rfl rfl rfl rfl

theorem setBinState_keeps {b : BinNo} {y : BinState} {s : State} (h : (s.bin b).state.Settles y) :
    Keeps s (setBin b (fun x => { x with state := y }) s) :=
  (setBinState_quiet h).keeps rfl rfl rfl rfl

theorem completeDrain_keeps (b : BinNo) (s : State) : Keeps s (completeDrain b s) :=
  (completeDrain_quiet b s).keeps (completeDrain_beltFrame b s).ports (completeDrain_banks b s)
    (completeDrain_arbiter b s) (completeDrain_mode b s)

theorem completeDrains_keeps (s : State) : Keeps s (completeDrains s) :=
  .foldl _ (fun s b => completeDrain_keeps b s) _ s

theorem drainBins_keeps (why : CloseReason) (p : BinNo → Lift → Bool) (s : State) : Keeps s (drainBins why p s) :=
  (drainBins_quiet why p s).keeps (drainBins_ports why p s) (drainBins_banks why p s) (drainBins_arbiter why p s)
    (drainBins_mode why p s)

theorem ejectionTest_keeps (s : State) : Keeps s (ejectionTest s) :=
  have frame := ejectionTest_beltFrame s
  (ejectionTest_quiet s).keeps frame.ports frame.banks frame.arbiter (ejectionTest_mode s)

theorem syncGates_keeps (s : State) : Keeps s (syncGates s) :=
  (syncGates_quiet s).keeps (syncGates_ports s) (syncGates_banks s) (syncGates_arbiter s) (syncGates_mode s)

theorem closeEvent_keeps (s : State) : Keeps s (closeEvent s) := (syncGates_keeps s).trans (ejectionTest_keeps _)

/-- The end of a drain that is over leaves no DRAIN without sheets (R167). -/
theorem endDrainIfDue_drain (s : State) : DrainHasSheets (endDrainIfDue s) := by
  rcases endDrainIfDue_cases s with ⟨-, -, e⟩ | ⟨on, e⟩ <;> rw [e]
  · have idle : (endDrain s).mode = .idle := by
      unfold endDrain setMode
      split
      · assumption
      · rfl
    exact fun drain => absurd (idle.symm.trans drain) (by decide)
  · exact fun drain => on.resolve_left fun not_drain => not_drain drain

theorem endDrainIfDue_actKeeps (s : State) : ActKeeps s (endDrainIfDue s) :=
  (endDrainIfDue_quiet s).actKeeps (endDrainIfDue_ports s) (endDrainIfDue_banks s) (endDrainIfDue_arbiter s)

/-- The end of an event makes one of the acts before it. -/
theorem ActKeeps.finish {s t : State} (h : ActKeeps s t) : Keeps s (finish t) where
  toActKeeps := (h.trans (endDrainIfDue_actKeeps t)).trans (closeEvent_keeps _).toActKeeps
  drain _ := (closeEvent_keeps _).drain (endDrainIfDue_drain t)

theorem finish_keeps (s : State) : Keeps s (finish s) := (Keeps.refl s).toActKeeps.finish

/-! ### The passages (R51) -/

theorem decisionDue_iff (s : State) (n : EntryId) :
    decisionDue s n = true
      ↔ ∃ e, findEntry n s = some e ∧ e.state = .awaitReport ∧ s.geometry.decisionDistance ≤ travelOf e s := by
  unfold decisionDue
  cases findEntry n s <;> simp

theorem windowEndDue_some {s : State} {n : EntryId} {b : BinNo} (h : windowEndDue s n = some b) :
    ∃ e, findEntry n s = some e ∧ e.landingAt b = true := by
  unfold windowEndDue at h
  split at h
  · next e found =>
    split at h
    · next c p q x lands =>
      split at h
      · split at h
        · cases h
          exact ⟨e, found, by simp [Entry.landingAt, lands]⟩
        · cases h
      · cases h
    · cases h
  · cases h

theorem redryCloseDue_found {s : State} {n : EntryId} (h : redryCloseDue s n = true) :
    ∃ e, findEntry n s = some e ∧ ∃ p q o, e.state = .toRedry p q o := by
  unfold redryCloseDue at h
  split at h
  · next e found =>
    split at h
    · next p q o state => exact ⟨e, found, p, q, o, state⟩
    · cases h
  · cases h

theorem expireDecision_actKeeps (s : State) (n : EntryId) : ActKeeps s (expireDecision s n) := by
  unfold expireDecision
  split
  · next due =>
    obtain ⟨e, found, waits, -⟩ := (decisionDue_iff s n).mp due
    exact .of_belt ((rejectEntry_beltFrame n _ _ s).trans (countMismatch_beltFrame _))
      ((rejectEntry_bounded n _ _ s).trans (countMismatch_bounded _))
      fun _ h => (h.rejectEntry found _ _ (Entry.not_aboard_of (.inl waits))).setMismatches _
  · exact (Keeps.refl s).toActKeeps

theorem expireWindow_actKeeps (s : State) (n : EntryId) : ActKeeps s (expireWindow s n) := by
  unfold expireWindow
  split
  · next b due =>
    obtain ⟨e, found, lands⟩ := windowEndDue_some due
    exact .of_belt (missEntry_beltFrame b n s) (missEntry_bounded b n s) fun d h => h.missEntry d found lands
  · exact (Keeps.refl s).toActKeeps

theorem faultBin_actKeeps (b : BinNo) (why : BinFault) (s : State) : ActKeeps s (faultBin b why s) :=
  .of_belt (faultBin_beltFrame b why s) (faultBin_bounded b why s) fun d h => h.faultBin d why

theorem dropAtBeltEnd_actKeeps (n : EntryId) (s : State) : ActKeeps s (dropAtBeltEnd n s) := by
  refine .of_belt (dropAtBeltEnd_beltFrame n s) (dropAtBeltEnd_bounded n s) fun _ h => ?_
  rcases dropAtBeltEnd_cases n s with e | ⟨x, found, rejected, -, e⟩ <;> rw [e]
  · exact h
  · exact (h.removeEntry found (Entry.not_aboard_of (.inr (.inl rejected)))).congr rfl rfl

section
variable (s : State) (n : EntryId)

/-- An event that changes one entry, in a way that concerns no bin's count, and brings the gates up to date. -/
theorem setEntry_syncGates_keeps {f : Entry → Entry} (keeps : ∀ e, (f e).id = e.id)
    (waits : ∀ e, (f e).state = .awaitReport → e.state = .awaitReport)
    (aboard : ∀ e b, (f e).aboard b = e.aboard b) (sound : ∀ e : Entry, e.Sound → (f e).Sound) :
    Keeps s (syncGates (setEntry n f s)) := by
  refine Keeps.trans ⟨.of_belt (setEntry_beltFrame n f s) (setEntry_bounded n keeps waits s)
    fun _ h => h.setEntry n aboard sound, fun h drain empty => h drain ?_⟩ (syncGates_keeps _)
  rw [← List.length_eq_zero_iff] at empty ⊢
  rwa [setEntry_tracker, updFirst_length] at empty

theorem passDecision_keeps : Keeps s (passDecision s n) :=
  .ite (fun _ => (expireDecision_actKeeps s n).finish) (fun _ => .refl s)

theorem passGateOpen_keeps : Keeps s (passGateOpen s n) := by
  refine .ite (fun _ => setEntry_syncGates_keeps s n (fun _ => rfl) (fun e => ?_) (fun e b => ?_) fun e sound => ?_)
    (fun _ => .refl s)
  · cases e.state <;> simp [EntryState.beginLanding]
  · cases h : e.state <;> simp [EntryState.beginLanding, Entry.aboard, Entry.routedTo, Entry.landingAt, h]
  · refine Entry.sound_of fun b p q => ?_
    cases e.state <;> simp [EntryState.beginLanding]

theorem passGateClose_keeps : Keeps s (passGateClose s n) := by
  refine .ite (fun _ => setEntry_syncGates_keeps s n (fun _ => rfl) (fun e => ?_) (fun e b => ?_) fun e sound b => ?_)
    (fun _ => .refl s)
  · cases e.state <;> simp [EntryState.passClose]
  · cases h : e.state <;> simp [EntryState.passClose, Entry.aboard, Entry.routedTo, Entry.landingAt, h]
  · have sound := sound b
    cases h : e.state <;> simp_all [EntryState.passClose, Entry.routedTo]

theorem passRedryOpen_keeps : Keeps s (passRedryOpen s n) := by
  refine .ite (fun _ => setEntry_syncGates_keeps s n (fun _ => rfl) (fun e => ?_) (fun e b => ?_) fun e sound b => ?_)
    (fun _ => .refl s)
  · cases e.state <;> simp [EntryState.passRedryOpen]
  · cases h : e.state <;> simp [EntryState.passRedryOpen, Entry.aboard, Entry.routedTo, Entry.landingAt, h]
  · have sound := sound b
    cases h : e.state <;> simp_all [EntryState.passRedryOpen, Entry.routedTo]

theorem passWindowEnd_keeps : Keeps s (passWindowEnd s n) :=
  .ite (fun _ => (expireWindow_actKeeps s n).finish) (fun _ => .refl s)

theorem passRedryClose_keeps : Keeps s (passRedryClose s n) := by
  refine .ite (fun due => ActKeeps.finish ?_) (fun _ => .refl s)
  obtain ⟨e, found, p, q, o, state⟩ := redryCloseDue_found due
  exact .of_belt ((removeEntry_beltFrame n s).trans (tally_beltFrame _ _))
    ((removeEntry_bounded n s).trans (tally_quiet countRedry_tallyStep _).bounded)
    fun _ h => (h.removeEntry found (Entry.not_aboard_of (.inr (.inr ⟨p, q, o, state⟩)))).congr rfl rfl

theorem passBeltEnd_keeps : Keeps s (passBeltEnd s n) :=
  .ite (fun _ => (dropAtBeltEnd_actKeeps n s).finish) (fun _ => .refl s)

theorem passesOf_keeps : Keeps s (passesOf s n) :=
  ((((((passDecision_keeps s n).trans (passGateOpen_keeps _ n)).trans (passRedryOpen_keeps _ n)).trans
    (passGateClose_keeps _ n)).trans (passWindowEnd_keeps _ n)).trans (passRedryClose_keeps _ n)).trans
    (passBeltEnd_keeps _ n)

end

theorem expireEye_actKeeps (s : State) (b : BinNo) : ActKeeps s (expireEye s b) := by
  unfold expireEye
  split
  · exact faultBin_actKeeps b .eyeStuck s
  · exact (Keeps.refl s).toActKeeps

theorem passEyeStuck_keeps (s : State) (b : BinNo) : Keeps s (passEyeStuck s b) :=
  .ite (fun _ => (expireEye_actKeeps s b).finish) (fun _ => .refl s)

theorem duePassages_keeps (s : State) : Keeps s (duePassages s) :=
  (Keeps.foldl _ passesOf_keeps _ s).trans (.foldl _ passEyeStuck_keeps _ _)

theorem nearerPassages_keeps (p : GeomParam) (old : Geometry) (s : State) : Keeps s (nearerPassages p old s) := by
  unfold nearerPassages
  split
  · split
    · exact .foldl _ passDecision_keeps _ s
    · exact .foldl _ passBeltEnd_keeps _ s
    · exact .foldl _ passWindowEnd_keeps _ s
    · exact .foldl _ passEyeStuck_keeps _ s
    · exact .refl s
  · exact .refl s

theorem timeOutEjection_keeps (s : State) : Keeps s (timeOutEjection s) := by
  unfold timeOutEjection
  split
  · exact (faultBin_actKeeps _ _ s).finish
  · exact .refl s

/-! ### Notices and the matching pass (R147, R152, R157, R180) -/

theorem setPort_keeps {p : Port} {f : PortState → PortState} {s : State} (fits : (s.port p).Fits → (f (s.port p)).Fits) :
    Keeps s (setPort p f s) := by
  refine .of_same rfl rfl rfl rfl (fun x => ?_) (fun x => x.congr rfl rfl)
  rw [reportingLimits_iff] at *
  refine ⟨fun q => ?_, x.2⟩
  rw [setPort_ports, vset_get]
  split
  · exact fits (x.1 p.idx)
  · exact x.1 q

theorem queueNotice_keeps (i : LineNo) (x : Notice) (s : State) : Keeps s (queueNotice i x s) := by
  refine setPort_keeps fun fits => ?_
  split
  · next room =>
    refine ⟨?_, fits.2⟩
    rw [List.length_append]
    exact room
  · exact fits

theorem setArbiter_keeps {f : Arbiter → Arbiter} {s : State}
    (recipes : RecipeAndPullLimits s → RecipeAndPullLimits (setArbiter f s)) : Keeps s (setArbiter f s) :=
  .of_same rfl rfl rfl rfl (fun x => x.congr rfl x.events) recipes

/-- A change of the pulls that leaves each its line. -/
theorem mapPulls_keeps {f : Arbiter → Arbiter} {g : Pull → Pull} {s : State} (line : ∀ p, (g p).line = p.line)
    (pulls : (f s.arbiter).pulls = s.arbiter.pulls.map g) (expired : (f s.arbiter).expired = s.arbiter.expired) :
    Keeps s (setArbiter f s) := by
  refine setArbiter_keeps fun x => ⟨x.rules, fun i => ?_, fun i => ?_⟩
  · have same : (fun p : Pull => p.line == i) ∘ g = fun p => p.line == i := funext fun p => by rw [Function.comp, line]
    have here := x.pulls i
    unfold pullsOf at *
    rwa [setArbiter_arbiter, pulls, List.filter_map, same, List.length_map]
  · rw [setArbiter_arbiter, expired]
    exact x.expired i

theorem assignLift_keeps (n : SlotNo) (l : Lift) (w : Pull) (s : State) : Keeps s (assignLift n l w s) := by
  unfold assignLift
  refine Keeps.trans ?_ (queueNotice_keeps _ _ _)
  refine Keeps.trans ?_ (setSlot_keeps _ _ _)
  refine mapPulls_keeps (fun p => ?_) rfl rfl
  split
  · rfl
  · split <;> rfl

theorem matchSlot_keeps (s : State) (n : SlotNo) : Keeps s (matchSlot s n) := by
  rcases matchSlot_cases s n with ⟨-, e⟩ | ⟨l, -, -, e⟩ | ⟨l, w, -, -, e⟩ <;> rw [e]
  · exact .refl s
  · exact .refl s
  · exact assignLift_keeps n l w s

theorem matchingPass_keeps (s : State) : Keeps s (matchingPass s) := .foldl _ matchSlot_keeps _ s

theorem endPull_keeps (i : LineNo) (number : Nat) (s : State) : Keeps s (endPull i number s) := by
  refine setArbiter_keeps fun x => ⟨x.rules, fun j => ?_, x.expired⟩
  exact ((List.eraseP_sublist.filter _).length_le).trans (x.pulls j)

theorem returnLift_keeps (n : SlotNo) (l : Lift) (s : State) : Keeps s (returnLift n l s) := setSlot_keeps _ _ s

theorem rememberExpired_length {number : Nat} {l : List Nat} (h : l.length ≤ Config.maxExpired) :
    (rememberExpired number l).length ≤ Config.maxExpired := by
  unfold rememberExpired
  split
  · next room => rw [List.length_append]; exact room
  · next full =>
    rw [List.length_append, List.length_tail, List.length_singleton]
    unfold Config.maxExpired at *
    omega

theorem expireHandover_keeps (i : LineNo) (s : State) : Keeps s (expireHandover i s) := by
  unfold expireHandover
  split
  · next p n l handover =>
    refine Keeps.trans ?_ (matchingPass_keeps _)
    refine Keeps.trans ?_ (raise_keeps _ _)
    refine Keeps.trans ?_ (queueNotice_keeps _ _ _)
    refine ((endPull_keeps i p.number s).trans (returnLift_keeps n l _)).trans (setArbiter_keeps fun x => ?_)
    refine ⟨x.rules, x.pulls, fun j => ?_⟩
    rw [setArbiter_arbiter, vset_get]
    split
    · exact rememberExpired_length (x.expired i)
    · exact x.expired j
  · exact .refl s

/-! ### One millisecond (R136, R155, R157, R176) -/

theorem discardFrame_fits {q : PortState} (h : q.Fits) : (discardFrame q).Fits := ⟨h.1, Nat.min_le_left _ _⟩

theorem gapDiscard_fits {q : PortState} (h : q.Fits) : (gapDiscard q).Fits := by
  unfold gapDiscard
  split
  · exact h
  · exact discardFrame_fits h

theorem tickPort_fits {q : PortState} (h : q.Fits) : (tickPort q).Fits := by
  unfold tickPort
  dsimp only
  split
  · exact gapDiscard_fits h
  · exact h

theorem tickTimers_keeps (s : State) : Keeps s (tickTimers s) := by
  have pulls : Keeps s (setArbiter (fun a => { a with pulls := a.pulls.map tickPull }) s) :=
    mapPulls_keeps (fun p => by unfold tickPull; split <;> rfl) rfl rfl
  refine pulls.trans (.of_same rfl rfl rfl rfl (fun x => ?_) (fun x => x.congr rfl rfl))
  rw [reportingLimits_iff] at *
  refine ⟨fun p => ?_, x.2⟩
  have ticked : (tickTimers s).ports[p] = tickPort s.ports[p] := vmap_get _ _ _
  rw [ticked]
  exact tickPort_fits (x.1 p)

theorem settleHandover_keeps (s : State) (i : LineNo) : Keeps s (settleHandover s i) :=
  .ite (fun _ => expireHandover_keeps i s) (fun _ => .refl s)

theorem tick_keeps (s : State) : Keeps s (tick s) :=
  ((tickTimers_keeps s).trans (.ite (fun _ => timeOutEjection_keeps _) (fun _ => .refl _))).trans
    (.foldl _ settleHandover_keeps _ _)

/-! ### Landed eyes, ejections and slots -/

theorem landedEdge_actKeeps (b : BinNo) (s : State) : ActKeeps s (landedEdge b s) :=
  .of_belt (landedEdge_beltFrame b s) (landedEdge_bounded b s) fun d h => h.landedEdge d

/-- A change of a bin's record outside its state and its suspicion count. -/
theorem setBinEye_keeps (b : BinNo) (m : Option Travel) (s : State) :
    Keeps s (setBin b (fun x => { x with eyeMark := m }) s) :=
  (setBin_quiet (.refl _) id).keeps rfl rfl rfl rfl

theorem completeEjection_keeps (b : BinNo) (n : SlotNo) (s : State) : Keeps s (completeEjection b n s) := by
  unfold completeEjection
  split
  · next l ejects =>
    refine Keeps.trans ?_ (closeEvent_keeps _)
    refine Keeps.trans ?_ (matchingPass_keeps _)
    exact ((storeLift_quiet n ejects).keeps rfl rfl rfl rfl).trans (raise_keeps _ _)
  · exact .refl s

theorem takenRemoval_keeps (n : SlotNo) (l : Lift) (p : Pull) (s : State) : Keeps s (takenRemoval n l p s) := by
  unfold takenRemoval
  refine Keeps.trans ?_ (closeEvent_keeps _)
  refine Keeps.trans ?_ (matchingPass_keeps _)
  refine Keeps.trans ?_ (tally_keeps countTaken_tallyStep _)
  refine Keeps.trans ?_ (raise_keeps _ _)
  refine Keeps.trans ?_ (queueNotice_keeps _ _ _)
  exact (endPull_keeps p.line p.number s).trans (setSlot_keeps _ _ _)

theorem unclaimedRemoval_keeps (n : SlotNo) (l : Lift) (s : State) : Keeps s (unclaimedRemoval n l s) := by
  unfold unclaimedRemoval
  refine Keeps.trans ?_ (closeEvent_keeps _)
  refine Keeps.trans ?_ (tally_keeps countUnclaimed_tallyStep _)
  exact (setSlot_keeps n _ s).trans (raise_keeps _ _)

end Sys2Proof.Machine
end

section
/-! SUPPORT. Every command but three keeps every limit (R28, R57, R68, R69, R95, R118, R147, R157, R167, R172, R176, R180,
R181): the taking of a request and its reply, then each command in turn. The leading edge of the entry eye enters a
sheet, the travel pulse counts a millimetre, and a full reset starts anew. -/

namespace Sys2Proof.Machine

/-! ### The taking of a request, and its one reply (R177) -/

theorem hasPlace_congr {s t : State} (ports : t.ports = s.ports) (p : Port) : t.hasPlace p = s.hasPlace p := by
  unfold State.hasPlace State.port
  rw [ports]

theorem queueReply_keeps {p : Port} {s : State} (room : s.hasPlace p = true) (k : EchoKind) (tag : Byte) (x : ReplyBody) :
    Keeps s (queueReply p k tag x s) := by
  refine setPort_keeps fun fits => ⟨?_, fits.2⟩
  rw [List.length_append]
  exact of_decide_eq_true room

theorem freeBuffer_keeps (p : Port) (s : State) : Keeps s (freeBuffer p s) := setPort_keeps id

theorem freeBuffer_hasPlace (p : Port) (s : State) : (freeBuffer p s).hasPlace p = s.hasPlace p := by
  unfold State.hasPlace State.port
  rw [freeBuffer_ports, vset_get_self]

section
variable {r : Req} {k : ReqKind} {s : State} (room : s.hasPlace r.port = true)
include room

theorem done_keeps (x : Result) : Keeps s (done r k x s) := queueReply_keeps room _ _ _

theorem refuse_keeps (why : RefusalReason) : Keeps s (refuse r k why s) := queueReply_keeps room _ _ _

theorem refuseWith_keeps (f : FailureReport) : Keeps s (refuseWith r k f s) := queueReply_keeps room _ _ _

theorem refuseRecorded_keeps (why : RefusalReason) (target : Option Target) :
    Keeps s (refuseRecorded r k why target s) :=
  Keeps.trans (t := { s with refusal := some ⟨r.port, k, target⟩ }) (.of_unlimited rfl rfl rfl rfl rfl rfl rfl rfl)
    (refuse_keeps (s := { s with refusal := some ⟨r.port, k, target⟩ }) room why)

/-- A DONE reply after an act that leaves the ports alone. -/
theorem Keeps.done {t : State} (h : Keeps s t) (ports : t.ports = s.ports) (x : Result) : Keeps s (done r k x t) :=
  h.trans (done_keeps (by rwa [hasPlace_congr ports]) x)

theorem ActKeeps.done {t : State} (h : ActKeeps s t) (ports : t.ports = s.ports) (x : Result) :
    ActKeeps s (Machine.done r k x t) :=
  h.trans (done_keeps (by rwa [hasPlace_congr ports]) x).toActKeeps

end

section
variable {r : Req} {k : ReqKind} {c : Instr} {s : State} {f : State → State}

theorem takeFrame_keeps {p : Port} {test : Frame → Bool} (h : ∀ t : State, t.hasPlace p = true → Keeps t (f t)) :
    Keeps s (takeFrame p test f s) := by
  rcases takeFrame_cases p test f s with ⟨⟨room, -⟩, e⟩ | ⟨-, e⟩ <;> rw [e]
  · exact (freeBuffer_keeps p s).trans (h _ (by rwa [freeBuffer_hasPlace]))
  · exact .refl s

variable (h : ∀ t : State, t.hasPlace r.port = true → Keeps t (f t))
include h

theorem take_keeps : Keeps s (take r k c f s) := takeFrame_keeps h

theorem serve_keeps {g : Option Target} : Keeps s (serve r k c g f s) :=
  take_keeps fun t room =>
    .ite (fun _ => .ite (fun _ => h t room) fun _ => refuse_keeps room _) fun _ => refuseRecorded_keeps room _ _

theorem serveWrite_keeps : Keeps s (serveWrite r k c f s) :=
  take_keeps fun t room =>
    .ite (fun _ => .ite (fun _ => refuseRecorded_keeps room _ _)
      fun _ => .ite (fun _ => h t room) fun _ => refuse_keeps room _) fun _ => refuseRecorded_keeps room _ _

end

theorem serveQuery_keeps (r : Req) (c : Instr) (x : Subject) (first : Nat) (count : State → Nat)
    (data : State → QueryData) (s : State) : Keeps s (serveQuery r c x first count data s) :=
  take_keeps fun _ room =>
    .ite (fun _ => .ite (fun _ => done_keeps room _) fun _ => refuse_keeps room _) fun _ => refuseRecorded_keeps room _ _

/-- Every next state that an outcome answers keeps the limits. -/
def OutcomeKeeps (s : State) (o : Host.Outcome State Fault Refusal) : Prop := ∀ t, o = .next t → Keeps s t

theorem OutcomeKeeps.next {s t : State} (h : Keeps s t) : OutcomeKeeps s (.next t) := by
  rintro _ ⟨⟩
  exact h

theorem OutcomeKeeps.fault {s : State} (why : Fault) : OutcomeKeeps s (.fault why) := by
  rintro _ ⟨⟩

/-! ### The recipe banks (chapter 2) -/

theorem withBanks_keeps {b : Banks} {s : State}
    (rules : (∀ k : BankNo, s.banks.bank[k].rules.length ≤ Config.maxRules) →
      ∀ k : BankNo, b.bank[k].rules.length ≤ Config.maxRules) : Keeps s { s with banks := b } :=
  .of_same rfl rfl rfl rfl (fun x => x.congr rfl x.events) fun x => ⟨rules x.rules, x.pulls, x.expired⟩

/-- A move of the banks that leaves every bank's contents. -/
theorem withBanks_contents_keeps {b : Banks} {s : State}
    (contents : ∀ k : BankNo, b.bank[k].contents = s.banks.bank[k].contents) : Keeps s { s with banks := b } := by
  refine withBanks_keeps fun rules k => ?_
  have same := congrArg (fun x => x.rules.length) (contents k)
  exact same.trans_le (rules k)

theorem Banks.switch_contents (j k : BankNo) (b : Banks) : (b.switch k).bank[j].contents = b.bank[j].contents := by
  unfold switch
  cases b.active with
  | none => exact setState_contents j k .active b
  | some i => exact (setState_contents j k .active (b.setState i .valid)).trans (setState_contents j i .valid b)

section
variable {r : Req} {k : ReqKind} {s : State} (room : s.hasPlace r.port = true)
include room

/-- An accepted bank write of a rule list within its limit. -/
theorem storeBank_keeps {b : Bank}
    (rules : s.editBank.rules.length ≤ Config.maxRules → b.rules.length ≤ Config.maxRules) :
    Keeps s (storeBank r k b s) := by
  refine Keeps.done room (t := { s with banks := { s.banks with bank := vset s.banks.bank s.banks.edit b } })
    (withBanks_keeps fun x j => ?_) rfl _
  rw [vset_get]
  split
  · exact rules (x s.banks.edit)
  · exact x j

end

theorem placeRule_length {rules : List GradeRule} {pos : Nat} (g : GradeRule) (last : pos ≤ 11)
    (h : rules.length ≤ Config.maxRules) (place : pos ≤ rules.length) : (placeRule rules pos g).length ≤ Config.maxRules := by
  unfold placeRule Config.maxRules at *
  split
  · rwa [List.length_set]
  · rw [List.length_append, List.length_singleton]
    omega

section
variable (r : Req) (s : State)

theorem execSelectBank_keeps (n : Nat) : OutcomeKeeps s (execSelectBank r n s) := by
  refine .next (serve_keeps fun t room => ?_)
  split
  · refine Keeps.done room ?_ ?_ _
    · exact withBanks_contents_keeps fun _ => rfl
    · rfl
  · exact refuse_keeps room _

theorem execWriteClasses_keeps (l : List (Option ClassRange)) : OutcomeKeeps s (execWriteClasses r l s) := by
  refine .next (serveWrite_keeps fun t room => ?_)
  split
  · exact storeBank_keeps room id
  · exact refuse_keeps room _

theorem execWriteWeights_keeps (l : List Byte) : OutcomeKeeps s (execWriteWeights r l s) := by
  refine .next (serveWrite_keeps fun t room => ?_)
  split
  · exact storeBank_keeps room id
  · exact refuse_keeps room _

theorem execWriteLimits_keeps (x w : Nat) : OutcomeKeeps s (execWriteLimits r x w s) :=
  .next (serveWrite_keeps fun _ room => .ite (fun _ => storeBank_keeps room id) fun _ => refuse_keeps room _)

theorem execWriteGrade_keeps (pos : Nat) (g : GradeRule) : OutcomeKeeps s (execWriteGrade r pos g s) := by
  refine .next (serveWrite_keeps fun t room => .ite (fun formed => storeBank_keeps room fun length => ?_)
    fun _ => refuse_keeps room _)
  obtain ⟨last, place⟩ := ((gradeWriteFormed_iff _ _ _).mp formed).position
  exact placeRule_length g last length place

theorem execDeleteGrade_keeps (pos : Nat) : OutcomeKeeps s (execDeleteGrade r pos s) :=
  .next (serveWrite_keeps fun _ room =>
    .ite (fun _ => storeBank_keeps room fun length => (List.length_eraseIdx_le _ _).trans length)
      fun _ => refuse_keeps room _)

theorem execClearBank_keeps : OutcomeKeeps s (execClearBank r s) :=
  .next (serveWrite_keeps fun _ room => storeBank_keeps room fun _ => Nat.zero_le _)

theorem execReadBank_keeps (n : Nat) : OutcomeKeeps s (execReadBank r n s) := by
  refine .next (serve_keeps fun t room => ?_)
  split
  · exact done_keeps room _
  · exact refuse_keeps room _

theorem execReadGrade_keeps (n pos : Nat) : OutcomeKeeps s (execReadGrade r n pos s) := by
  refine .next (serve_keeps fun t room => ?_)
  split
  · split
    · exact .ite (fun _ => done_keeps room _) fun _ => refuse_keeps room _
    · exact refuse_keeps room _
  · exact refuse_keeps room _

theorem execValidate_keeps (n : Nat) : OutcomeKeeps s (execValidate r n s) := by
  refine .next (serve_keeps fun t room => ?_)
  split
  · next k _ =>
    split
    · exact refuseWith_keeps room _
    · refine Keeps.done room ?_ ?_ _
      · exact withBanks_contents_keeps fun j => Banks.setState_contents j k _ t.banks
      · rfl
  · exact refuse_keeps room _

theorem execActivate_keeps (n : Nat) : OutcomeKeeps s (execActivate r n s) := by
  refine .next (serve_keeps fun t room => ?_)
  split
  · next k _ =>
    refine .ite (fun _ => done_keeps room _) fun _ => ?_
    split
    · exact refuseWith_keeps room _
    · refine Keeps.trans (Keeps.done room ?_ ?_ _) (closeEvent_keeps _)
      · have switched : Keeps t (switchBank k t) := by
          rw [switchBank_eq]
          exact withBanks_contents_keeps fun j => Banks.switch_contents j k t.banks
        exact (switched.trans (drainBins_keeps _ _ _)).trans (completeDrains_keeps _)
      · rw [completeDrains_ports, drainBins_ports, switchBank_eq]
  · exact refuse_keeps room _

/-! ### Geometry, and the modes (chapters 4 and 9) -/

theorem execWriteGeometry_keeps (p : GeomParam) (v : Option Nat) : OutcomeKeeps s (execWriteGeometry r p v s) := by
  refine .next (serve_keeps fun t room => .ite (fun _ => refuse_keeps room _) fun _ =>
    .ite (fun _ => refuse_keeps room _) fun _ => ?_)
  dsimp only
  split
  · exact refuseWith_keeps room _
  · refine Keeps.trans (Keeps.done room ?_ ?_ _) (nearerPassages_keeps _ _ _)
    · exact .of_unlimited rfl rfl rfl rfl rfl rfl rfl rfl
    · rfl

theorem setMode_actKeeps (m : SortMode) (s : State) : ActKeeps s (setMode m s) := by
  have ports : (setMode m s).ports = s.ports := by unfold setMode; split <;> rfl
  have arbiter : (setMode m s).arbiter = s.arbiter := by unfold setMode; split <;> rfl
  exact (setMode_quiet m s).actKeeps ports (setMode_banks m s) arbiter

@[simp] theorem setMode_ports (m : SortMode) (s : State) : (setMode m s).ports = s.ports := by
  unfold setMode
  split <;> rfl

theorem setMode_mode (m : SortMode) (s : State) : (setMode m s).mode = m := by
  unfold setMode
  split
  · assumption
  · rfl

/-- A mode other than DRAIN, set after an act. -/
theorem ActKeeps.setMode {s t : State} (h : ActKeeps s t) {m : SortMode} (live : m ≠ .drain) :
    Keeps s (Machine.setMode m t) :=
  ⟨h.trans (setMode_actKeeps m t), fun _ drain => absurd ((setMode_mode m t).symm.trans drain) live⟩

theorem execStart_keeps : OutcomeKeeps s (execStart r s) := by
  refine .next (serve_keeps fun t room => ?_)
  have runs : Keeps t (done r .start (.mode .run) (setMode .run t)) :=
    Keeps.done room ((Keeps.refl t).toActKeeps.setMode (by decide)) (setMode_ports _ _) _
  split
  · exact refuse_keeps room _
  · exact runs
  · exact .ite (fun _ => refuse_keeps room _) fun _ => runs

theorem execDrain_keeps : OutcomeKeeps s (execDrain r s) := by
  refine .next (serve_keeps fun t room => .ite (fun _ => ?_) fun _ => refuse_keeps room _)
  refine Keeps.trans (Keeps.done room ⟨?_, fun _ => endDrainIfDue_drain _⟩ ?_ _) (closeEvent_keeps _)
  · exact (setMode_actKeeps .drain t).trans (endDrainIfDue_actKeeps _)
  · rw [endDrainIfDue_ports, setMode_ports]

end

/-- The queue that STOP and RESTART discard, with the entry eye (R169, steps 1 and 2). -/
def queueEmptied (s : State) : State :=
  setTracker
    (fun t =>
      { t with
        queue := []
        eye := if t.eye == .blockedTracked then .blockedUntracked else t.eye })
    (tally (fun t => t.countReject .modeStop s.tracker.queue.length) s)

/-- The bins as STOP and RESTART leave them before the drains: no suspicion and nothing in flight (R169, step 4). -/
def flightsCleared (s : State) : State :=
  { s with
    bins :=
      vmap
        (fun _ x =>
          { x with
            suspicion := 0
            state := x.state.mapLift (fun l => { l with inFlight := 0 }) }) s.bins }

theorem discardQueue_eq (s : State) :
    discardQueue s = completeDrains (syncGates (flightsCleared (setMismatches 0 (queueEmptied s)))) := rfl

theorem flightsCleared_bin (s : State) (b : BinNo) :
    (flightsCleared s).bin b
      = { s.bin b with
          suspicion := 0
          state := (s.bin b).state.mapLift (fun l => { l with inFlight := 0 }) } := by
  simp only [State.bin, flightsCleared, vmap_get]

theorem BinState.flying_zero (x : BinState) : (x.mapLift (fun l => { l with inFlight := 0 })).flying = 0 := by
  cases x with
  | faulted why l => cases l <;> rfl
  | _ => rfl

theorem setMismatches_zero_tracker (s : State) : (setMismatches 0 s).tracker = { s.tracker with mismatches := 0 } := by
  rw [setMismatches_zero]

theorem queueEmptied_leave (s : State) : EntriesLeave s (queueEmptied s) := by
  refine ⟨List.nil_sublist _, fun _ => ⟨fun _ tracked _ _ => ?_, fun _ _ mem => absurd mem List.not_mem_nil, fun other => ?_⟩⟩
  · have eye : (queueEmptied s).tracker.eye
        = if s.tracker.eye == .blockedTracked then .blockedUntracked else s.tracker.eye := rfl
    rw [eye, tracked]
    rfl
  · have eye : (queueEmptied s).tracker.eye
        = if s.tracker.eye == .blockedTracked then .blockedUntracked else s.tracker.eye := rfl
    rw [eye, if_neg (by simpa using other)]

theorem queueEmptied_beltFrame (s : State) : BeltFrame s (queueEmptied s) :=
  (tally_beltFrame (fun t => t.countReject .modeStop s.tracker.queue.length) s).trans
    ⟨rfl, rfl, rfl, rfl, rfl, rfl, rfl, rfl, rfl, rfl, rfl, fun _ => rfl, fun _ => rfl, .inl rfl⟩

theorem queueEmptied_bounded (s : State) : Bounded s (queueEmptied s) where
  leave := queueEmptied_leave s
  mismatches := id
  suspicion := id
  events := id
  tallies x := (countReject_tallyStep .modeStop s.tracker.queue.length s x).congr rfl
  swept _ _ _ _ mem := absurd mem List.not_mem_nil

theorem flightsCleared_beltFrame (s : State) : BeltFrame s (flightsCleared s) := mapBins_beltFrame _ s fun _ _ => rfl

theorem flightsCleared_bounded (s : State) : Bounded s (flightsCleared s) where
  leave := .of_tracker rfl
  mismatches := id
  suspicion _ b := by rw [flightsCleared_bin]; exact Nat.zero_le 3
  events := id
  tallies x := x.congr rfl
  swept _ x := x.congr rfl

theorem discardQueue_beltFrame (s : State) : BeltFrame s (discardQueue s) := by
  rw [discardQueue_eq]
  exact ((((queueEmptied_beltFrame s).trans (setMismatches_beltFrame 0 _)).trans (flightsCleared_beltFrame _)).trans
    (syncGates_beltFrame _)).trans (completeDrains_beltFrame _)

theorem discardQueue_actKeeps (s : State) : ActKeeps s (discardQueue s) := by
  refine .of_belt (discardQueue_beltFrame s) ?_ fun _ _ => ?_ <;> rw [discardQueue_eq]
  · exact ((((queueEmptied_bounded s).trans (setMismatches_bounded (Nat.zero_le 3) _)).trans
      (flightsCleared_bounded _)).trans (syncGates_quiet _).bounded).trans (completeDrains_quiet _).bounded
  · have emptied : (flightsCleared (setMismatches 0 (queueEmptied s))).tracker.queue = [] :=
      congrArg Tracker.queue (setMismatches_zero_tracker (queueEmptied s))
    refine (completeDrains_quiet _).flights ((syncGates_quiet _).flights ⟨fun b => ?_, fun b _ _ => ?_, ?_⟩)
    · rw [emptied, flightsCleared_bin]
      exact (BinState.flying_zero _).symm
    · rw [flightsCleared_bin]
      exact BinState.flying_zero _
    · rw [emptied]
      nofun

section
variable (r : Req) (s : State)

theorem execStop_keeps : OutcomeKeeps s (execStop r s) := by
  refine .next (serve_keeps fun t room => .ite (fun _ => refuse_keeps room _) fun _ => ?_)
  refine Keeps.trans (Keeps.done room ((discardQueue_actKeeps t).setMode (by decide)) ?_ _) (closeEvent_keeps _)
  rw [setMode_ports, (discardQueue_beltFrame t).ports]

/-- The arbiter without pulls and without memory of any (R162). -/
theorem noPulls_keeps (s : State) :
    Keeps s (setArbiter (fun a => { a with pulls := [], expired := Vector.replicate 4 [] }) s) := by
  refine setArbiter_keeps fun x => ⟨x.rules, fun i => ?_, fun i => ?_⟩
  · rw [pullsOf, setArbiter_arbiter, List.filter_nil]
    exact Nat.zero_le _
  · rw [setArbiter_arbiter]
    exact (congrArg List.length (Vector.getElem_replicate i.isLt)).trans_le (Nat.zero_le _)

theorem discardPulls_keeps (s : State) : Keeps s (discardPulls s) := by
  unfold discardPulls
  refine Keeps.trans ?_ (noPulls_keeps _)
  exact .of_unlimited rfl rfl rfl rfl rfl rfl rfl rfl

theorem emptyQueues_port (s : State) (p : Fin 6) :
    (emptyQueues s).ports[p] = { s.ports[p] with queue := [], lost := p != Port.setup.idx } := by
  simp only [emptyQueues, vmap_get]

theorem emptyQueues_keeps (s : State) : Keeps s (emptyQueues s) := by
  refine .of_same rfl rfl rfl rfl (fun x => ?_) fun x => x.congr rfl rfl
  rw [reportingLimits_iff] at *
  refine ⟨fun p => ?_, x.2⟩
  rw [emptyQueues_port]
  exact ⟨Nat.zero_le _, (x.1 p).2⟩

theorem emptyQueues_hasPlace (s : State) (p : Port) : (emptyQueues s).hasPlace p = true := by
  unfold State.hasPlace State.port
  rw [emptyQueues_port]
  rfl

theorem execRestart_keeps : OutcomeKeeps s (execRestart r s) := by
  refine .next (serve_keeps fun t room => ?_)
  refine Keeps.trans ?_ (closeEvent_keeps _)
  have stopped : Keeps t (setMode .idle (discardPulls (discardQueue t))) :=
    ((discardQueue_actKeeps t).trans (discardPulls_keeps _).toActKeeps).setMode (by decide)
  exact (stopped.trans (emptyQueues_keeps _)).trans (done_keeps (emptyQueues_hasPlace _ _) _)

theorem zero_tallyLimits {s : State} (zero : s.tallies = Tallies.zero) : TallyLimits s := by
  have none_counted {n : Nat} (i : Fin n) : (Vector.replicate n 0)[i] ≤ Config.tallyMax :=
    (Vector.getElem_replicate i.isLt).trans_le (Nat.zero_le _)
  constructor <;> rw [zero]
  case landed => exact none_counted
  case rejects => exact none_counted
  case closed => exact none_counted
  all_goals exact Nat.zero_le _

theorem execTallyRead_keeps (bank : Option Nat) : OutcomeKeeps s (execTallyRead r bank s) := by
  refine .next (serve_keeps fun t room => ?_)
  split
  · exact done_keeps room _
  · split
    · exact done_keeps room _
    · exact refuse_keeps room _

theorem execTallyClear_keeps : OutcomeKeeps s (execTallyClear r s) := by
  refine .next (serve_keeps fun t room => ?_)
  have cleared : Quiet t { t with tallies := Tallies.zero } :=
    ⟨rfl, fun _ => .refl _, fun _ => id, id, fun _ => zero_tallyLimits rfl⟩
  exact Keeps.done room (cleared.keeps rfl rfl rfl rfl) rfl _

end

end Sys2Proof.Machine
end

section
/-! SUPPORT. The commands on the bins, the slots, the settings, the pulls and the links, and the events of the belt, all
within their limits; then every command but three, and the statements about the travel counter and the limits. -/

namespace Sys2Proof.Machine

/-! ### The bins (chapters 5 and 6) -/

section
variable {b : BinNo} {s : State}

theorem setBin_state_self (f : Bin → Bin) (b : BinNo) (s : State) : ((setBin b f s).bin b).state = (f (s.bin b)).state := by
  rw [setBin_bin, if_pos rfl]

theorem closeShort_keeps {l : Lift} (fills : (s.bin b).state = .filling l) : Keeps s (closeShort b l s) :=
  (setBinState_keeps (fills ▸ .of_takes rfl rfl)).trans (completeDrain_keeps b _)

theorem closeShort_ports (b : BinNo) (l : Lift) (s : State) : (closeShort b l s).ports = s.ports :=
  (completeDrain_beltFrame b _).ports

theorem takeOffline_keeps (away : (s.bin b).state.takesSheets = false) : Keeps s (takeOffline b s) :=
  (setBin_quiet (.of_empty (.inl away) fun _ => rfl) fun _ => Nat.zero_le 3).keeps rfl rfl rfl rfl

theorem clearFaulted_keeps {r : Req} (room : s.hasPlace r.port = true) {why : BinFault} {lift : Option Lift}
    (faulted : (s.bin b).state = .faulted why lift) : Keeps s (clearFaulted r b lift s) := by
  have unsuspected : Keeps s (setBin b (fun x => { x with suspicion := 0 }) s) :=
    (setBin_quiet (.refl _) fun _ => Nat.zero_le 3).keeps rfl rfl rfl rfl
  have state : ((setBin b (fun x => { x with suspicion := 0 }) s).bin b).state = .faulted why lift :=
    (setBin_state_self _ b s).trans faulted
  have room' : (setBin b (fun x => { x with suspicion := 0 }) s).hasPlace r.port = true := room
  unfold clearFaulted
  generalize setBin b (fun x => { x with suspicion := 0 }) s = t at *
  have cleared {y : BinState} (still : (BinState.faulted why lift).flying = 0 → y.flying = 0) :
      (t.bin b).state.Settles y := state ▸ .of_empty (.inl rfl) still
  refine unsuspected.trans ?_
  split
  · exact (setBinState_keeps (cleared fun _ => rfl)).done room' rfl _
  · next l =>
    refine .ite (fun _ => .ite (fun _ => ?_) fun _ => ?_) fun _ => ?_
    · exact ((discardLift_quiet _ l (cleared fun _ => rfl)).keeps rfl rfl rfl rfl).done room' rfl _
    · exact ((closeLift_quiet (why := .fault) fun _ => cleared id).keeps rfl rfl rfl rfl).done room' rfl _
    · exact ((waitForOutfeed_quiet (cleared id)).keeps rfl rfl rfl rfl).done room' rfl _

end

/-- The choice of FORCE_CLOSE is one of the candidates. -/
theorem mostLanded_mem {l : List (BinNo × Lift)} {x : BinNo × Lift} (h : mostLanded l = some x) : x ∈ l := by
  induction l generalizing x with
  | nil => cases h
  | cons y rest ih =>
    unfold mostLanded at h
    split at h
    · cases h; exact List.mem_cons_self
    · next z chosen =>
      split at h
      · cases h; exact List.mem_cons_of_mem _ (ih chosen)
      · cases h; exact List.mem_cons_self

/-- FORCE_CLOSE chooses a FILLING bin with its lift (R126). -/
theorem forceChoice_filling {s : State} {code : Nat} {cls : Option Nat} {b : BinNo} {l : Lift}
    (h : forceChoice s code cls = some (b, l)) : (s.bin b).state = .filling l := by
  unfold forceChoice at h
  split at h
  · cases h
  · split at h
    · cases h
    · obtain ⟨c, -, candidate⟩ := List.mem_filterMap.mp (mostLanded_mem h)
      unfold forceCandidate at candidate
      split at candidate
      · next m fills =>
        split at candidate <;> cases candidate
        exact fills
      · cases candidate

section
variable (r : Req) (s : State)

theorem execClearBin_keeps (n : Nat) : OutcomeKeeps s (execClearBin r n s) := by
  refine .next (serve_keeps fun t room => ?_)
  split
  · exact refuse_keeps room _
  · split
    · next faulted =>
      exact .ite (fun _ => refuse_keeps room _) fun _ => (clearFaulted_keeps room faulted).trans (closeEvent_keeps _)
    · exact refuse_keeps room _

theorem execBinOnline_keeps (n : Nat) : OutcomeKeeps s (execBinOnline r n s) := by
  refine .next (serve_keeps fun t room => ?_)
  split
  · exact refuse_keeps room _
  · next b _ =>
    refine .ite (fun _ => refuse_keeps room _) fun offline => .ite (fun _ => refuse_keeps room _) fun _ => ?_
    have state : (t.bin b).state = .offline := by
      by_contra other
      exact offline (.inl other)
    have readied : Quiet t (setBin b (fun x => { x with state := .ready, suspicion := 0, gate := false }) t) :=
      setBin_quiet (state ▸ .of_empty (.inl rfl) fun _ => rfl) fun _ => Nat.zero_le 3
    exact (readied.keeps rfl rfl rfl rfl).done room rfl _

theorem execBinOffline_keeps (n : Nat) : OutcomeKeeps s (execBinOffline r n s) := by
  refine .next (serve_keeps fun t room => ?_)
  split
  · exact refuse_keeps room _
  · next b _ =>
    split
    · next ready => exact (takeOffline_keeps (ready ▸ rfl)).done room rfl _
    · next faulted => exact (takeOffline_keeps (faulted ▸ rfl)).done room rfl _
    · next why l faulted =>
      have offline : ((takeOffline b t).bin b).state = .offline := setBin_state_self _ b t
      have discarded : Quiet (takeOffline b t) (discardLift b .binOffline l .offline (takeOffline b t)) :=
        discardLift_quiet _ l (offline ▸ .refl _)
      exact ((takeOffline_keeps (faulted ▸ rfl)).trans (discarded.keeps rfl rfl rfl rfl)).done room rfl _
    · exact refuse_keeps room _

theorem execCloseBin_keeps (n : Nat) : OutcomeKeeps s (execCloseBin r n s) := by
  refine .next (serve_keeps fun t room => ?_)
  split
  · exact refuse_keeps room _
  · split
    · next fills => exact ((closeShort_keeps fills).done room (closeShort_ports _ _ t) _).trans (closeEvent_keeps _)
    · exact refuse_keeps room _

theorem execForceClose_keeps (code : Nat) (cls : Option Nat) : OutcomeKeeps s (execForceClose r code cls s) := by
  refine .next (take_keeps fun t room => ?_)
  split
  · refine .ite (fun _ => refuseRecorded_keeps room _ _) fun _ => .ite (fun _ => refuse_keeps room _) fun _ => ?_
    split
    · exact refuse_keeps room _
    · next b l choice =>
      exact ((closeShort_keeps (forceChoice_filling choice)).done room (closeShort_ports _ _ t) _).trans
        (closeEvent_keeps _)
  · exact refuseRecorded_keeps room _ _

/-! ### The outfeed and the slots (chapter 7) -/

theorem execWriteEjectTimeout_keeps (n : Nat) : OutcomeKeeps s (execWriteEjectTimeout r n s) := by
  refine .next (serve_keeps fun t room => .ite (fun _ => ?_) fun _ => refuse_keeps room _)
  refine Keeps.done room ?_ ?_ _
  · exact .of_unlimited rfl rfl rfl rfl rfl rfl rfl rfl
  · rfl

theorem execClearOutfeed_keeps : OutcomeKeeps s (execClearOutfeed r s) := by
  refine .next (serve_keeps fun t room => .ite (fun _ => ?_) fun _ => refuse_keeps room _)
  refine Keeps.trans (Keeps.done room ?_ ?_ _) (closeEvent_keeps _)
  · exact .of_unlimited rfl rfl rfl rfl rfl rfl rfl rfl
  · rfl

theorem execSlotOnline_keeps (n : Nat) : OutcomeKeeps s (execSlotOnline r n s) := by
  refine .next (serve_keeps fun t room => ?_)
  split
  · exact refuse_keeps room _
  · exact .ite (fun _ => refuse_keeps room _) fun _ => .ite (fun _ => refuse_keeps room _) fun _ =>
      ((setSlot_keeps _ _ t).done room rfl _).trans (closeEvent_keeps _)

theorem execSlotOffline_keeps (n : Nat) : OutcomeKeeps s (execSlotOffline r n s) := by
  refine .next (serve_keeps fun t room => ?_)
  split
  · exact refuse_keeps room _
  · exact .ite (fun _ => (setSlot_keeps _ _ t).done room rfl _) fun _ => refuse_keeps room _

theorem execClearSlot_keeps (n : Nat) : OutcomeKeeps s (execClearSlot r n s) := by
  refine .next (serve_keeps fun t room => ?_)
  split
  · exact refuse_keeps room _
  · exact .ite (fun _ => refuse_keeps room _) fun _ => .ite (fun _ => refuse_keeps room _) fun _ =>
      ((setSlot_keeps _ _ t).done room rfl _).trans (closeEvent_keeps _)

theorem execSlotEyeBlocked_keeps (n : SlotNo) : OutcomeKeeps s (execSlotEyeBlocked n s) := by
  refine .next (.ite (fun _ => .refl s) fun _ => ?_)
  have blocked := setSlot_keeps n (fun x => { x with eye := true }) s
  dsimp only
  split
  · exact (blocked.trans (setSlot_keeps _ _ _)).trans (raise_keeps _ _)
  · exact blocked.trans (completeEjection_keeps _ n _)
  · exact blocked

theorem execSlotEyeClears_keeps (n : SlotNo) : OutcomeKeeps s (execSlotEyeClears n s) := by
  refine .next (.ite (fun _ => .refl s) fun _ => ?_)
  have clears := setSlot_keeps n (fun x => { x with eye := false }) s
  dsimp only
  split
  · split
    · exact clears.trans (takenRemoval_keeps n _ _ _)
    · exact clears.trans (unclaimedRemoval_keeps n _ _)
  · exact clears

/-! ### The settings and the pulls (chapter 8) -/

/-- A change of the arbiter that leaves the pulls and the memories alone. -/
theorem setSettings_keeps {f : Arbiter → Arbiter} {s : State} (pulls : (f s.arbiter).pulls = s.arbiter.pulls)
    (expired : (f s.arbiter).expired = s.arbiter.expired) : Keeps s (setArbiter f s) :=
  mapPulls_keeps (g := id) (fun _ => rfl) (pulls.trans (List.map_id _).symm) expired

theorem execWriteLine_keeps (line : Nat) (access : AccessSet) (force : Bool) (rank : Nat) :
    OutcomeKeeps s (execWriteLine r line access force rank s) := by
  refine .next (serve_keeps fun t room => ?_)
  split
  · exact .ite (fun _ => (setSettings_keeps rfl rfl).done room rfl _) fun _ => refuse_keeps room _
  · exact refuse_keeps room _

theorem limitTo_keeps (n : Nat) (s : State) : Keeps s (setArbiter (Arbiter.limitTo n) s) := by
  by_cases lowered : n < s.arbiter.passLimit
  · exact mapPulls_keeps (g := fun p => { p with passCount := min n p.passCount }) (fun _ => rfl)
      (by simp only [Arbiter.limitTo, if_pos lowered]) rfl
  · exact setSettings_keeps (by simp only [Arbiter.limitTo, if_neg lowered]) rfl

theorem execWritePassLimit_keeps (n : Nat) : OutcomeKeeps s (execWritePassLimit r n s) :=
  .next (serve_keeps fun t room => .ite (fun _ => (limitTo_keeps n t).done room rfl _) fun _ => refuse_keeps room _)

theorem execWriteHandoverTimeout_keeps (n : Nat) : OutcomeKeeps s (execWriteHandoverTimeout r n s) :=
  .next (serve_keeps fun _ room =>
    .ite (fun _ => (setSettings_keeps rfl rfl).done room rfl _) fun _ => refuse_keeps room _)

/-- A new pull of a line that holds fewer than its limit (R147). -/
theorem addPull_keeps {p : Pull} {s : State} (room : (pullsOf s p.line).length < Config.maxPullsPerLine) :
    Keeps s (addPull p s) := by
  refine setArbiter_keeps fun x => ⟨x.rules, fun i => ?_, x.expired⟩
  have pulls : pullsOf (addPull p s) i = pullsOf s i ++ [p].filter (fun q => q.line == i) := List.filter_append _ _
  show (pullsOf (addPull p s) i).length ≤ _
  rw [pulls, List.length_append]
  by_cases own : p.line = i
  · subst own
    rw [List.filter_singleton, beq_self_eq_true]
    exact room
  · rw [List.filter_singleton, beq_false_of_ne own]
    exact x.pulls i

theorem execPull_keeps (code : Nat) (bank cls : Option Nat) (nowait : Bool) :
    OutcomeKeeps s (execPull r code bank cls nowait s) := by
  refine .next (take_keeps fun t room => ?_)
  split
  · refine .ite (fun _ => refuse_keeps room _) fun _ => .ite (fun _ => refuseRecorded_keeps room _ _) fun _ =>
      .ite (fun _ => refuse_keeps room _) fun free => .ite (fun _ => refuse_keeps room _) fun _ => ?_
    exact ((addPull_keeps (p := newPull t _ code bank cls) (Nat.lt_of_not_le free)).done room rfl _).trans
      (matchingPass_keeps _)
  · exact refuseRecorded_keeps room _ _

theorem giveBackLift_keeps (number : Nat) (s : State) : Keeps s (giveBackLift number s) := by
  unfold giveBackLift
  split
  · exact returnLift_keeps _ _ s
  · exact .refl s

theorem giveBackLift_ports (number : Nat) (s : State) : (giveBackLift number s).ports = s.ports := by
  unfold giveBackLift
  split <;> rfl

theorem execRelease_keeps (number : Nat) : OutcomeKeeps s (execRelease r number s) := by
  refine .next (take_keeps fun t room => ?_)
  split
  · refine .ite (fun _ => refuse_keeps room _) fun _ => ?_
    split
    · split
      · exact (((giveBackLift_keeps number t).trans (endPull_keeps _ number _)).done room
          (giveBackLift_ports number t) _).trans (matchingPass_keeps _)
      · exact refuse_keeps room _
    · exact .ite (fun _ => refuse_keeps room _) fun _ => refuse_keeps room _
  · exact refuseRecorded_keeps room _ _

theorem execCancel_keeps (number : Nat) : OutcomeKeeps s (execCancel r number s) := by
  refine .next (take_keeps fun t room => ?_)
  split
  · refine .ite (fun _ => refuse_keeps room _) fun _ => ?_
    split
    · split
      · exact refuse_keeps room _
      · exact (endPull_keeps _ number t).done room rfl _
    · exact refuse_keeps room _
  · exact refuseRecorded_keeps room _ _

/-! ### The links (chapter 10) -/

theorem execWriteEventMask_keeps (mask : EventMask) : OutcomeKeeps s (execWriteEventMask r mask s) := by
  refine .next (serve_keeps fun t room => Keeps.done room ?_ ?_ _)
  · exact .of_unlimited rfl rfl rfl rfl rfl rfl rfl rfl
  · rfl

theorem execEventRead_keeps (n : Nat) : OutcomeKeeps s (execEventRead r n s) := by
  refine .next (serve_keeps fun t room => .ite (fun _ => ?_) fun _ => refuse_keeps room _)
  refine Keeps.done room (t := { t with events := t.events.readOut n }) ?_ rfl _
  refine .of_same rfl rfl rfl rfl (fun x => x.congr rfl ?_) fun x => x.congr rfl rfl
  exact ((List.drop_sublist n t.events.list).length_le).trans x.events

end

theorem completeFrame_fits {f : Frame} {q : PortState} (h : q.Fits) : (completeFrame f q).Fits := by
  unfold completeFrame
  split
  · exact h
  · exact discardFrame_fits h

theorem acceptByte_fits {b : Byte} {q : PortState} (h : q.Fits) : (acceptByte b q).Fits := by
  unfold acceptByte
  split
  · split <;> exact h
  · split
    · unfold afterHeader
      split
      · exact discardFrame_fits h
      · split <;> exact h
    · exact h
  · dsimp only
    split <;> exact h
  · dsimp only
    split
    · exact h
    · split
      · exact completeFrame_fits h
      · exact discardFrame_fits h

theorem receiveByte_fits {x : RxByte} {q : PortState} (h : q.Fits) : (receiveByte x q).Fits := by
  have heard : ({ q with gapMs := 0 } : PortState).Fits := h
  unfold receiveByte
  dsimp only
  split
  · exact heard
  · split
    · exact acceptByte_fits (discardFrame_fits heard)
    · exact acceptByte_fits heard

theorem receiveBytes_fits (bytes : List RxByte) {q : PortState} (h : q.Fits) :
    (bytes.foldl (fun q x => receiveByte x q) q).Fits := by
  induction bytes generalizing q with
  | nil => exact h
  | cons x bytes ih => exact ih (receiveByte_fits h)

theorem beginSending_fits {q : PortState} (h : q.Fits) : (beginSending q).Fits := by
  unfold beginSending
  split
  · next x rest queue =>
    split
    · refine ⟨?_, h.2⟩
      have length := h.1
      rw [queue, List.length_cons] at length
      exact (Nat.le_succ _).trans length
    · exact h
  · exact h

theorem endSending_fits {q : PortState} (h : q.Fits) : (endSending q).Fits := by
  unfold endSending
  split <;> exact h

theorem execUnknownRequest_keeps (p : Port) (tag : Byte) (what : Unknown) (s : State) :
    OutcomeKeeps s (execUnknownRequest p tag what s) := by
  refine .next (takeFrame_keeps fun t room => ?_)
  cases what with
  | kind code => exact queueReply_keeps room _ _ _
  | subject =>
    exact .ite (fun setup => refuse_keeps (r := ⟨p, tag, true⟩) room _)
      fun _ => refuseRecorded_keeps (r := ⟨p, tag, true⟩) room _ _

/-! ### The scan port and the entry eye (chapter 3) -/

section
variable (s : State)

theorem refuseNoSheet_keeps {r : Req} (room : s.hasPlace r.port = true) : Keeps s (refuseNoSheet r s) := by
  have counted : ActKeeps s (countMismatch s) :=
    .of_belt (countMismatch_beltFrame s) (countMismatch_bounded s) fun _ h => h.setMismatches _
  unfold refuseNoSheet
  split
  · have ports := ((countMismatch_beltFrame s).trans (finish_beltFrame _)).ports
    exact counted.finish.trans (refuse_keeps (by rwa [hasPlace_congr ports]) _)
  · exact refuse_keeps room _

theorem oldestAwaiting_found {e : Entry} (oldest : oldestAwaiting s = some e) (distinct : EntriesDistinct s) :
    findEntry e.id s = some e ∧ e.state = .awaitReport :=
  ⟨findEntry_of_mem distinct (List.mem_of_find?_eq_some oldest), by simpa using List.find?_some oldest⟩

section
variable {r : Req} (room : s.hasPlace r.port = true) (k : BankNo) {e : Entry} (raw : SheetData)
  (oldest : oldestAwaiting s = some e)
include room oldest

theorem bindMismatch_keeps : Keeps s (bindMismatch r k e raw s) := by
  rw [bindMismatch_eq]
  have frame := (mismatched_beltFrame e.id k s).trans (countMismatch_beltFrame _)
  have banked := setEntry_bounded e.id (f := Entry.bound k) (fun _ => rfl) (fun _ => id) s
  refine (ActKeeps.done room (.of_belt frame ?_ fun distinct h => ?_) frame.ports _).finish
  · exact (banked.trans (rejectEntry_bounded e.id .mismatch none _)).trans (countMismatch_bounded _)
  · obtain ⟨found, waits⟩ := oldestAwaiting_found s oldest distinct
    have bound := h.setEntry e.id (f := Entry.bound k) (fun _ _ => rfl) fun _ => id
    have found' : findEntry e.id (setEntry e.id (Entry.bound k) s) = some (e.bound k) := findEntry_setEntry_self found rfl
    exact (bound.rejectEntry found' .mismatch none (Entry.not_aboard_of (.inl waits))).setMismatches _

theorem bindGood_keeps : Keeps s (bindGood r k e raw s) := by
  rw [bindGood_eq r k e raw s rfl rfl]
  generalize verdictOf s k e raw = v
  have frame := (agreed_beltFrame e.id k v s).trans
    (applyRoute_beltFrame e.id (planRoute s (some k) v (travelOf e s) none) _)
  have judged := setEntry_bounded e.id (f := Entry.judged k v) (fun _ => rfl) (fun _ => id) (setMismatches 0 s)
  refine (ActKeeps.done room (.of_belt frame ?_ fun distinct h => ?_) frame.ports _).finish
  · exact ((setMismatches_bounded (Nat.zero_le 3) s).trans judged).trans (applyRoute_bounded e.id _ _)
  · obtain ⟨found, waits⟩ := oldestAwaiting_found s oldest distinct
    have found' := findEntry_agreed e.id k v s found
    have away : ∀ b, (e.judged k v).aboard b = false := Entry.not_aboard_of (.inl waits)
    have bound : FlightsCounted none (agreed e.id k v s) :=
      (h.setMismatches 0).setEntry e.id (f := Entry.judged k v) (fun _ _ => rfl) fun _ _ _ _ => nofun
    rw [← planRoute_agreed e.id k v]
    generalize agreed e.id k v s = u at *
    refine bound.move (out := fun _ => 0) (into := (planRoute u (some k) v (travelOf e s) none).into) (fun b => ?_)
      (fun b => (applyRoute_flying rfl e.id b).1) (fun b => (applyRoute_flying rfl e.id b).2)
      fun x mem => applyRoute_sound found' _ nofun mem
    have count := applyRoute_count found' (planRoute u (some k) v (travelOf e s) none) b
    rw [away b] at count
    exact count

end

theorem execSheetReport_keeps (p : Port) (tag : Byte) (payload : List Byte) :
    OutcomeKeeps s (execSheetReport p tag payload s) := by
  by_cases room : s.hasPlace p = true
  swap
  · have waits : execSheetReport p tag payload s = .next s := by simp [execSheetReport, room]
    rw [waits]
    exact .next (.refl s)
  have room' : (freeBuffer p s).hasPlace (reportReq p tag).port = true := (freeBuffer_hasPlace p s).trans room
  rcases sheetReport_cases p tag payload s with ⟨-, e⟩ | outcome
  · rw [e]
    exact .next (.refl s)
  · have taken {t : State} (h : Keeps (freeBuffer p s) t) : OutcomeKeeps s (.next t) :=
      .next ((freeBuffer_keeps p s).trans h)
    generalize execSheetReport p tag payload s = o at outcome
    cases outcome with
    | denied => exact taken (refuseRecorded_keeps room' _ _)
    | invalid => exact taken (refuse_keeps room' _)
    | outOfStep => exact taken (refuse_keeps room' _)
    | noSheet => exact taken (refuseNoSheet_keeps _ room')
    | noBank => exact .fault _
    | mismatch raw e eye k binds => exact taken (bindMismatch_keeps _ room' k raw binds.oldest)
    | good raw e eye k binds => exact taken (bindGood_keeps _ room' k raw binds.oldest)

theorem resync_keeps (s : State) : Keeps s (setMismatches 0 s) where
  toActKeeps :=
    .of_belt (setMismatches_beltFrame 0 s) (setMismatches_bounded (Nat.zero_le 3) s) fun _ h => h.setMismatches 0
  drain h drain := by
    rw [setMismatches_zero] at *
    exact h drain

theorem execScanResync_keeps (r : Req) : OutcomeKeeps s (execScanResync r s) :=
  .next (serve_keeps fun t room => (resync_keeps t).done room (setMismatches_ports 0 t) _)

/-- A change of the tracker that leaves the travel, the queue and the mismatches alone. -/
theorem setTracker_keeps {f : Tracker → Tracker} (travel : (f s.tracker).travel = s.tracker.travel)
    (queue : (f s.tracker).queue = s.tracker.queue) (mismatches : (f s.tracker).mismatches = s.tracker.mismatches) :
    Keeps s (setTracker f s) where
  travel := travel
  belt x := ⟨queue ▸ x.queue, mismatches ▸ x.mismatches, x.suspicion⟩
  reporting x := x.congr rfl x.events
  recipes x := x.congr rfl rfl
  tallies x := x.congr rfl
  distinct x := by unfold EntriesDistinct at *; rwa [setTracker_tracker, queue]
  swept _ x := by unfold SyncSwept State.sync at *; rwa [setTracker_tracker, queue, mismatches]
  flights _ x := x.congr queue rfl
  drain x := by unfold DrainHasSheets at *; rwa [setTracker_mode, setTracker_tracker, queue]

/-- The newest entry takes its eye length, and nothing else of the queue changes (R56). -/
theorem measureNewest_eq {front : List Entry} {e : Entry} (queue : s.tracker.queue = front ++ [e]) :
    measureNewest s
      = setTracker (fun t => { t with queue := front ++ [{ e with eyeLen := some (eyeLength e s) }] }) s := by
  have last : s.tracker.queue.getLast? = some e := by rw [queue, List.getLast?_concat]
  unfold measureNewest
  rw [last]
  dsimp only
  rw [setTracker, setTracker, queue, List.dropLast_concat]

theorem measureNewest_keeps : Keeps s (measureNewest s) := by
  cases last : s.tracker.queue.getLast? with
  | none =>
    unfold measureNewest
    rw [last]
    exact .refl s
  | some e =>
    obtain ⟨front, queue⟩ := List.getLast?_eq_some_iff.mp last
    rw [measureNewest_eq s queue]
    have mem {x : Entry} (h : x ∈ front ++ [{ e with eyeLen := some (eyeLength e s) }]) :
        x ∈ s.tracker.queue ∨ x = { e with eyeLen := some (eyeLength e s) } := by
      rw [queue, List.mem_append]
      rw [List.mem_append, List.mem_singleton] at h
      exact h.imp_left .inl
    have newest : e ∈ s.tracker.queue := List.mem_of_getLast? last
    refine ⟨⟨rfl, fun x => ⟨?_, x.mismatches, x.suspicion⟩, fun x => x.congr rfl x.events, fun x => x.congr rfl rfl,
      fun x => x.congr rfl, fun x => ?_, fun _ x out y h waits => ?_, fun _ x => ?_⟩, fun x drain => ?_⟩
    · have length := x.queue
      rw [queue, List.length_append] at length
      rw [setTracker_tracker, List.length_append]
      exact length
    · unfold EntriesDistinct at *
      rw [queue, List.map_append] at x
      rw [setTracker_tracker, List.map_append]
      exact x
    · rcases mem h with old | rfl
      · exact x out y old waits
      · exact x out e newest waits
    · refine x.move (out := fun _ => 0) (into := fun _ => 0) (fun b => ?_) (fun _ => rfl) (fun _ => id) fun y h => ?_
      · rw [setTracker_tracker, queue, List.countP_append, List.countP_append, List.countP_singleton,
          List.countP_singleton]
        rfl
      · rcases mem h with old | rfl
        · exact .inl old
        · exact .inr fun b => x.judged b e newest
    · rw [setTracker_tracker]
      simp

theorem execEntryEyeTrailingEdge_keeps : OutcomeKeeps s (execEntryEyeTrailingEdge s) := by
  refine .next (.ite (fun _ => .refl s) fun _ => ?_)
  refine Keeps.trans ?_ (setTracker_keeps _ rfl rfl rfl)
  exact .ite (fun _ => measureNewest_keeps s) fun _ => .refl s

/-- A sheet that the entry eye finds with the queue full (R54). -/
def untrackedFull (s : State) : State :=
  finish (setMismatches 3 (raise .trackFull (setTracker (fun t => { t with eye := .blockedUntracked }) s)))

/-- The sheet that the entry eye enters (R55). -/
def sheetEntered (s : State) : State :=
  setTracker
    (fun t =>
      { t with
        eye := .blockedTracked, queue := t.queue ++ [newEntry s], nextNumber := t.nextNumber + 1 }) s

/-- What a leading edge of the entry eye does (R53 to R55; log entry 7). -/
theorem leadingEdge_cases :
    (s.tracker.eye ≠ .clear ∧ exec .entryEyeLeadingEdge s = .next s)
    ∨ (s.tracker.eye = .clear ∧ s.mode ≠ .run
      ∧ exec .entryEyeLeadingEdge s = .next (setTracker (fun t => { t with eye := .blockedUntracked }) s))
    ∨ (s.tracker.eye = .clear ∧ s.mode = .run ∧ 48 ≤ s.tracker.queue.length
      ∧ exec .entryEyeLeadingEdge s = .next (untrackedFull s))
    ∨ (s.tracker.eye = .clear ∧ s.mode = .run ∧ s.tracker.queue.length < 48
      ∧ exec .entryEyeLeadingEdge s = .next (sheetEntered s)) := by
  have is : exec .entryEyeLeadingEdge s = execEntryEyeLeadingEdge s := rfl
  rw [is, execEntryEyeLeadingEdge]
  by_cases eye : s.tracker.eye = .clear
  · by_cases run : s.mode = .run
    · by_cases full : Config.maxEntries ≤ s.tracker.queue.length
      · refine .inr (.inr (.inl ⟨eye, run, full, ?_⟩))
        rw [if_neg (fun h => h eye), if_neg (fun h => h run), if_pos full]
        rfl
      · refine .inr (.inr (.inr ⟨eye, run, Nat.lt_of_not_le full, ?_⟩))
        rw [if_neg (fun h => h eye), if_neg (fun h => h run), if_neg full]
        rfl
    · exact .inr (.inl ⟨eye, run, by rw [if_neg (fun h => h eye), if_pos run]⟩)
  · exact .inl ⟨eye, by rw [if_pos eye]⟩

theorem untrackedFull_keeps : Keeps s (untrackedFull s) := by
  have counted (t : State) : ActKeeps t (setMismatches 3 t) :=
    .of_belt (setMismatches_beltFrame 3 t) (setMismatches_bounded (le_refl 3) t) fun _ h => h.setMismatches 3
  have eye : Keeps s (setTracker (fun t => { t with eye := .blockedUntracked }) s) := setTracker_keeps s rfl rfl rfl
  exact ((eye.trans (raise_keeps _ _)).toActKeeps.trans (counted _)).finish

/-! ### Every command, and the step -/

/-- Every command keeps the limits and lets no travel pass, but for the travel pulse, the leading edge of the entry eye
and a full reset. -/
theorem exec_keeps (c : Instr) (pulse : c ≠ .travelPulse) (edge : c ≠ .entryEyeLeadingEdge)
    (reset : ∀ pins, c ≠ .fullReset pins) : OutcomeKeeps s (exec c s) := by
  cases c with
  | travelPulse => exact absurd rfl pulse
  | entryEyeLeadingEdge => exact absurd rfl edge
  | fullReset pins => exact absurd rfl (reset pins)
  | sheetReport p tag payload => exact execSheetReport_keeps s p tag payload
  | scanResync r => exact execScanResync_keeps s r
  | selectBank r n => exact execSelectBank_keeps r s n
  | writeClasses r l => exact execWriteClasses_keeps r s l
  | writeWeights r l => exact execWriteWeights_keeps r s l
  | writeLimits r x w => exact execWriteLimits_keeps r s x w
  | writeGrade r pos g => exact execWriteGrade_keeps r s pos g
  | deleteGrade r pos => exact execDeleteGrade_keeps r s pos
  | clearBank r => exact execClearBank_keeps r s
  | readBank r n => exact execReadBank_keeps r s n
  | readGrade r n pos => exact execReadGrade_keeps r s n pos
  | validate r n => exact execValidate_keeps r s n
  | activate r n => exact execActivate_keeps r s n
  | writeGeometry r p v => exact execWriteGeometry_keeps r s p v
  | clearBin r n => exact execClearBin_keeps r s n
  | binOnline r n => exact execBinOnline_keeps r s n
  | binOffline r n => exact execBinOffline_keeps r s n
  | closeBin r n => exact execCloseBin_keeps r s n
  | forceClose r code cls => exact execForceClose_keeps r s code cls
  | writeEjectTimeout r n => exact execWriteEjectTimeout_keeps r s n
  | clearOutfeed r => exact execClearOutfeed_keeps r s
  | slotOnline r n => exact execSlotOnline_keeps r s n
  | slotOffline r n => exact execSlotOffline_keeps r s n
  | clearSlot r n => exact execClearSlot_keeps r s n
  | writeLine r line access force rank => exact execWriteLine_keeps r s line access force rank
  | writePassLimit r n => exact execWritePassLimit_keeps r s n
  | writeHandoverTimeout r n => exact execWriteHandoverTimeout_keeps r s n
  | pull r code bank cls nowait => exact execPull_keeps r s code bank cls nowait
  | release r n => exact execRelease_keeps r s n
  | cancel r n => exact execCancel_keeps r s n
  | start r => exact execStart_keeps r s
  | drain r => exact execDrain_keeps r s
  | stop r => exact execStop_keeps r s
  | restart r => exact execRestart_keeps r s
  | tallyRead r bank => exact execTallyRead_keeps r s bank
  | tallyClear r => exact execTallyClear_keeps r s
  | writeEventMask r mask => exact execWriteEventMask_keeps r s mask
  | eventRead r n => exact execEventRead_keeps r s n
  | queryTracker | queryBins | queryStoredLifts | queryPulls | queryOutfeed | querySettings | queryLines
  | queryRefusals | queryPorts | queryMode => exact .next (serveQuery_keeps _ _ _ _ _ _ s)
  | unknownRequest p tag what => exact execUnknownRequest_keeps p tag what s
  | frameReceived p bytes => exact .next (setPort_keeps (receiveBytes_fits bytes))
  | sendItem => exact .next (setPort_keeps beginSending_fits)
  | interByteGapTimeout => exact .next (setPort_keeps gapDiscard_fits)
  | partFrameEnds => exact .next (setPort_keeps endSending_fits)
  | entryEyeTrailingEdge => exact execEntryEyeTrailingEdge_keeps s
  | decisionPointPassage n => exact .next (passDecision_keeps s n)
  | gateOpenPassage n => exact .next (passGateOpen_keeps s n)
  | gateClosePassage n => exact .next (passGateClose_keeps s n)
  | landingWindowEnd n => exact .next (passWindowEnd_keeps s n)
  | redryGateOpenPassage n => exact .next (passRedryOpen_keeps s n)
  | redryGateClosePassage n => exact .next (passRedryClose_keeps s n)
  | beltEndPassage n => exact .next (passBeltEnd_keeps s n)
  | eyeStuckPassage b => exact .next (passEyeStuck_keeps s b)
  | landedEyeBlocked b =>
    exact .next (.ite (fun _ => .refl s)
      fun _ => ((setBinEye_keeps b _ s).toActKeeps.trans (landedEdge_actKeeps b _)).finish)
  | landedEyeClears b => exact .next (setBinEye_keeps b none s)
  | drainCompletion b => exact .next ((completeDrain_keeps b s).trans (closeEvent_keeps _))
  | endOfDrain => exact .next (finish_keeps s)
  | ejectionStart => exact .next (ejectionTest_keeps s)
  | slotEyeBlocked n => exact execSlotEyeBlocked_keeps s n
  | slotEyeClears n => exact execSlotEyeClears_keeps s n
  | ejectTimeout => exact .next (timeOutEjection_keeps s)
  | handoverExpired line => exact .next (expireHandover_keeps line s)

end

/-- What a step keeps: `Keeps` but for the travel, the sheet that a leading edge may enter being none of those there. -/
structure StepKeeps (s t : State) : Prop where
  belt : BeltLimits s → BeltLimits t
  reporting : ReportingLimits s → ReportingLimits t
  recipes : RecipeAndPullLimits s → RecipeAndPullLimits t
  tallies : TallyLimits s → TallyLimits t
  distinct : EntriesDistinct s → findEntry ⟨s.tracker.nextNumber, s.tracker.travel⟩ s = none → EntriesDistinct t
  drain : DrainHasSheets s → DrainHasSheets t
  swept : EntriesDistinct s → SyncSwept s → SyncSwept t
  flights : EntriesDistinct s → FlightsCounted none s → FlightsCounted none t

theorem Keeps.stepKeeps {s t : State} (h : Keeps s t) : StepKeeps s t :=
  ⟨h.belt, h.reporting, h.recipes, h.tallies, fun x _ => h.distinct x, h.drain, h.swept, h.flights⟩

/-- The count of a travel pulse touches nothing that has a limit; its passages are events (R50, R51). -/
theorem travelPulse_stepKeeps (s : State) : StepKeeps s (duePassages (countTravel s)) := by
  have h := duePassages_keeps (countTravel s)
  exact ⟨fun x => h.belt ⟨x.queue, x.mismatches, x.suspicion⟩, fun x => h.reporting (x.congr rfl x.events),
    fun x => h.recipes (x.congr rfl rfl), fun x => h.tallies (x.congr rfl), fun x _ => h.distinct x,
    fun x => h.drain x, fun d x => h.swept d x, fun d x => h.flights d (x.congr rfl rfl)⟩

/-- A sheet is entered while the queue has room, waiting for its report only while sync is not OUT_OF_STEP (R55). -/
theorem sheetEntered_stepKeeps {s : State} (room : s.tracker.queue.length < 48) : StepKeeps s (sheetEntered s) := by
  have queue : (sheetEntered s).tracker.queue = s.tracker.queue ++ [newEntry s] := rfl
  have mem {x : Entry} (h : x ∈ (sheetEntered s).tracker.queue) : x ∈ s.tracker.queue ∨ x = newEntry s := by
    rwa [queue, List.mem_append, List.mem_singleton] at h
  have unrouted : (newEntry s).state = .awaitReport ∨ (newEntry s).state = .toReject := by
    unfold newEntry
    dsimp only
    split
    · exact .inr rfl
    · exact .inl rfl
  refine ⟨fun x => ⟨?_, x.mismatches, x.suspicion⟩, fun x => x.congr rfl x.events, fun x => x.congr rfl rfl,
    fun x => x.congr rfl, fun x fresh => ?_, fun x drain => ?_, fun _ x out e h => ?_, fun _ x => ?_⟩
  · rw [queue, List.length_append]
    exact room
  · unfold EntriesDistinct at *
    rw [queue, List.map_append, List.nodup_append]
    refine ⟨x, List.nodup_singleton _, fun a old b new same => ?_⟩
    obtain ⟨e, there, is⟩ := List.mem_map.mp old
    have entered : b = ⟨s.tracker.nextNumber, s.tracker.travel⟩ := List.mem_singleton.mp new
    exact List.find?_eq_none.mp fresh e there (beq_iff_eq.mpr (is.trans (same.trans entered)))
  · rw [queue]
    simp
  · rcases mem h with old | rfl
    · exact x out e old
    · have out' : s.sync = .outOfStep := out
      unfold newEntry
      rw [if_pos out']
      nofun
  · refine x.move (out := fun _ => 0) (into := fun _ => 0) (fun b => ?_) (fun _ => rfl) (fun _ => id) fun e h => ?_
    · rw [queue, List.countP_append, List.countP_singleton, Entry.not_aboard_of (unrouted.imp_right .inl)]
      rfl
    · rcases mem h with old | rfl
      · exact .inl old
      · exact .inr (Entry.sound_of fun b p q routed => by
          rcases unrouted with state | state <;> rw [state] at routed <;> cases routed)

/-- A full reset meets every limit (R171). -/
theorem fullReset_stepKeeps (pins : Pins) (s : State) (rest : List Instr) :
    StepKeeps s { State.resetWith pins with pending := rest } := by
  have bin (b : BinNo) : ({ State.resetWith pins with pending := rest } : State).bin b = Bin.reset pins.landed[b] :=
    Vector.getElem_ofFn b.isLt
  have port (p : Fin 6) : ({ State.resetWith pins with pending := rest } : State).ports[p] = PortState.reset pins.rates[p] :=
    Vector.getElem_ofFn p.isLt
  have bank (k : BankNo) : ({ State.resetWith pins with pending := rest } : State).banks.bank[k] = Bank.empty :=
    Vector.getElem_replicate k.isLt
  have expired (i : LineNo) : ({ State.resetWith pins with pending := rest } : State).arbiter.expired[i] = [] :=
    Vector.getElem_replicate i.isLt
  refine ⟨fun _ => ⟨Nat.zero_le _, Nat.zero_le _, fun b => ?_⟩, fun _ => ?_, fun _ => ⟨fun k => ?_, fun i => ?_, fun i => ?_⟩,
    fun _ => zero_tallyLimits rfl, fun _ _ => List.nodup_nil, nofun, nofun, fun _ _ => ⟨fun b => ?_, fun b _ _ => ?_, nofun⟩⟩
  · rw [bin]; exact Nat.zero_le _
  · rw [reportingLimits_iff]
    refine ⟨fun p => ?_, Nat.zero_le _⟩
    rw [port]
    exact ⟨Nat.zero_le _, Nat.zero_le _⟩
  · rw [bank]; exact Nat.zero_le _
  · exact Nat.zero_le _
  · rw [expired]; exact Nat.zero_le _
  · rw [bin]; rfl
  · rw [bin]; rfl

end Sys2Proof.Machine
end

section
/-! SUPPORT. The two statements about every step: what has a limit stays within it, and only travel pulses move the
travel counter. -/

namespace Sys2Proof.Machine

theorem Keeps.then_stepKeeps {s t u : State} (h : Keeps s t) (k : StepKeeps t u)
    (tracker : t.tracker = s.tracker) : StepKeeps s u where
  belt x := k.belt (h.belt x)
  reporting x := k.reporting (h.reporting x)
  recipes x := k.recipes (h.recipes x)
  tallies x := k.tallies (h.tallies x)
  distinct x fresh := k.distinct (h.distinct x) (by unfold findEntry at *; rwa [tracker])
  drain x := k.drain (h.drain x)
  swept d x := k.swept (h.distinct d) (h.swept d x)
  flights d x := k.flights (h.distinct d) (h.flights d x)

/-- Taking the front command off the queue touches nothing that has a limit. -/
theorem dequeued_keeps (s : State) (rest : List Instr) : Keeps s { s with pending := rest } :=
  .of_unlimited rfl rfl rfl rfl rfl rfl rfl rfl

theorem leadingEdge_stepKeeps {s t : State} (h : exec .entryEyeLeadingEdge s = .next t) : StepKeeps s t := by
  rcases leadingEdge_cases (s := s) with ⟨-, is⟩ | ⟨-, -, is⟩ | ⟨-, -, -, is⟩ | ⟨-, -, room, is⟩ <;>
    rw [is] at h <;> cases h
  · exact (Keeps.refl s).stepKeeps
  · exact (setTracker_keeps s rfl rfl rfl).stepKeeps
  · exact (untrackedFull_keeps s).stepKeeps
  · exact sheetEntered_stepKeeps room

theorem exec_travelPulse (s : State) : exec .travelPulse s = .next (duePassages (countTravel s)) := rfl

theorem exec_fullReset (pins : Pins) (s : State) :
    exec (.fullReset pins) s = .next { State.resetWith pins with pending := s.pending } := rfl

theorem exec_stepKeeps {c : Instr} {s t : State} (h : exec c s = .next t) : StepKeeps s t := by
  by_cases pulse : c = .travelPulse
  · rw [pulse, exec_travelPulse] at h
    exact Host.Outcome.next.inj h ▸ travelPulse_stepKeeps s
  by_cases edge : c = .entryEyeLeadingEdge
  · rw [edge] at h
    exact leadingEdge_stepKeeps h
  by_cases reset : ∃ pins, c = .fullReset pins
  · obtain ⟨pins, rfl⟩ := reset
    rw [exec_fullReset] at h
    cases h
    exact fullReset_stepKeeps pins s s.pending
  · exact (exec_keeps s c pulse edge (fun pins is => reset ⟨pins, is⟩) t h).stepKeeps

theorem step_stepKeeps {s t : State} (h : step s = .next t) : StepKeeps s t := by
  unfold step at h
  cases front : s.pending with
  | nil =>
    rw [front] at h
    cases h
    exact (tick_keeps s).stepKeeps
  | cons c rest =>
    rw [front] at h
    exact (dequeued_keeps s rest).then_stepKeeps (exec_stepKeeps h) rfl

/-- Settles O60: every command, every passage and the clock keep each limit; a sheet is entered only while the queue has
room, and a drain that is over ends at the event that ended it. -/
theorem limitsAreKept : Obligations.LimitsAreKept := by
  unfold Obligations.LimitsAreKept
  intro s t h
  have k := step_stepKeeps h
  rw [inFlightCounted_iff, inFlightCounted_iff]
  exact ⟨k.belt, k.reporting, k.recipes, k.tallies, k.distinct, k.drain, k.swept, k.flights⟩

/-- A travel pulse adds one millimetre, and no passage that it brings due moves the counter (R50). -/
theorem exec_travelPulse_travel {s t : State} (h : exec .travelPulse s = .next t) :
    t.tracker.travel = s.tracker.travel + 1 := by
  rw [exec_travelPulse] at h
  exact Host.Outcome.next.inj h ▸ (duePassages_keeps (countTravel s)).travel

theorem exec_travel {c : Instr} {s t : State} (pulse : c ≠ .travelPulse) (reset : ∀ pins, c ≠ .fullReset pins)
    (h : exec c s = .next t) : t.tracker.travel = s.tracker.travel := by
  by_cases edge : c = .entryEyeLeadingEdge
  · subst edge
    rcases leadingEdge_cases (s := s) with ⟨-, is⟩ | ⟨-, -, is⟩ | ⟨-, -, -, is⟩ | ⟨-, -, -, is⟩ <;>
      rw [is] at h <;> cases h
    · rfl
    · rfl
    · exact (untrackedFull_keeps s).travel
    · rfl
  · exact (exec_keeps s c pulse edge reset t h).travel

/-- Settles O31: the travel pulse counts one, and no other command, passage or millisecond moves the counter. -/
theorem travelMovesOnlyByPulses : Obligations.TravelMovesOnlyByPulses := by
  unfold Obligations.TravelMovesOnlyByPulses
  intro s t h
  unfold step at h
  cases front : s.pending with
  | nil =>
    rw [front] at h
    cases h
    exact ⟨nofun, fun _ _ => (tick_keeps s).travel⟩
  | cons c rest =>
    rw [front] at h
    refine ⟨fun ⟨_, is⟩ => ?_, fun pulse reset => ?_⟩
    · cases is
      exact (exec_travelPulse_travel h).trans rfl
    · exact exec_travel (s := { s with pending := rest }) (fun is => pulse rest (is ▸ rfl))
        (fun pins is => reset pins rest (is ▸ rfl)) h

end Sys2Proof.Machine
end

section
/-! SUPPORT. The travel pulse as the passage commands in turn (R50, R51). -/

namespace Sys2Proof.Machine

theorem execAll_sheetPassages (n : EntryId) (s : State) : execAll (sheetPassages n) s = .next (passesOf s n) := rfl

/-- Runs of commands, one run for each item of a list, are the fold of what each run does. -/
theorem execAll_flatMap {α : Type} (c : α → List Instr) (f : State → α → State)
    (h : ∀ s a, execAll (c a) s = .next (f s a)) (l : List α) (s : State) :
    execAll (l.flatMap c) s = .next (l.foldl f s) := by
  induction l generalizing s with
  | nil => rfl
  | cons a l ih => rw [List.flatMap_cons, execAll_append _ _ _ _ (h s a), ih, List.foldl_cons]

theorem execAll_pulsePassages (s : State) : execAll (pulsePassages s) (countTravel s) = exec .travelPulse s := by
  have sheets : execAll (s.tracker.queue.flatMap fun e => sheetPassages e.id) (countTravel s)
      = .next ((entriesWhere (fun _ => true) s).foldl passesOf (countTravel s)) := by
    rw [execAll_flatMap (fun e : Entry => sheetPassages e.id) (fun t e => passesOf t e.id)
        (fun t e => execAll_sheetPassages e.id t), entriesWhere, List.filter_true, List.foldl_map]
  rw [pulsePassages, execAll_append _ _ _ _ sheets,
    execAll_eq_foldl .eyeStuckPassage passEyeStuck (fun _ _ => rfl), exec_travelPulse]
  rfl

/-- A sheet with no passage due takes none. -/
theorem passesOf_idle {n : EntryId} {s : State}
    (idle : decisionDue s n = false ∧ gateOpenDue s n = false ∧ redryOpenDue s n = false
      ∧ gateCloseDue s n = false ∧ windowEndDue s n = none ∧ redryCloseDue s n = false
      ∧ beltEndDue s n = false) : passesOf s n = s := by
  obtain ⟨decision, gateOpen, redryOpen, gateClose, window, redryClose, beltEnd⟩ := idle
  have h₁ : passDecision s n = s := by simp [passDecision, decision]
  have h₂ : passGateOpen s n = s := by simp [passGateOpen, gateOpen]
  have h₃ : passRedryOpen s n = s := by simp [passRedryOpen, redryOpen]
  have h₄ : passGateClose s n = s := by simp [passGateClose, gateClose]
  have h₅ : passWindowEnd s n = s := by simp [passWindowEnd, window]
  have h₆ : passRedryClose s n = s := by simp [passRedryClose, redryClose]
  have h₇ : passBeltEnd s n = s := by simp [passBeltEnd, beltEnd]
  rw [passesOf, h₁, h₂, h₃, h₄, h₅, h₆, h₇]

theorem duePassages_idle {s : State}
    (sheets : ∀ n : EntryId,
      decisionDue s n = false ∧ gateOpenDue s n = false ∧ redryOpenDue s n = false
      ∧ gateCloseDue s n = false ∧ windowEndDue s n = none ∧ redryCloseDue s n = false
      ∧ beltEndDue s n = false)
    (bins : ∀ b : BinNo, eyeStuckDue s b = false) : duePassages s = s := by
  rw [duePassages, List.foldl_fixed' (fun n => passesOf_idle (sheets n)),
    List.foldl_fixed' (fun b => by simp [passEyeStuck, bins b])]

/-- Settles O30: the pulse is the fold of the passages over the sheets and the bins, each passage a command. -/
theorem travelPulseCounts : Obligations.TravelPulseCounts := by
  unfold Obligations.TravelPulseCounts
  intro s
  have frame := duePassages_beltFrame (countTravel s)
  refine ⟨(execAll_pulsePassages s).symm, ⟨_, exec_travelPulse s, frame.travel, frame.number, frame.trailing,
    frame.banks, frame.geometry, frame.arbiter, frame.ports, frame.refusal, frame.pending⟩, fun sheets bins => ?_⟩
  rw [exec_travelPulse, duePassages_idle (s := countTravel s) sheets bins]
  rfl

end Sys2Proof.Machine
end

section
/-! SUPPORT. SCAN_RESYNC, and the entry that a leading edge opens (R55, R70). -/

namespace Sys2Proof.Machine

theorem sync_of_mismatches_zero {s : State} (zero : s.tracker.mismatches = 0) : s.sync = .inStep := by
  rw [State.sync, zero]
  rfl

theorem scanResync_admitted {r : Req} {s : State} (can : CanServe r .scanResync (.scanResync r) s) :
    exec (.scanResync r) s
      = .next (answered r.port (doneItem r .scanResync (.resync s.sync s.tracker.nextNumber))
          { s with
            tracker := { s.tracker with mismatches := 0 }
            events := if s.sync = .inStep then s.events else s.events.append (.syncChanged .inStep) }) := by
  have is : exec (.scanResync r) s = execScanResync r s := rfl
  rw [is, execScanResync, serve_admitted can, setMismatches_zero]
  exact congrArg Host.Outcome.next (done_freeBuffer r .scanResync (.resync s.sync s.tracker.nextNumber)
    { s with
      tracker := { s.tracker with mismatches := 0 }
      events := if s.sync = .inStep then s.events else s.events.append (.syncChanged .inStep) })

/-- Only the scan port may make SCAN_RESYNC (Table 10-2). -/
theorem mayMake_scanResync {p : Port} (other : p ≠ .scan) : mayMake p .scanResync = false := by
  cases p
  · exact absurd rfl other
  · rfl
  · rfl

theorem scanResync_denied {r : Req} {s : State} (other : r.port ≠ .scan)
    (can : CanTake r .scanResync (.scanResync r) s) :
    exec (.scanResync r) s = .next (refusedRecorded r.port r.tag .scanResync .denied none s) := by
  have is : exec (.scanResync r) s = execScanResync r s := rfl
  rw [is, execScanResync, serve, take_taken can, mayMake_scanResync other, if_neg Bool.false_ne_true,
    refuseRecorded_freeBuffer]
  rfl

theorem newEntry_inStep {s : State} (inStep : s.sync = .inStep) :
    (newEntry s).state = .awaitReport
    ∧ (newEntry s).verdict = if crowds s then some (.reject .crowded none) else none := by
  have out : s.sync ≠ .outOfStep := by rw [inStep]; nofun
  exact ⟨if_neg out, if_neg out⟩

/-- Settles O29. -/
theorem scanResync : Obligations.ScanResync := by
  unfold Obligations.ScanResync
  exact ⟨fun r s admitted => scanResync_admitted (admitted.canServe rfl), fun s => sync_of_mismatches_zero,
    fun r s other taken => scanResync_denied other taken, fun s => newEntry_inStep⟩

end Sys2Proof.Machine
end

section
/-! SUPPORT. The edges of the entry eye, the decision point and the belt end (R52 to R57, R64 to R66, R68, R69). -/

namespace Sys2Proof.Machine

/-! ### The entry eye (R52 to R57) -/

section
variable (s : State)

theorem sync_outOfStep_iff : s.sync = .outOfStep ↔ 3 ≤ s.tracker.mismatches := by
  rw [← not_lt, ← sync_ne_outOfStep_iff, not_not]

theorem crowds_iff : crowds s = true
    ↔ ∃ m, s.tracker.lastTrailing = some m ∧ travelled s.tracker.travel m < s.geometry.minGap := by
  unfold crowds
  cases s.tracker.lastTrailing <;> simp

/-- The entry that a leading edge opens, with its tests written out (R55). -/
theorem newEntry_eq :
    newEntry s
      = { number := s.tracker.nextNumber
          lead := s.tracker.travel
          eyeLen := none
          state := if 3 ≤ s.tracker.mismatches then .toReject else .awaitReport
          verdict :=
            if 3 ≤ s.tracker.mismatches then some (.reject .outOfStep none)
            else if ∃ m, s.tracker.lastTrailing = some m
                ∧ travelled s.tracker.travel m < s.geometry.minGap
              then some (.reject .crowded none)
            else none
          bank := none } := by
  unfold newEntry
  simp only [sync_outOfStep_iff, crowds_iff]

theorem setMismatches_mismatches (m : Nat) : (setMismatches m s).tracker.mismatches = m := by
  rcases setMismatches_cases m s with ⟨-, same⟩ | ⟨-, -, same⟩ | ⟨-, -, same⟩ <;> rw [same]
  · rfl
  · rfl
  · rw [sweepAwaiting_mismatches]
    rfl

end

/-- The removal of an entry leaves an untracked sheet untracked (R52). -/
theorem rejectEntry_untracked (n : EntryId) (why : RejectReason) (values : Option Computed) {s : State}
    (untracked : s.tracker.eye = .blockedUntracked) :
    (rejectEntry n why values s).tracker.eye = .blockedUntracked := by
  rw [rejectEntry_eq]
  rcases dropAtBeltEnd_cases n (setEntry n (Entry.rejected why values) s) with same | ⟨e, -, -, -, same⟩ <;> rw [same]
  · exact untracked
  · rw [tally_tracker, removeEntry, setTracker_tracker, Tracker.drop]
    dsimp only
    split
    · rfl
    · exact untracked

theorem setMismatches_untracked (m : Nat) {s : State} (untracked : s.tracker.eye = .blockedUntracked) :
    (setMismatches m s).tracker.eye = .blockedUntracked := by
  rcases setMismatches_cases m s with ⟨-, same⟩ | ⟨-, -, same⟩ | ⟨-, -, same⟩ <;> rw [same]
  · exact untracked
  · exact untracked
  · exact sweepAwaiting_keeps (fun t => t.tracker.eye = .blockedUntracked)
      (fun _ _ _ _ _ keep => rejectEntry_untracked _ _ _ keep) _ untracked

/-- A mismatch count of 3 set on a part that is OUT_OF_STEP already sweeps nothing (R69). -/
theorem setMismatches_three_again {s : State} (out : s.sync = .outOfStep) :
    setMismatches 3 s = setTracker (fun t => { t with mismatches := 3 }) s := by
  rcases setMismatches_cases 3 s with ⟨-, same⟩ | ⟨-, other, -⟩ | ⟨other, -, -⟩
  · exact same
  · exact absurd rfl other
  · exact absurd out other

theorem setMismatches_three_enters {s : State} (inStep : s.sync ≠ .outOfStep) :
    setMismatches 3 s
      = sweepAwaiting (raise (.syncChanged .outOfStep) (setTracker (fun t => { t with mismatches := 3 }) s)) := by
  rcases setMismatches_cases 3 s with ⟨is, -⟩ | ⟨-, other, -⟩ | ⟨-, -, same⟩
  · exact absurd is.symm inStep
  · exact absurd rfl other
  · exact same

theorem setMismatches_three_events (s : State) :
    (setMismatches 3 s).events
      = if s.sync = .outOfStep then s.events else s.events.append (.syncChanged .outOfStep) := by
  by_cases out : s.sync = .outOfStep
  · rw [if_pos out, setMismatches_three_again out]
    rfl
  · rw [if_neg out, setMismatches_three_enters out, sweepAwaiting_events]
    rfl

theorem setMismatches_three_entered {s : State} (inStep : s.sync ≠ .outOfStep) (distinct : EntriesDistinct s) :
    OutOfStepEntered none s (setMismatches 3 s) := by
  have distinct' : EntriesDistinct
      (raise (.syncChanged .outOfStep) (setTracker (fun t => { t with mismatches := 3 }) s)) := distinct
  rw [setMismatches_three_enters inStep]
  exact (sweepAwaiting_entered distinct').congr (fun _ => rfl) rfl rfl

/-- A sheet that the entry eye does not track, and the event it raises (R54). -/
def passedUntracked (s : State) : State :=
  raise .trackFull (setTracker (fun t => { t with eye := .blockedUntracked }) s)

theorem untrackedFull_eq (s : State) : untrackedFull s = finish (setMismatches 3 (passedUntracked s)) := rfl

theorem passedUntracked_beltFrame (s : State) : BeltFrame s (passedUntracked s) := by
  have eye : BeltFrame s (setTracker (fun t => { t with eye := .blockedUntracked }) s) :=
    ⟨rfl, rfl, rfl, rfl, rfl, rfl, rfl, rfl, rfl, rfl, rfl, fun _ => rfl, fun _ => rfl, .inl rfl⟩
  exact eye.trans (raise_beltFrame _ _)

/-- A sheet that finds the queue full is untracked, and sync is lost (R54, R68, R69). -/
theorem untrackedFull_effect {s : State} (run : s.mode = .run) :
    BeltFrame s (untrackedFull s)
    ∧ (untrackedFull s).tracker.eye = .blockedUntracked ∧ (untrackedFull s).tracker.mismatches = 3
    ∧ (untrackedFull s).events
        = (if s.sync = .outOfStep then s.events.append .trackFull
          else (s.events.append .trackFull).append (.syncChanged .outOfStep))
    ∧ (s.sync = .outOfStep →
        (untrackedFull s).tracker.queue = s.tracker.queue ∧ (untrackedFull s).tallies = s.tallies)
    ∧ (s.sync ≠ .outOfStep → EntriesDistinct s → OutOfStepEntered none s (untrackedFull s)) := by
  have frame := (passedUntracked_beltFrame s).trans (setMismatches_beltFrame 3 _)
  have on : (setMismatches 3 (passedUntracked s)).mode ≠ .drain := frame.mode_ne_drain (by rw [run]; nofun)
  rw [untrackedFull_eq, finish_tracker, finish_events (.inl on), finish_tallies (.inl on)]
  refine ⟨frame.trans (finish_beltFrame _), setMismatches_untracked 3 rfl, setMismatches_mismatches _ 3,
    setMismatches_three_events _, fun out => ?_, fun inStep distinct => ?_⟩
  · have again := setMismatches_three_again (s := passedUntracked s) out
    rw [again]
    exact ⟨rfl, rfl⟩
  · have entered := setMismatches_three_entered (s := passedUntracked s) inStep distinct
    exact entered.congr (fun _ => rfl) rfl (congrArg Tracker.queue (finish_tracker _))

/-- A trailing edge under a tracked sheet gives the newest entry its eye length (R56). -/
theorem trailingEdge_tracked {s : State} {front : List Entry} {e : Entry} (eye : s.tracker.eye = .blockedTracked)
    (queue : s.tracker.queue = front ++ [e]) :
    exec .entryEyeTrailingEdge s
      = .next (setTracker (fun t => { t with eye := .clear, lastTrailing := some t.travel })
          (setTracker (fun t => { t with queue := front ++ [{ e with eyeLen := some (eyeLength e s) }] }) s)) := by
  have is : exec .entryEyeTrailingEdge s = execEntryEyeTrailingEdge s := rfl
  rw [is, execEntryEyeTrailingEdge, if_neg (by rw [eye]; nofun), if_pos eye, measureNewest_eq s queue]

theorem trailingEdge_untracked {s : State} (eye : s.tracker.eye = .blockedUntracked) :
    exec .entryEyeTrailingEdge s
      = .next (setTracker (fun t => { t with eye := .clear, lastTrailing := some t.travel }) s) := by
  have is : exec .entryEyeTrailingEdge s = execEntryEyeTrailingEdge s := rfl
  rw [is, execEntryEyeTrailingEdge, if_neg (by rw [eye]; nofun), if_neg (by rw [eye]; nofun)]

theorem trailingEdge_clear {s : State} (eye : s.tracker.eye = .clear) : exec .entryEyeTrailingEdge s = .next s := by
  have is : exec .entryEyeTrailingEdge s = execEntryEyeTrailingEdge s := rfl
  rw [is, execEntryEyeTrailingEdge, if_pos eye]

/-- Settles O32: the four branches of a leading edge, of which the full queue counts as the third mismatch, and the
three of a trailing edge. -/
theorem entryEyeEdges : Obligations.EntryEyeEdges := by
  unfold Obligations.EntryEyeEdges
  intro s
  refine ⟨fun clear idle => ?_, fun clear run room => ?_, fun clear run full => ⟨untrackedFull s, ?_,
    untrackedFull_effect run⟩, fun blocked => ?_, fun front e eye queue => trailingEdge_tracked eye queue,
    trailingEdge_untracked, trailingEdge_clear⟩
  · rcases leadingEdge_cases s with ⟨b, -⟩ | ⟨-, -, is⟩ | ⟨-, r, -⟩ | ⟨-, r, -⟩
    · exact absurd clear b
    · exact is
    · exact absurd r idle
    · exact absurd r idle
  · rcases leadingEdge_cases s with ⟨b, -⟩ | ⟨-, i, -⟩ | ⟨-, -, f, -⟩ | ⟨-, -, -, is⟩
    · exact absurd clear b
    · exact absurd run i
    · exact absurd room (Nat.not_lt.mpr f)
    · rw [is, ← newEntry_eq s]
      rfl
  · rcases leadingEdge_cases s with ⟨b, -⟩ | ⟨-, i, -⟩ | ⟨-, -, -, is⟩ | ⟨-, -, r, -⟩
    · exact absurd clear b
    · exact absurd run i
    · exact is
    · exact absurd r (Nat.not_lt.mpr full)
  · rcases leadingEdge_cases s with ⟨-, is⟩ | ⟨c, -⟩ | ⟨c, -⟩ | ⟨c, -⟩
    · exact is
    all_goals exact absurd c blocked

end Sys2Proof.Machine
end

section
/-! SUPPORT. The decision point and the belt end (R64 to R66, R68, R69). -/

namespace Sys2Proof.Machine

/-! ### The decision point (R64) -/

section
variable {n : EntryId} {e : Entry} {s : State}

/-- What the expiry of a decision leaves before the event ends (R64, R68). -/
theorem expireDecision_of_due (found : findEntry n s = some e) (waits : e.state = .awaitReport)
    (past : s.geometry.decisionDistance ≤ travelOf e s) :
    exec (.decisionPointPassage n) s = .next (finish (countMismatch (rejectEntry n .ungraded none s))) := by
  have due : decisionDue s n = true := (decisionDue_iff s n).mpr ⟨e, found, waits, past⟩
  have is : exec (.decisionPointPassage n) s = .next (passDecision s n) := rfl
  rw [is, passDecision, if_pos due, expireDecision, if_pos due]

theorem decisionPoint_idle (found : findEntry n s = some e)
    (early : e.state ≠ .awaitReport ∨ travelOf e s < s.geometry.decisionDistance) :
    exec (.decisionPointPassage n) s = .next s := by
  have idle : ¬decisionDue s n = true := by
    rw [decisionDue_iff, found]
    rintro ⟨x, is, waits, past⟩
    cases is
    rcases early with other | short
    · exact other waits
    · exact absurd past (Nat.not_le.mpr short)
  have is : exec (.decisionPointPassage n) s = .next (passDecision s n) := rfl
  rw [is, passDecision, if_neg idle]

/-- The rejection UNGRADED with its mismatch, and the end of the event (R64, R66, R68, R69). -/
theorem expired_effect (found : findEntry n s = some e) :
    let t := finish (countMismatch (rejectEntry n .ungraded none s))
    BeltFrame s t ∧ t.tracker.mismatches = min 3 (s.tracker.mismatches + 1)
    ∧ (atBeltEnd e s = false →
        findEntry n t = some { e with state := .toReject, verdict := some (.reject .ungraded none) })
    ∧ (s.sync ≠ .outOfStep → (s.mode ≠ .drain ∨ t.tracker.queue ≠ []) → t.events = mismatchEvents s)
    ∧ (s.tracker.mismatches = 2 → EntriesDistinct s → OutOfStepEntered (some n) s t)
    ∧ (EntriesDistinct s → EyeFollows s t) := by
  intro t
  have rejected := rejectEntry_beltFrame n .ungraded none s
  have mismatches := rejectEntry_mismatches n .ungraded none s
  have frame := rejected.trans (countMismatch_beltFrame _)
  have leave := (EntriesLeave.rejectEntry n .ungraded none s).trans (.countMismatch _)
  refine ⟨frame.trans (finish_beltFrame _), ?_, fun before => ?_, fun inStep on => ?_, fun two distinct => ?_,
    (leave.trans (.finish _)).eye⟩
  · rw [finish_tracker, countMismatch, setMismatches_mismatches, mismatches]
  · rw [findEntry_congr (congrArg Tracker.queue (finish_tracker _))]
    exact findEntry_countMismatch (findEntry_rejectEntry_self .ungraded none found before) nofun
  · have inStep' : (rejectEntry n .ungraded none s).sync ≠ .outOfStep := by
      rwa [sync_ne_outOfStep_iff, mismatches, ← sync_ne_outOfStep_iff]
    rw [finish_tracker] at on
    rw [finish_events (on.imp_left frame.mode_ne_drain), countMismatch_events inStep', mismatchEvents, mismatches,
      rejectEntry_events]
    rfl
  · have entered := countMismatch_entered (mismatches.trans two)
      ((EntriesLeave.rejectEntry n .ungraded none s).distinct distinct)
    exact (entered.of_own rejected.atBeltEnd_eq (fun _ mem other => mem_rejectEntry n .ungraded none s mem other)
      (EntriesLeave.rejectEntry n .ungraded none s).order).congr (fun _ => rfl) rfl
      (congrArg Tracker.queue (finish_tracker _))

end

/-! ### The REJECT tallies at the end of an event (R66, R167) -/

theorem completeDrain_rejects (b : BinNo) (s : State) : (completeDrain b s).tallies.rejects = s.tallies.rejects := by
  rcases completeDrain_cases b s with ⟨same, -⟩ | ⟨why, l, -, -, -, same⟩ | ⟨why, l, -, -, -, same⟩ <;>
    rw [same] <;> rfl

theorem completeDrains_rejects (s : State) : (completeDrains s).tallies.rejects = s.tallies.rejects := by
  unfold completeDrains
  induction allBins generalizing s with
  | nil => rfl
  | cons b rest ih => rw [List.foldl_cons, ih, completeDrain_rejects]

theorem setMode_tallies (m : SortMode) (s : State) : (setMode m s).tallies = s.tallies := by
  unfold setMode
  split <;> rfl

/-- The end of an event counts no reject, whether or not it ends a drain. -/
theorem finish_rejects (s : State) : (finish s).tallies.rejects = s.tallies.rejects := by
  rw [finish, closeEvent_tallies]
  rcases endDrainIfDue_cases s with ⟨-, -, same⟩ | ⟨-, same⟩ <;> rw [same]
  rw [endDrain, setMode_tallies, completeDrains_rejects, drainBins_tallies]

/-! ### The belt end (R66) -/

section
variable {n : EntryId} {e : Entry} {s : State}

theorem atBeltEnd_iff (e : Entry) (s : State) :
    atBeltEnd e s = true ↔ ∃ d, s.geometry.beltEnd = some d ∧ d ≤ travelOf e s := by
  unfold atBeltEnd
  cases s.geometry.beltEnd <;> simp

theorem beltEndDue_iff (n : EntryId) (s : State) :
    beltEndDue s n = true ↔ ∃ e, findEntry n s = some e ∧ e.state = .toReject ∧ atBeltEnd e s = true := by
  unfold beltEndDue
  cases findEntry n s <;> simp

/-- A rejected entry that has reached the belt end leaves the queue, counted under its reason (R66). -/
theorem beltEnd_of_due (found : findEntry n s = some e) (rejected : e.state = .toReject)
    (beyond : atBeltEnd e s = true) :
    exec (.beltEndPassage n) s = .next (finish (tally (countVerdict e.verdict) (removeEntry n s))) := by
  have due : beltEndDue s n = true := (beltEndDue_iff n s).mpr ⟨e, found, rejected, beyond⟩
  have is : exec (.beltEndPassage n) s = .next (passBeltEnd s n) := rfl
  have drop : dropAtBeltEnd n s = tally (countVerdict e.verdict) (removeEntry n s) := by
    unfold dropAtBeltEnd
    rw [found]
    dsimp only
    rw [if_pos (by rw [rejected, beyond]; rfl)]
  rw [is, passBeltEnd, if_pos due, drop]

theorem beltEnd_idle (found : findEntry n s = some e)
    (early : e.state ≠ .toReject ∨ ∀ d, s.geometry.beltEnd = some d → travelOf e s < d) :
    exec (.beltEndPassage n) s = .next s := by
  have idle : ¬beltEndDue s n = true := by
    rw [beltEndDue_iff, found]
    rintro ⟨x, is, rejected, beyond⟩
    cases is
    obtain ⟨d, is, past⟩ := (atBeltEnd_iff e s).mp beyond
    rcases early with other | short
    · exact other rejected
    · exact absurd past (Nat.not_le.mpr (short d is))
  have is : exec (.beltEndPassage n) s = .next (passBeltEnd s n) := rfl
  rw [is, passBeltEnd, if_neg idle]

/-- The reason that a REJECT tally counts (Table 9-3). -/
def reasonAt (i : Fin 10) : RejectReason :=
  #v[.offGauge, .noGrade, .mismatch, .ungraded, .crowded, .outOfStep, .noBin, .redryMissed, .binLost, .modeStop][i]

theorem reasonAt_idx (why : RejectReason) : reasonAt why.idx = why := by cases why <;> rfl

/-- No two reasons share a tally. -/
theorem idx_injective : Function.Injective RejectReason.idx := Function.LeftInverse.injective reasonAt_idx

/-- A rejected entry taken off the belt, and the end of the event (R52, R66). -/
theorem removed_effect (n : EntryId) (why : RejectReason) (x : Option Computed) (s : State) :
    let t := finish (tally (countVerdict (some (.reject why x))) (removeEntry n s))
    BeltFrame s t ∧ t.tracker.queue = s.tracker.queue.eraseP (fun y => y.id == n)
    ∧ t.tracker.mismatches = s.tracker.mismatches
    ∧ t.tallies.rejects[why.idx] = min 4294967295 (s.tallies.rejects[why.idx] + 1)
    ∧ (∀ other : RejectReason, other ≠ why → t.tallies.rejects[other.idx] = s.tallies.rejects[other.idx])
    ∧ (EntriesDistinct s → EyeFollows s t) := by
  intro t
  have rejects : t.tallies.rejects
      = vset s.tallies.rejects why.idx (tallyAdd 1 s.tallies.rejects[why.idx]) := finish_rejects _
  have leave := (EntriesLeave.removeEntry n s).trans (.of_tracker (tally_tracker (countVerdict (some (.reject why x))) _))
  refine ⟨?_, ?_, ?_, ?_, fun other apart => ?_, (leave.trans (.finish _)).eye⟩
  · exact ((removeEntry_beltFrame n s).trans (tally_beltFrame _ _)).trans (finish_beltFrame _)
  · rw [finish_tracker]
    rfl
  · rw [finish_tracker]
    rfl
  · rw [rejects, vset_get_self]
    rfl
  · rw [rejects, vset_get_ne _ _ _ _ fun same => apart (idx_injective same)]

end

/-- Settles O33: each passage is the event that its `due` test lets in, and nothing otherwise. -/
theorem decisionPointAndBeltEnd : Obligations.DecisionPointAndBeltEnd := by
  unfold Obligations.DecisionPointAndBeltEnd
  intro n e s found
  refine ⟨fun waits past => ⟨_, expireDecision_of_due found waits past, expired_effect found⟩,
    decisionPoint_idle found, fun d why x rejected verdict is past => ⟨_, ?_, removed_effect n why x s⟩,
    beltEnd_idle found⟩
  rw [beltEnd_of_due found rejected ((atBeltEnd_iff e s).mpr ⟨d, is, past⟩), verdict]

end Sys2Proof.Machine
end

section
/-! SUPPORT. The four gate passages (R67, R88 to R90): when each is due, and what it leaves. -/

namespace Sys2Proof.Machine

section
variable {n : EntryId} {e : Entry} {s : State} (found : findEntry n s = some e)
include found

/-! ### When a gate passage is due (R51, R67, R88, R89, R90) -/

theorem gateOpenDue_iff {b : BinNo} {p q : Travel} (routed : e.state = .routed b p q) :
    gateOpenDue s n = true ↔ travelled p e.lead ≤ travelOf e s := by
  simp only [gateOpenDue, found, routed, decide_eq_true_eq]

theorem gateCloseDue_iff {b : BinNo} {p q : Travel} {l : Nat} (landing : e.state = .landing b p q false)
    (length : e.eyeLen = some l) : gateCloseDue s n = true ↔ travelled q e.lead + l ≤ travelOf e s := by
  simp only [gateCloseDue, found, landing, trailingPast, length, Bool.not_false, Bool.true_and, decide_eq_true_eq]

theorem redryOpenDue_iff {p q : Travel} (toRedry : e.state = .toRedry p q false) :
    redryOpenDue s n = true ↔ travelled p e.lead ≤ travelOf e s := by
  simp only [redryOpenDue, found, toRedry, Bool.not_false, Bool.true_and, decide_eq_true_eq]

theorem redryCloseDue_iff {p q : Travel} {opened : Bool} {l : Nat} (toRedry : e.state = .toRedry p q opened)
    (length : e.eyeLen = some l) : redryCloseDue s n = true ↔ travelled q e.lead + l ≤ travelOf e s := by
  simp only [redryCloseDue, found, toRedry, trailingPast, length, decide_eq_true_eq]

/-! ### An entry's passage of a gate point (R88, R89, R90) -/

/-- An entry that passes a gate point changes its state, and every gate is brought up to date; nothing else happens. -/
theorem setEntry_syncGates_effect {f : Entry → Entry} (keeps : ∀ x, (f x).id = x.id) :
    let t := syncGates (setEntry n f s)
    BeltFrame s t ∧ findEntry n t = some (f e) ∧ GatesUpToDate t
    ∧ (∀ c : BinNo, (t.bin c).state = (s.bin c).state)
    ∧ t.tallies = s.tallies ∧ t.events = s.events ∧ t.outfeed = s.outfeed ∧ t.slots = s.slots := by
  refine ⟨(setEntry_beltFrame n f s).trans (syncGates_beltFrame _), ?_, syncGates_gates _,
    fun c => syncGates_bin_state _ c, rfl, rfl, rfl, rfl⟩
  rw [findEntry_congr (congrArg Tracker.queue (syncGates_tracker _))]
  exact findEntry_setEntry_self found (keeps e)

/-- The gate of a bin that takes sheets is open while an entry is under it (R89). -/
theorem GatesUpToDate.open_of_under {b : BinNo} (up : GatesUpToDate s) (under : e.underGate b = true)
    (takes : (s.bin b).state.takesSheets = true) : (s.bin b).gate = true := by
  rw [up.1 b, gateDue, takes, Bool.true_and]
  exact List.any_eq_true.mpr ⟨e, findEntry_mem found, under⟩

/-- The redry gate is open while an entry is under it (R90). -/
theorem GatesUpToDate.redry_of_under (up : GatesUpToDate s) (under : e.underRedry = true) : s.redryGate = true := by
  rw [up.2]
  exact List.any_eq_true.mpr ⟨e, findEntry_mem found, under⟩

end

/-! ### The end of a drain and the tallies (R122, R167) -/

/-- The end of an event counts closed lifts, and no other tally. -/
theorem finish_tally {α : Type} (count : Tallies → α) (other : ∀ t why, count (t.countClosed why) = count t)
    (s : State) : count (finish s).tallies = count s.tallies := by
  have drain (b : BinNo) (s : State) : count (completeDrain b s).tallies = count s.tallies := by
    rcases completeDrain_cases b s with ⟨same, -⟩ | ⟨why, l, -, -, -, same⟩ | ⟨why, l, -, -, -, same⟩ <;> rw [same]
    · rfl
    · exact other s.tallies why
  have drains (s : State) : count (completeDrains s).tallies = count s.tallies :=
    foldl_rel (fun s t => count t.tallies = count s.tallies) (fun _ => rfl) (fun _ _ _ h k => k.trans h) _
      (fun s b => drain b s) _ s
  rw [finish, closeEvent_tallies]
  rcases endDrainIfDue_cases s with ⟨-, -, same⟩ | ⟨-, same⟩ <;> rw [same]
  rw [endDrain, setMode_tallies, drains, drainBins_tallies]

/-- A sheet that the redry gate has taken leaves the queue, counted REDRY (R52, R67). -/
theorem redried_effect (n : EntryId) (s : State) :
    let t := finish (tally (fun t => { t with redry := tallyAdd 1 t.redry }) (removeEntry n s))
    BeltFrame s t ∧ t.tracker.queue = s.tracker.queue.eraseP (fun y => y.id == n)
    ∧ t.tallies.redry = min 4294967295 (s.tallies.redry + 1)
    ∧ (EntriesDistinct s → EyeFollows s t) ∧ GatesUpToDate t := by
  intro t
  have leave := (EntriesLeave.removeEntry n s).trans
    (.of_tracker (tally_tracker (fun t => { t with redry := tallyAdd 1 t.redry }) _))
  refine ⟨((removeEntry_beltFrame n s).trans (tally_beltFrame _ _)).trans (finish_beltFrame _), ?_,
    finish_tally Tallies.redry (fun _ _ => rfl) _, (leave.trans (.finish _)).eye, finish_gates _⟩
  rw [finish_tracker]
  rfl

/-! ### The passages as commands -/

theorem exec_gateOpenPassage (n : EntryId) (s : State) : exec (.gateOpenPassage n) s = .next (passGateOpen s n) := rfl

theorem exec_gateClosePassage (n : EntryId) (s : State) :
    exec (.gateClosePassage n) s = .next (passGateClose s n) := rfl

theorem exec_redryGateOpenPassage (n : EntryId) (s : State) :
    exec (.redryGateOpenPassage n) s = .next (passRedryOpen s n) := rfl

theorem exec_redryGateClosePassage (n : EntryId) (s : State) :
    exec (.redryGateClosePassage n) s = .next (passRedryClose s n) := rfl

/-- Settles O34: each passage acts exactly when it is due, and then moves its entry and brings the gates up to date. -/
theorem gatePassages : Obligations.GatePassages := by
  unfold Obligations.GatePassages
  intro n e s found
  refine ⟨fun b p q routed => ?_, fun b p q l landing length => ?_, fun p q toRedry => ?_,
    fun p q opened l toRedry length => ?_⟩
  · rw [exec_gateOpenPassage, passGateOpen, ← gateOpenDue_iff found routed, ← not_le, ← gateOpenDue_iff found routed]
    refine ⟨fun due => ⟨_, by rw [if_pos due], ?_⟩, fun early => by rw [if_neg early]⟩
    obtain ⟨frame, moved, gates, states, rest⟩ :=
      setEntry_syncGates_effect found (f := fun e => { e with state := e.state.beginLanding }) (fun _ => rfl)
    rw [routed] at moved
    refine ⟨frame, moved, gates, fun takes => ?_, states, rest⟩
    exact gates.open_of_under moved (by simp [Entry.underGate, EntryState.beginLanding]) ((states b).symm ▸ takes)
  · rw [exec_gateClosePassage, passGateClose, ← gateCloseDue_iff found landing length, ← not_le,
      ← gateCloseDue_iff found landing length]
    refine ⟨fun due => ⟨_, by rw [if_pos due], ?_⟩, fun early => by rw [if_neg early]⟩
    have effect := setEntry_syncGates_effect found (f := fun e => { e with state := e.state.passClose }) (fun _ => rfl)
    rwa [landing] at effect
  · rw [exec_redryGateOpenPassage, passRedryOpen, ← redryOpenDue_iff found toRedry, ← not_le,
      ← redryOpenDue_iff found toRedry]
    refine ⟨fun due => ⟨_, by rw [if_pos due], ?_⟩, fun early => by rw [if_neg early]⟩
    obtain ⟨frame, moved, gates, rest⟩ :=
      setEntry_syncGates_effect found (f := fun e => { e with state := e.state.passRedryOpen }) (fun _ => rfl)
    rw [toRedry] at moved
    exact ⟨frame, moved, gates.redry_of_under moved rfl, rest⟩
  · rw [exec_redryGateClosePassage, passRedryClose, ← redryCloseDue_iff found toRedry length, ← not_le,
      ← redryCloseDue_iff found toRedry length]
    exact ⟨fun due => ⟨_, by rw [if_pos due], redried_effect n s⟩, fun early => by rw [if_neg early]⟩

end Sys2Proof.Machine
end

section
/-! SUPPORT. What a command keeps of the routing (chapter 4): the geometry, which only a geometry write and a full reset
replace (R74), and the gates, which stay as R89 and R90 have them. The taking of a request and the ends of an event
first, then each command in turn. -/

namespace Sys2Proof.Machine

/-! ### The geometry and the gates from one state to the next -/

/-- The geometry is the same, and the gates stay up to date (R74, R89, R90). -/
structure RoutingKept (s t : State) : Prop where
  geometry : t.geometry = s.geometry
  gates : GatesUpToDate s → GatesUpToDate t

namespace RoutingKept

variable {s t u : State}

theorem trans (h : RoutingKept s t) (k : RoutingKept t u) : RoutingKept s u :=
  ⟨k.geometry.trans h.geometry, fun x => k.gates (h.gates x)⟩

/-- The queue may change in what no gate depends on. -/
theorem of_queue (bins : t.bins = s.bins) (redryGate : t.redryGate = s.redryGate) (geometry : t.geometry = s.geometry)
    (under : ∀ b, t.tracker.queue.any (Entry.underGate b) = s.tracker.queue.any (Entry.underGate b))
    (redry : t.tracker.queue.any Entry.underRedry = s.tracker.queue.any Entry.underRedry) : RoutingKept s t := by
  refine ⟨geometry, fun ⟨gates, redryGates⟩ => ⟨fun b => ?_, ?_⟩⟩
  · have gate := gates b
    unfold gateDue State.bin at *
    rwa [bins, under]
  · unfold redryDue at *
    rwa [redryGate, redry]

theorem of_same (bins : t.bins = s.bins) (redryGate : t.redryGate = s.redryGate)
    (geometry : t.geometry = s.geometry) (tracker : t.tracker = s.tracker) : RoutingKept s t :=
  of_queue bins redryGate geometry (fun _ => by rw [tracker]) (by rw [tracker])

theorem refl (s : State) : RoutingKept s s := of_same rfl rfl rfl rfl

theorem foldl {α : Type} (f : State → α → State) (h : ∀ s a, RoutingKept s (f s a)) (l : List α) (s : State) :
    RoutingKept s (l.foldl f s) :=
  foldl_rel RoutingKept refl (fun _ _ _ => trans) f h l s

theorem ite {c : Prop} [Decidable c] (h : c → RoutingKept s t) (k : ¬c → RoutingKept s u) :
    RoutingKept s (if c then t else u) := by
  split
  · exact h ‹_›
  · exact k ‹_›

/-- The end of an event brings the gates up to date, whatever the event did to them (R89, R90). -/
theorem closeEvent (geometry : t.geometry = s.geometry) : RoutingKept s (closeEvent t) :=
  ⟨(closeEvent_geometry t).trans geometry, fun _ => closeEvent_gates t⟩

theorem finish (geometry : t.geometry = s.geometry) : RoutingKept s (finish t) :=
  ⟨(finish_geometry t).trans geometry, fun _ => finish_gates t⟩

theorem done (h : RoutingKept s t) (r : Req) (k : ReqKind) (x : Result) : RoutingKept s (done r k x t) :=
  h.trans (of_same rfl rfl rfl rfl)

end RoutingKept

theorem PassFrame.routing {s t : State} (h : PassFrame s t) : RoutingKept s t :=
  .of_same h.bins h.redryGate h.geometry h.tracker

theorem matchingPass_routing (s : State) : RoutingKept s (matchingPass s) := (matchingPass_passFrame s).routing

/-- A bin replaced by one with its gate as it was, FILLING or DRAIN_CLOSE exactly when it was. -/
theorem setBin_routing {b : BinNo} {f : Bin → Bin} {s : State}
    (gate : GatesUpToDate s → (f (s.bin b)).gate = (s.bin b).gate)
    (takes : (f (s.bin b)).state.takesSheets = (s.bin b).state.takesSheets) : RoutingKept s (setBin b f s) := by
  refine ⟨rfl, fun up => up.of_same (fun c => ?_) (fun c => ?_) rfl rfl⟩
  · rw [setBin_bin]
    split
    · next same => rw [same, gate up]
    · rfl
  · rw [setBin_bin]
    split
    · next same => rw [same, takes]
    · rfl

@[simp] theorem setMode_geometry (m : SortMode) (s : State) : (setMode m s).geometry = s.geometry := by
  unfold setMode
  split <;> rfl

theorem setMode_routing (m : SortMode) (s : State) : RoutingKept s (setMode m s) := by
  unfold setMode
  exact .ite (fun _ => .refl s) fun _ => .of_same rfl rfl rfl rfl

/-! ### The taking of a request (R177) -/

theorem refuse_routing (r : Req) (k : ReqKind) (why : RefusalReason) (s : State) : RoutingKept s (refuse r k why s) :=
  .of_same rfl rfl rfl rfl

theorem refuseWith_routing (r : Req) (k : ReqKind) (f : FailureReport) (s : State) :
    RoutingKept s (refuseWith r k f s) :=
  .of_same rfl rfl rfl rfl

theorem refuseRecorded_routing (r : Req) (k : ReqKind) (why : RefusalReason) (target : Option Target) (s : State) :
    RoutingKept s (refuseRecorded r k why target s) :=
  .of_same rfl rfl rfl rfl

theorem done_routing (r : Req) (k : ReqKind) (x : Result) (s : State) : RoutingKept s (done r k x s) :=
  (RoutingKept.refl s).done r k x

theorem freeBuffer_routing (p : Port) (s : State) : RoutingKept s (freeBuffer p s) := .of_same rfl rfl rfl rfl

section
variable {r : Req} {k : ReqKind} {c : Instr} {s : State} {f : State → State}

theorem takeFrame_routing {p : Port} {test : Frame → Bool} (h : ∀ t, RoutingKept t (f t)) :
    RoutingKept s (takeFrame p test f s) := by
  rcases takeFrame_cases p test f s with ⟨-, is⟩ | ⟨-, is⟩ <;> rw [is]
  · exact (freeBuffer_routing p s).trans (h _)
  · exact .refl s

variable (h : ∀ t, RoutingKept t (f t))
include h

theorem take_routing : RoutingKept s (take r k c f s) := takeFrame_routing h

theorem serve_routing {g : Option Target} : RoutingKept s (serve r k c g f s) :=
  take_routing fun t =>
    .ite (fun _ => .ite (fun _ => h t) fun _ => refuse_routing _ _ _ _) fun _ => refuseRecorded_routing _ _ _ _ _

theorem serveWrite_routing : RoutingKept s (serveWrite r k c f s) :=
  take_routing fun t =>
    .ite (fun _ => .ite (fun _ => refuseRecorded_routing _ _ _ _ _)
      fun _ => .ite (fun _ => h t) fun _ => refuse_routing _ _ _ _) fun _ => refuseRecorded_routing _ _ _ _ _

end

theorem serveQuery_routing (r : Req) (c : Instr) (x : Subject) (first : Nat) (count : State → Nat)
    (data : State → QueryData) (s : State) : RoutingKept s (serveQuery r c x first count data s) :=
  take_routing fun _ =>
    .ite (fun _ => .ite (fun _ => done_routing _ _ _ _) fun _ => refuse_routing _ _ _ _)
      fun _ => refuseRecorded_routing _ _ _ _ _

/-- Every next state that an outcome answers keeps the routing. -/
def OutcomeRouting (s : State) (o : Host.Outcome State Fault Refusal) : Prop := ∀ t, o = .next t → RoutingKept s t

theorem OutcomeRouting.next {s t : State} (h : RoutingKept s t) : OutcomeRouting s (.next t) := by
  rintro _ ⟨⟩
  exact h

theorem OutcomeRouting.fault {s : State} (why : Fault) : OutcomeRouting s (.fault why) := by
  rintro _ ⟨⟩

/-! ### The recipe banks (chapter 2) -/

section
variable (r : Req) (s : State)

theorem storeBank_routing (k : ReqKind) (b : Bank) : RoutingKept s (storeBank r k b s) := .of_same rfl rfl rfl rfl

theorem execSelectBank_routing (n : Nat) : OutcomeRouting s (execSelectBank r n s) := by
  refine .next (serve_routing fun t => ?_)
  split
  · exact .of_same rfl rfl rfl rfl
  · exact refuse_routing _ _ _ t

theorem execWriteClasses_routing (l : List (Option ClassRange)) : OutcomeRouting s (execWriteClasses r l s) := by
  refine .next (serveWrite_routing fun t => ?_)
  split
  · exact storeBank_routing r t _ _
  · exact refuse_routing _ _ _ t

theorem execWriteWeights_routing (l : List Byte) : OutcomeRouting s (execWriteWeights r l s) := by
  refine .next (serveWrite_routing fun t => ?_)
  split
  · exact storeBank_routing r t _ _
  · exact refuse_routing _ _ _ t

theorem execWriteLimits_routing (x w : Nat) : OutcomeRouting s (execWriteLimits r x w s) :=
  .next (serveWrite_routing fun t => .ite (fun _ => storeBank_routing r t _ _) fun _ => refuse_routing _ _ _ t)

theorem execWriteGrade_routing (pos : Nat) (g : GradeRule) : OutcomeRouting s (execWriteGrade r pos g s) :=
  .next (serveWrite_routing fun t => .ite (fun _ => storeBank_routing r t _ _) fun _ => refuse_routing _ _ _ t)

theorem execDeleteGrade_routing (pos : Nat) : OutcomeRouting s (execDeleteGrade r pos s) :=
  .next (serveWrite_routing fun t => .ite (fun _ => storeBank_routing r t _ _) fun _ => refuse_routing _ _ _ t)

theorem execClearBank_routing : OutcomeRouting s (execClearBank r s) :=
  .next (serveWrite_routing fun t => storeBank_routing r t _ _)

theorem execReadBank_routing (n : Nat) : OutcomeRouting s (execReadBank r n s) := by
  refine .next (serve_routing fun t => ?_)
  split
  · exact done_routing _ _ _ t
  · exact refuse_routing _ _ _ t

theorem execReadGrade_routing (n pos : Nat) : OutcomeRouting s (execReadGrade r n pos s) := by
  refine .next (serve_routing fun t => ?_)
  split
  · split
    · exact .ite (fun _ => done_routing _ _ _ t) fun _ => refuse_routing _ _ _ t
    · exact refuse_routing _ _ _ t
  · exact refuse_routing _ _ _ t

theorem execValidate_routing (n : Nat) : OutcomeRouting s (execValidate r n s) := by
  refine .next (serve_routing fun t => ?_)
  split
  · split
    · exact refuseWith_routing _ _ _ t
    · exact .of_same rfl rfl rfl rfl
  · exact refuse_routing _ _ _ t

theorem execActivate_routing (n : Nat) : OutcomeRouting s (execActivate r n s) := by
  refine .next (serve_routing fun t => ?_)
  split
  · refine .ite (fun _ => done_routing _ _ _ t) fun _ => ?_
    split
    · exact refuseWith_routing _ _ _ t
    · exact .closeEvent (by rw [done_geometry, completeDrains_geometry, drainBins_geometry, switchBank_eq])
  · exact refuse_routing _ _ _ t

/-! ### The modes (chapter 9) -/

theorem execStart_routing : OutcomeRouting s (execStart r s) := by
  refine .next (serve_routing fun t => ?_)
  have runs := (setMode_routing .run t).done r .start (.mode .run)
  split
  · exact refuse_routing _ _ _ t
  · exact runs
  · exact .ite (fun _ => refuse_routing _ _ _ t) fun _ => runs

theorem execDrain_routing : OutcomeRouting s (execDrain r s) :=
  .next (serve_routing fun t => .ite
    (fun _ => .closeEvent (by rw [done_geometry, endDrainIfDue_geometry, setMode_geometry]))
    fun _ => refuse_routing _ _ _ t)

theorem execStop_routing : OutcomeRouting s (execStop r s) :=
  .next (serve_routing fun t => .ite (fun _ => refuse_routing _ _ _ t) fun _ =>
    .closeEvent (by rw [done_geometry, setMode_geometry, (discardQueue_beltFrame t).geometry]))

theorem emptyQueues_geometry : (emptyQueues s).geometry = s.geometry := rfl

theorem discardPulls_geometry : (discardPulls s).geometry = s.geometry := by
  rw [discardPulls, setArbiter_geometry]

theorem execRestart_routing : OutcomeRouting s (execRestart r s) := by
  refine .next (serve_routing fun t => .closeEvent ?_)
  rw [done_geometry, emptyQueues_geometry, setMode_geometry, discardPulls_geometry, (discardQueue_beltFrame t).geometry]

theorem execTallyRead_routing (bank : Option Nat) : OutcomeRouting s (execTallyRead r bank s) := by
  refine .next (serve_routing fun t => ?_)
  split
  · exact done_routing _ _ _ t
  · split
    · exact done_routing _ _ _ t
    · exact refuse_routing _ _ _ t

/-! ### The bins (chapters 5 and 6) -/

theorem clearFaulted_geometry (b : BinNo) (lift : Option Lift) : (clearFaulted r b lift s).geometry = s.geometry := by
  unfold clearFaulted
  split
  · rfl
  · simp only [apply_ite State.geometry, done_geometry, discardLift_geometry, closeLift_geometry, waitForOutfeed_geometry,
      setBin_geometry, ite_self]

theorem execClearBin_routing (n : Nat) : OutcomeRouting s (execClearBin r n s) := by
  refine .next (serve_routing fun t => ?_)
  split
  · exact refuse_routing _ _ _ t
  · split
    · exact .ite (fun _ => refuse_routing _ _ _ t) fun _ => .closeEvent (clearFaulted_geometry r t _ _)
    · exact refuse_routing _ _ _ t

/-- The gate of a bin that is OFFLINE is closed already (R89). -/
theorem execBinOnline_routing (n : Nat) : OutcomeRouting s (execBinOnline r n s) := by
  refine .next (serve_routing fun t => ?_)
  split
  · exact refuse_routing _ _ _ t
  · next b _ =>
    refine .ite (fun _ => refuse_routing _ _ _ t) fun online => .ite (fun _ => refuse_routing _ _ _ t) fun _ => ?_
    have offline : (t.bin b).state = .offline := by
      by_contra other
      exact online (.inl other)
    have readied : RoutingKept t (setBin b (fun x => { x with state := .ready, suspicion := 0, gate := false }) t) := by
      refine setBin_routing (fun up => ?_) (by rw [offline]; rfl)
      rw [up.1 b, gateDue, offline]
      rfl
    exact readied.done _ _ _

theorem takeOffline_routing {b : BinNo} (away : (s.bin b).state.takesSheets = false) :
    RoutingKept s (takeOffline b s) :=
  setBin_routing (fun _ => rfl) away.symm

theorem execBinOffline_routing (n : Nat) : OutcomeRouting s (execBinOffline r n s) := by
  refine .next (serve_routing fun t => ?_)
  split
  · exact refuse_routing _ _ _ t
  · next b _ =>
    split
    · next ready => exact (takeOffline_routing t (ready ▸ rfl)).done _ _ _
    · next faulted => exact (takeOffline_routing t (faulted ▸ rfl)).done _ _ _
    · next why l faulted =>
      have offline : ((takeOffline b t).bin b).state = .offline := setBin_state_self _ b t
      have discarded : RoutingKept (takeOffline b t) (discardLift b .binOffline l .offline (takeOffline b t)) :=
        RoutingKept.trans (setBin_routing (f := fun x => { x with state := .offline }) (fun _ => rfl)
          (by rw [offline])) (.of_same rfl rfl rfl rfl)
      exact ((takeOffline_routing t (faulted ▸ rfl)).trans discarded).done _ _ _
    · exact refuse_routing _ _ _ t

theorem closeShort_geometry (b : BinNo) (l : Lift) : (closeShort b l s).geometry = s.geometry :=
  completeDrain_geometry b _

theorem execCloseBin_routing (n : Nat) : OutcomeRouting s (execCloseBin r n s) := by
  refine .next (serve_routing fun t => ?_)
  split
  · exact refuse_routing _ _ _ t
  · split
    · exact .closeEvent (closeShort_geometry t _ _)
    · exact refuse_routing _ _ _ t

theorem execForceClose_routing (code : Nat) (cls : Option Nat) : OutcomeRouting s (execForceClose r code cls s) := by
  refine .next (take_routing fun t => ?_)
  split
  · refine .ite (fun _ => refuseRecorded_routing _ _ _ _ t) fun _ => .ite (fun _ => refuse_routing _ _ _ t) fun _ => ?_
    split
    · exact refuse_routing _ _ _ t
    · exact .closeEvent (closeShort_geometry t _ _)
  · exact refuseRecorded_routing _ _ _ _ t

/-! ### The outfeed and the slots (chapter 7) -/

theorem execWriteEjectTimeout_routing (n : Nat) : OutcomeRouting s (execWriteEjectTimeout r n s) := by
  refine .next (serve_routing fun t => .ite (fun _ => ?_) fun _ => refuse_routing _ _ _ t)
  exact .of_same rfl rfl rfl rfl

theorem execClearOutfeed_routing : OutcomeRouting s (execClearOutfeed r s) := by
  refine .next (serve_routing fun t => .ite (fun _ => .closeEvent ?_) fun _ => refuse_routing _ _ _ t)
  rfl

theorem execSlotOnline_routing (n : Nat) : OutcomeRouting s (execSlotOnline r n s) := by
  refine .next (serve_routing fun t => ?_)
  split
  · exact refuse_routing _ _ _ t
  · exact .ite (fun _ => refuse_routing _ _ _ t) fun _ => .ite (fun _ => refuse_routing _ _ _ t) fun _ => .closeEvent rfl

theorem execSlotOffline_routing (n : Nat) : OutcomeRouting s (execSlotOffline r n s) := by
  refine .next (serve_routing fun t => ?_)
  split
  · exact refuse_routing _ _ _ t
  · exact .ite (fun _ => .of_same rfl rfl rfl rfl) fun _ => refuse_routing _ _ _ t

theorem execClearSlot_routing (n : Nat) : OutcomeRouting s (execClearSlot r n s) := by
  refine .next (serve_routing fun t => ?_)
  split
  · exact refuse_routing _ _ _ t
  · exact .ite (fun _ => refuse_routing _ _ _ t) fun _ => .ite (fun _ => refuse_routing _ _ _ t) fun _ => .closeEvent rfl

theorem completeEjection_routing (b : BinNo) (n : SlotNo) : RoutingKept s (completeEjection b n s) := by
  unfold completeEjection
  split
  · exact .closeEvent (matchingPass_geometry _)
  · exact .refl s

theorem execSlotEyeBlocked_routing (n : SlotNo) : OutcomeRouting s (execSlotEyeBlocked n s) := by
  refine .next (.ite (fun _ => .refl s) fun _ => ?_)
  dsimp only
  split
  · exact .of_same rfl rfl rfl rfl
  · refine RoutingKept.trans ?_ (completeEjection_routing _ _ n)
    exact .of_same rfl rfl rfl rfl
  · exact .of_same rfl rfl rfl rfl

theorem takenRemoval_routing (n : SlotNo) (l : Lift) (p : Pull) : RoutingKept s (takenRemoval n l p s) := by
  unfold takenRemoval
  exact .closeEvent (matchingPass_geometry _)

theorem unclaimedRemoval_routing (n : SlotNo) (l : Lift) : RoutingKept s (unclaimedRemoval n l s) := by
  unfold unclaimedRemoval
  exact .closeEvent rfl

theorem execSlotEyeClears_routing (n : SlotNo) : OutcomeRouting s (execSlotEyeClears n s) := by
  refine .next (.ite (fun _ => .refl s) fun _ => ?_)
  have clears : RoutingKept s (setSlot n (fun x => { x with eye := false }) s) := .of_same rfl rfl rfl rfl
  dsimp only
  split
  · split
    · exact clears.trans (takenRemoval_routing _ n _ _)
    · exact clears.trans (unclaimedRemoval_routing _ n _)
  · exact clears

theorem timeOutEjection_routing : RoutingKept s (timeOutEjection s) :=
  ⟨timeOutEjection_geometry s, timeOutEjection_gates s⟩

/-! ### The settings and the pulls (chapter 8) -/

theorem execWriteLine_routing (line : Nat) (access : AccessSet) (force : Bool) (rank : Nat) :
    OutcomeRouting s (execWriteLine r line access force rank s) := by
  refine .next (serve_routing fun t => ?_)
  split
  · exact .ite (fun _ => .of_same rfl rfl rfl rfl) fun _ => refuse_routing _ _ _ t
  · exact refuse_routing _ _ _ t

theorem execWritePassLimit_routing (n : Nat) : OutcomeRouting s (execWritePassLimit r n s) := by
  refine .next (serve_routing fun t => .ite (fun _ => ?_) fun _ => refuse_routing _ _ _ t)
  exact .of_same rfl rfl rfl rfl

theorem execWriteHandoverTimeout_routing (n : Nat) : OutcomeRouting s (execWriteHandoverTimeout r n s) := by
  refine .next (serve_routing fun t => .ite (fun _ => ?_) fun _ => refuse_routing _ _ _ t)
  exact .of_same rfl rfl rfl rfl

theorem execPull_routing (code : Nat) (bank cls : Option Nat) (nowait : Bool) :
    OutcomeRouting s (execPull r code bank cls nowait s) := by
  refine .next (take_routing fun t => ?_)
  split
  · refine .ite (fun _ => refuse_routing _ _ _ t) fun _ => .ite (fun _ => refuseRecorded_routing _ _ _ _ t) fun _ =>
      .ite (fun _ => refuse_routing _ _ _ t) fun _ => .ite (fun _ => refuse_routing _ _ _ t) fun _ =>
        RoutingKept.trans ?_ (matchingPass_routing _)
    exact .of_same rfl rfl rfl rfl
  · exact refuseRecorded_routing _ _ _ _ t

theorem giveBackLift_routing (number : Nat) : RoutingKept s (giveBackLift number s) := by
  unfold giveBackLift
  split
  · exact .of_same rfl rfl rfl rfl
  · exact .refl s

theorem execRelease_routing (number : Nat) : OutcomeRouting s (execRelease r number s) := by
  refine .next (take_routing fun t => ?_)
  split
  · refine .ite (fun _ => refuse_routing _ _ _ t) fun _ => ?_
    split
    · split
      · refine ((giveBackLift_routing t number).trans ?_).trans (matchingPass_routing _)
        exact .of_same rfl rfl rfl rfl
      · exact refuse_routing _ _ _ t
    · exact .ite (fun _ => refuse_routing _ _ _ t) fun _ => refuse_routing _ _ _ t
  · exact refuseRecorded_routing _ _ _ _ t

theorem execCancel_routing (number : Nat) : OutcomeRouting s (execCancel r number s) := by
  refine .next (take_routing fun t => ?_)
  split
  · refine .ite (fun _ => refuse_routing _ _ _ t) fun _ => ?_
    split
    · split
      · exact refuse_routing _ _ _ t
      · exact .of_same rfl rfl rfl rfl
    · exact refuse_routing _ _ _ t
  · exact refuseRecorded_routing _ _ _ _ t

theorem expireHandover_routing (i : LineNo) : RoutingKept s (expireHandover i s) := by
  unfold expireHandover
  split
  · refine RoutingKept.trans ?_ (matchingPass_routing _)
    exact .of_same rfl rfl rfl rfl
  · exact .refl s

/-! ### The links (chapter 10) -/

theorem execEventRead_routing (n : Nat) : OutcomeRouting s (execEventRead r n s) := by
  refine .next (serve_routing fun t => .ite (fun _ => ?_) fun _ => refuse_routing _ _ _ t)
  exact .of_same rfl rfl rfl rfl

theorem execUnknownRequest_routing (p : Port) (tag : Byte) (what : Unknown) :
    OutcomeRouting s (execUnknownRequest p tag what s) := by
  refine .next (takeFrame_routing fun t => ?_)
  cases what with
  | kind code => exact .of_same rfl rfl rfl rfl
  | subject => exact .ite (fun _ => refuse_routing _ _ _ t) fun _ => refuseRecorded_routing _ _ _ _ t

/-! ### The scan port and the belt (chapters 1 and 3) -/

theorem execSheetReport_routing (p : Port) (tag : Byte) (payload : List Byte) :
    OutcomeRouting s (execSheetReport p tag payload s) := by
  rcases sheetReport_cases p tag payload s with ⟨-, is⟩ | outcome
  · rw [is]
    exact .next (.refl s)
  · have taken {t : State} (h : RoutingKept (freeBuffer p s) t) : OutcomeRouting s (.next t) :=
      .next ((freeBuffer_routing p s).trans h)
    generalize execSheetReport p tag payload s = o at outcome
    cases outcome with
    | denied => exact taken (refuseRecorded_routing _ _ _ _ _)
    | invalid | outOfStep => exact taken (refuse_routing _ _ _ _)
    | noSheet =>
      exact taken (RoutingKept.trans (.ite (fun _ => .finish (countMismatch_geometry _)) fun _ => .refl _)
        (refuse_routing _ _ _ _))
    | noBank => exact .fault _
    | mismatch => exact taken (.finish (by rw [done_geometry, countMismatch_geometry, rejectEntry_geometry, setEntry_geometry]))
    | good => exact taken (.finish (by rw [done_geometry, applyRoute_geometry, setEntry_geometry, setMismatches_geometry]))

theorem execScanResync_routing : OutcomeRouting s (execScanResync r s) := by
  refine .next (serve_routing fun t => ?_)
  rw [setMismatches_zero]
  exact .of_queue rfl rfl rfl (fun _ => rfl) rfl

/-- The eye length of the newest entry is nothing that a gate depends on (R56). -/
theorem measureNewest_routing : RoutingKept s (measureNewest s) := by
  cases last : s.tracker.queue.getLast? with
  | none =>
    unfold measureNewest
    rw [last]
    exact .refl s
  | some e =>
    obtain ⟨front, queue⟩ := List.getLast?_eq_some_iff.mp last
    rw [measureNewest_eq s queue]
    refine .of_queue rfl rfl rfl (fun b => ?_) ?_
    all_goals
      rw [setTracker_tracker, queue, List.any_append, List.any_append]
      rfl

theorem execEntryEyeTrailingEdge_routing : OutcomeRouting s (execEntryEyeTrailingEdge s) :=
  .next (.ite (fun _ => .refl s) fun _ =>
    RoutingKept.trans (.ite (fun _ => measureNewest_routing s) fun _ => .refl s) (.of_queue rfl rfl rfl (fun _ => rfl) rfl))

/-- A sheet that enters is under no gate (R55). -/
theorem sheetEntered_routing : RoutingKept s (sheetEntered s) := by
  have queue : (sheetEntered s).tracker.queue = s.tracker.queue ++ [newEntry s] := rfl
  have apart : (∀ b, (newEntry s).underGate b = false) ∧ (newEntry s).underRedry = false := by
    unfold newEntry Entry.underGate Entry.underRedry
    by_cases out : s.sync = .outOfStep <;> simp [out]
  refine .of_queue rfl rfl rfl (fun b => ?_) ?_ <;> rw [queue, List.any_append]
  · simp [apart.1 b]
  · simp [apart.2]

theorem execEntryEyeLeadingEdge_routing : OutcomeRouting s (exec .entryEyeLeadingEdge s) := by
  rcases leadingEdge_cases s with ⟨-, is⟩ | ⟨-, -, is⟩ | ⟨-, -, -, is⟩ | ⟨-, -, -, is⟩ <;> rw [is]
  · exact .next (.refl s)
  · exact .next (.of_queue rfl rfl rfl (fun _ => rfl) rfl)
  · exact .next (.finish (setMismatches_geometry _ _))
  · exact .next (sheetEntered_routing s)

theorem execTravelPulse_routing : OutcomeRouting s (execTravelPulse s) :=
  .next (RoutingKept.trans (.of_queue rfl rfl rfl (fun _ => rfl) rfl)
    ⟨duePassages_geometry (countTravel s), duePassages_gates (countTravel s)⟩)

theorem setBinEye_routing (b : BinNo) (m : Option Travel) : RoutingKept s (setBin b (fun x => { x with eyeMark := m }) s) :=
  setBin_routing (fun _ => rfl) rfl

theorem execLandedEyeBlocked_routing (b : BinNo) : OutcomeRouting s (execLandedEyeBlocked b s) :=
  .next (.ite (fun _ => .refl s) fun _ => .finish (landedEdge_geometry b _))

/-! ### Every command, and one millisecond -/

/-- Every command keeps the routing, but for a geometry write and a full reset. -/
theorem exec_routing (c : Instr) (write : ∀ r p v, c ≠ .writeGeometry r p v) (reset : ∀ pins, c ≠ .fullReset pins) :
    OutcomeRouting s (exec c s) := by
  cases c with
  | writeGeometry r p v => exact absurd rfl (write r p v)
  | fullReset pins => exact absurd rfl (reset pins)
  | sheetReport p tag payload => exact execSheetReport_routing s p tag payload
  | scanResync r => exact execScanResync_routing r s
  | selectBank r n => exact execSelectBank_routing r s n
  | writeClasses r l => exact execWriteClasses_routing r s l
  | writeWeights r l => exact execWriteWeights_routing r s l
  | writeLimits r x w => exact execWriteLimits_routing r s x w
  | writeGrade r pos g => exact execWriteGrade_routing r s pos g
  | deleteGrade r pos => exact execDeleteGrade_routing r s pos
  | clearBank r => exact execClearBank_routing r s
  | readBank r n => exact execReadBank_routing r s n
  | readGrade r n pos => exact execReadGrade_routing r s n pos
  | validate r n => exact execValidate_routing r s n
  | activate r n => exact execActivate_routing r s n
  | clearBin r n => exact execClearBin_routing r s n
  | binOnline r n => exact execBinOnline_routing r s n
  | binOffline r n => exact execBinOffline_routing r s n
  | closeBin r n => exact execCloseBin_routing r s n
  | forceClose r code cls => exact execForceClose_routing r s code cls
  | writeEjectTimeout r n => exact execWriteEjectTimeout_routing r s n
  | clearOutfeed r => exact execClearOutfeed_routing r s
  | slotOnline r n => exact execSlotOnline_routing r s n
  | slotOffline r n => exact execSlotOffline_routing r s n
  | clearSlot r n => exact execClearSlot_routing r s n
  | writeLine r line access force rank => exact execWriteLine_routing r s line access force rank
  | writePassLimit r n => exact execWritePassLimit_routing r s n
  | writeHandoverTimeout r n => exact execWriteHandoverTimeout_routing r s n
  | pull r code bank cls nowait => exact execPull_routing r s code bank cls nowait
  | release r n => exact execRelease_routing r s n
  | cancel r n => exact execCancel_routing r s n
  | start r => exact execStart_routing r s
  | drain r => exact execDrain_routing r s
  | stop r => exact execStop_routing r s
  | restart r => exact execRestart_routing r s
  | tallyRead r bank => exact execTallyRead_routing r s bank
  | tallyClear | writeEventMask =>
    refine .next (serve_routing fun t => ?_)
    exact .of_same rfl rfl rfl rfl
  | eventRead r n => exact execEventRead_routing r s n
  | queryTracker | queryBins | queryStoredLifts | queryPulls | queryOutfeed | querySettings | queryLines
  | queryRefusals | queryPorts | queryMode => exact .next (serveQuery_routing _ _ _ _ _ _ s)
  | unknownRequest p tag what => exact execUnknownRequest_routing s p tag what
  | frameReceived | sendItem | interByteGapTimeout | partFrameEnds => exact .next (.of_same rfl rfl rfl rfl)
  | travelPulse => exact execTravelPulse_routing s
  | entryEyeLeadingEdge => exact execEntryEyeLeadingEdge_routing s
  | entryEyeTrailingEdge => exact execEntryEyeTrailingEdge_routing s
  | decisionPointPassage n => exact .next ⟨passDecision_geometry s n, passDecision_gates s n⟩
  | gateOpenPassage n => exact .next ⟨passGateOpen_geometry s n, passGateOpen_gates s n⟩
  | gateClosePassage n => exact .next ⟨passGateClose_geometry s n, passGateClose_gates s n⟩
  | landingWindowEnd n => exact .next ⟨passWindowEnd_geometry s n, passWindowEnd_gates s n⟩
  | redryGateOpenPassage n => exact .next ⟨passRedryOpen_geometry s n, passRedryOpen_gates s n⟩
  | redryGateClosePassage n => exact .next ⟨passRedryClose_geometry s n, passRedryClose_gates s n⟩
  | beltEndPassage n => exact .next ⟨passBeltEnd_geometry s n, passBeltEnd_gates s n⟩
  | eyeStuckPassage b => exact .next ⟨passEyeStuck_geometry s b, passEyeStuck_gates s b⟩
  | landedEyeBlocked b => exact execLandedEyeBlocked_routing s b
  | landedEyeClears b => exact .next (setBinEye_routing s b none)
  | drainCompletion b => exact .next (.closeEvent (completeDrain_geometry b s))
  | endOfDrain => exact .next (.finish rfl)
  | ejectionStart => exact .next ⟨ejectionTest_geometry s, ejectionTest_gates s⟩
  | slotEyeBlocked n => exact execSlotEyeBlocked_routing s n
  | slotEyeClears n => exact execSlotEyeClears_routing s n
  | ejectTimeout => exact .next (timeOutEjection_routing s)
  | handoverExpired line => exact .next (expireHandover_routing s line)

theorem tick_routing : RoutingKept s (tick s) := by
  have settled (t : State) : RoutingKept t (allFour.foldl settleHandover t) :=
    .foldl _ (fun t i => .ite (fun _ => expireHandover_routing t i) fun _ => .refl t) _ t
  have timers : RoutingKept s (tickTimers s) := .of_same rfl rfl rfl rfl
  unfold tick
  refine RoutingKept.trans ?_ (settled _)
  exact timers.trans (.ite (fun _ => timeOutEjection_routing _) fun _ => .refl _)

end

end Sys2Proof.Machine
end

section
/-! SUPPORT. WRITE_GEOMETRY (R74 to R78): what a replaced value leaves of the geometry, the nearer passages as commands, and
everything the request can do. -/

namespace Sys2Proof.Machine

/-! ### The value written (R74, R75) -/

theorem asBin_val (b : BinNo) : asBin b.val = some b := dif_pos b.isLt

theorem asBin_some {n : Nat} {b : BinNo} (h : asBin n = some b) : n = b.val := by
  unfold asBin at h
  split at h <;> cases h
  rfl

theorem GeomWriteFormed.bin_named {n : Nat} {v : Option Nat} (formed : GeomWriteFormed (.binPosition n) v) :
    ∃ b : BinNo, n = b.val := by
  obtain ⟨b, named⟩ := Option.isSome_iff_exists.mp ((asBin_isSome n).mpr (formed.bin n rfl))
  exact ⟨b, asBin_some named⟩

/-- A geometry write in form is of a value, or unsets the redry gate. -/
theorem GeomWriteFormed.cases {p : GeomParam} {v : Option Nat} (formed : GeomWriteFormed p v) :
    (∃ x, v = some x ∧ InTableRange x p) ∨ (v = none ∧ p = .redryGate) := by
  cases v with
  | none => exact .inr ⟨rfl, formed.unset rfl⟩
  | some x => exact .inl ⟨x, rfl, formed.range x rfl⟩

theorem put_binPosition (g : Geometry) (b : BinNo) (x : Nat) :
    g.put (.binPosition b.val) (some x) = { g with binPosition := vset g.binPosition b (some x) } := by
  simp only [Geometry.put, asBin_val]

theorem value_binPosition (g : Geometry) (b : BinNo) : g.value (.binPosition b.val) = g.binPosition[b] := by
  simp only [Geometry.value, Geometry.positionOf, asBin_val]

/-- A write in form leaves the value it names (R75). -/
theorem put_value_self {p : GeomParam} {v : Option Nat} (g : Geometry) (formed : GeomWriteFormed p v) :
    (g.put p v).value p = v := by
  rcases formed.cases with ⟨x, rfl, -⟩ | ⟨rfl, rfl⟩
  · cases p with
    | binPosition n =>
      obtain ⟨b, rfl⟩ := formed.bin_named
      rw [put_binPosition, value_binPosition, vset_get_self]
    | _ => rfl
  · rfl

/-- A write of a bin's position leaves the other bins' positions. -/
theorem put_binPosition_value_ne {m : Nat} {b : BinNo} (other : m ≠ b.val) (g : Geometry) (x : Nat) :
    (g.put (.binPosition b.val) (some x)).value (.binPosition m) = g.value (.binPosition m) := by
  rw [put_binPosition]
  cases named : asBin m with
  | none => simp only [Geometry.value, Geometry.positionOf, named]
  | some c =>
    obtain rfl := asBin_some named
    have apart : c ≠ b := fun same => other (congrArg Fin.val same)
    rw [value_binPosition, value_binPosition, vset_get_ne _ _ _ _ apart]

/-- A write leaves every value that it does not name (R75). -/
theorem put_value_ne {p q : GeomParam} {v : Option Nat} (g : Geometry) (formed : GeomWriteFormed p v) (other : q ≠ p) :
    (g.put p v).value q = g.value q := by
  rcases formed.cases with ⟨x, rfl, -⟩ | ⟨rfl, rfl⟩
  · cases p with
    | binPosition n =>
      obtain ⟨b, rfl⟩ := formed.bin_named
      cases q with
      | binPosition m => exact put_binPosition_value_ne (fun same => other (congrArg _ same)) g x
      | _ => rw [put_binPosition]; rfl
    | _ => cases q <;> trivial
  · cases q <;> trivial

/-! ### The ranges and the relations (R76) -/

theorem geometryInRange_iff (g : Geometry) : GeometryInRange g ↔ ∀ q x, g.value q = some x → InTableRange x q := by
  constructor
  · intro h q x is
    cases q with
    | decisionDistance => exact Option.some.inj is ▸ h.decisionDistance
    | gateLead => exact Option.some.inj is ▸ h.gateLead
    | gateHold => exact Option.some.inj is ▸ h.gateHold
    | landingAllowance => exact Option.some.inj is ▸ h.landingAllowance
    | eyeStuck => exact Option.some.inj is ▸ h.eyeStuck
    | minGap => exact Option.some.inj is ▸ h.minGap
    | lengthTolerance => exact Option.some.inj is ▸ h.lengthTolerance
    | redryGate => exact h.redryGate x is
    | beltEnd => exact h.beltEnd x is
    | binPosition n =>
      cases named : asBin n with
      | none => simp only [Geometry.value, Geometry.positionOf, named, reduceCtorEq] at is
      | some b =>
        obtain rfl := asBin_some named
        exact h.binPosition b x (value_binPosition g b ▸ is)
  · intro h
    exact ⟨h .decisionDistance _ rfl, h .gateLead _ rfl, h .gateHold _ rfl, h .landingAllowance _ rfl, h .eyeStuck _ rfl,
      h .minGap _ rfl, h .lengthTolerance _ rfl, fun b x is => h (.binPosition b.val) x ((value_binPosition g b).trans is),
      h .redryGate, h .beltEnd⟩

/-- A write in form keeps every value within its range. -/
theorem put_inRange {p : GeomParam} {v : Option Nat} {g : Geometry} (formed : GeomWriteFormed p v)
    (h : GeometryInRange g) : GeometryInRange (g.put p v) := by
  rw [geometryInRange_iff] at *
  intro q x is
  by_cases same : q = p
  · subst same
    exact formed.range x ((put_value_self g formed).symm.trans is)
  · exact h q x ((put_value_ne g formed same).symm.trans is)

theorem not_breaksBeltEnd_iff (g : Geometry) (position : Option Nat) :
    ¬BreaksBeltEnd g position ↔ ∀ x e, position = some x → g.beltEnd = some e → x < e := by
  simp only [BreaksBeltEnd, not_exists, not_and, not_not]

theorem geometryConsistent_iff (g : Geometry) :
    GeometryConsistent g ↔ (∀ b, ¬BreaksDecision g b) ∧ (∀ b : BinNo, ¬BreaksBeltEnd g g.binPosition[b])
      ∧ ¬BreaksBeltEnd g g.redryGate := by
  have decision (b : BinNo) :
      ¬BreaksDecision g b ↔ ∀ x, g.binPosition[b] = some x → g.decisionDistance + g.gateLead < x := by
    simp only [BreaksDecision, not_exists, not_and, not_not, Nat.lt_sub_iff_add_lt]
  simp only [decision, not_breaksBeltEnd_iff]
  exact ⟨fun h => ⟨h.beyondDecision, h.beforeBeltEnd, h.redryBeforeBeltEnd⟩, fun ⟨h, k, r⟩ => ⟨h, k, r⟩⟩

theorem geomConflict_none_iff (g : Geometry) (p : GeomParam) :
    geomConflict g p = none ↔ ∀ c, ¬ConflictNamed g c p := by
  simp only [Option.eq_none_iff_forall_ne_some, ne_eq, geomConflict_iff]

theorem redryConflict_none (g : Geometry) : redryConflict g = none ↔ ¬BreaksBeltEnd g g.redryGate := by
  simp only [Option.eq_none_iff_forall_ne_some, ne_eq, redryConflict_iff, not_and]
  exact ⟨fun h breaks => h _ breaks rfl, fun h _ breaks => absurd breaks h⟩

/-- A write in form that the consistency check lets pass keeps the relations: the check sees to those that the value
written takes part in, and the others are as they were. -/
theorem put_consistent {p : GeomParam} {v : Option Nat} {g : Geometry} (formed : GeomWriteFormed p v)
    (passes : geomConflict (g.put p v) p = none) (h : GeometryConsistent g) : GeometryConsistent (g.put p v) := by
  rw [geometryConsistent_iff] at *
  obtain ⟨decision, beltEnd, redry⟩ := h
  rcases formed.cases with ⟨x, rfl, -⟩ | ⟨rfl, rfl⟩
  · cases p with
    | decisionDistance => exact ⟨(decisionConflict_none _).mp passes, beltEnd, redry⟩
    | gateLead => exact ⟨(decisionConflict_none _).mp passes, beltEnd, redry⟩
    | binPosition n =>
      obtain ⟨b, rfl⟩ := formed.bin_named
      obtain ⟨decision', beltEnd'⟩ := Option.or_eq_none_iff.mp passes
      refine ⟨(decisionConflict_none _).mp decision', (beltEndConflict_none _).mp beltEnd', ?_⟩
      rw [put_binPosition]
      exact redry
    | beltEnd =>
      obtain ⟨beltEnd', redry'⟩ := Option.or_eq_none_iff.mp passes
      exact ⟨decision, (beltEndConflict_none _).mp beltEnd', (redryConflict_none _).mp redry'⟩
    | redryGate => exact ⟨decision, beltEnd, (redryConflict_none _).mp passes⟩
    | _ => exact ⟨decision, beltEnd, redry⟩
  · exact ⟨decision, beltEnd, (redryConflict_none _).mp passes⟩

theorem reset_consistent : GeometryConsistent Geometry.reset := by
  have unset (b : BinNo) : Geometry.reset.binPosition[b] = none := Vector.getElem_replicate b.isLt
  refine ⟨fun b p is => ?_, fun b p e is => ?_, nofun⟩ <;> rw [unset b] at is <;> cases is

theorem reset_inRange : GeometryInRange Geometry.reset := by
  have unset (b : BinNo) : Geometry.reset.binPosition[b] = none := Vector.getElem_replicate b.isLt
  refine ⟨by decide, by decide, by decide, by decide, by decide, by decide, by decide, fun b p is => ?_, nofun, nofun⟩
  rw [unset b] at is
  cases is

/-! ### The passages that a nearer distance brings (R64, R66, R78) -/

theorem nearer_iff (old new : Option Nat) :
    nearer old new = true ↔ ∃ x, new = some x ∧ ∀ y, old = some y → x < y := by
  cases old <;> cases new <;> simp [nearer]

/-- One passage for each sheet, as commands. -/
theorem execAll_sheets (c : EntryId → Instr) (pass : State → EntryId → State)
    (is : ∀ n s, exec (c n) s = .next (pass s n)) {s t : State} (queue : t.tracker.queue = s.tracker.queue) :
    execAll (s.tracker.queue.map fun e => c e.id) t = .next ((entriesWhere (fun _ => true) t).foldl pass t) := by
  rw [execAll_eq_foldl (fun e : Entry => c e.id) (fun t e => pass t e.id) fun e => is e.id, entriesWhere, queue,
    List.filter_true, List.foldl_map]

theorem nearerPassages_of_nearer {p : GeomParam} {old : Geometry} {s t : State}
    (near : nearer (old.value p) (t.geometry.value p) = true) (queue : t.tracker.queue = s.tracker.queue) :
    execAll (nearerCommands p s) t = .next (nearerPassages p old t) := by
  unfold nearerPassages
  rw [if_pos near]
  cases p with
  | decisionDistance => exact execAll_sheets .decisionPointPassage passDecision (fun _ _ => rfl) queue
  | beltEnd => exact execAll_sheets .beltEndPassage passBeltEnd (fun _ _ => rfl) queue
  | landingAllowance => exact execAll_sheets .landingWindowEnd passWindowEnd (fun _ _ => rfl) queue
  | eyeStuck => exact execAll_eq_foldl .eyeStuckPassage passEyeStuck (fun _ _ => rfl) allBins t
  | _ => rfl

theorem nearerPassages_of_not {p : GeomParam} {old : Geometry} {t : State}
    (far : ¬nearer (old.value p) (t.geometry.value p) = true) : nearerPassages p old t = t := by
  unfold nearerPassages
  rw [if_neg far]

/-! ### The request (R75 to R78) -/

/-- The one value replaced, and the DONE reply with it (R75). -/
def geometryWritten (r : Req) (p : GeomParam) (v : Option Nat) (s : State) : State :=
  { answered r.port (doneItem r .writeGeometry (.geometry p v)) s with geometry := s.geometry.put p v }

theorem geomBinBusy_iff (s : State) (p : GeomParam) :
    geomBinBusy s p = true ↔ ¬∀ b : BinNo, p = .binPosition b.val → (s.bin b).state = .offline := by
  cases p with
  | binPosition n =>
    cases named : asBin n with
    | none =>
      have nameless (b : BinNo) : n ≠ b.val := by
        rintro rfl
        rw [asBin_val] at named
        cases named
      simp [geomBinBusy, named, nameless]
    | some b =>
      obtain rfl := asBin_some named
      simp [geomBinBusy, named, Fin.val_inj]
  | _ => simp [geomBinBusy]

theorem not_geomBinBusy {s : State} {p : GeomParam}
    (offline : ∀ b : BinNo, p = .binPosition b.val → (s.bin b).state = .offline) : geomBinBusy s p = false := by
  rw [← Bool.not_eq_true, geomBinBusy_iff, not_not]
  exact offline

section
variable {r : Req} {p : GeomParam} {v : Option Nat} {s : State}
  (can : CanServe r .writeGeometry (.writeGeometry r p v) s)
include can

theorem writeGeometry_unformed (bad : ¬GeomWriteFormed p v) :
    exec (.writeGeometry r p v) s = .next (answered r.port (refusedItem r .writeGeometry .invalid) s) := by
  have check : geomFormed p v = false := by rwa [← Bool.not_eq_true, geomFormed_iff]
  refine congrArg Host.Outcome.next (serve_refuses can ?_)
  rw [check]
  rfl

variable (formed : GeomWriteFormed p v)
include formed

theorem writeGeometry_busy (busy : geomBinBusy s p = true) :
    exec (.writeGeometry r p v) s = .next (answered r.port (refusedItem r .writeGeometry .notNow) s) := by
  have check : geomBinBusy (freeBuffer r.port s) p = true := busy
  refine congrArg Host.Outcome.next (serve_refuses can ?_)
  rw [(geomFormed_iff p v).mpr formed, check]
  rfl

variable (offline : geomBinBusy s p = false)
include offline

theorem writeGeometry_conflict {c : GeomConflict} (conflict : geomConflict (s.geometry.put p v) p = some c) :
    exec (.writeGeometry r p v) s
      = .next (answered r.port
          (.reply (.request .writeGeometry) r.tag (.refused .invalid (some (.geometry c)))) s) := by
  have check : geomBinBusy (freeBuffer r.port s) p = false := offline
  refine congrArg Host.Outcome.next (serve_refuses_with can ?_)
  simp only [(geomFormed_iff p v).mpr formed, check, freeBuffer_geometry, conflict, Bool.not_true, Bool.false_eq_true,
    ↓reduceIte]

theorem writeGeometry_accepted (passes : geomConflict (s.geometry.put p v) p = none) :
    exec (.writeGeometry r p v) s = .next (nearerPassages p s.geometry (geometryWritten r p v s)) := by
  have check : geomBinBusy (freeBuffer r.port s) p = false := offline
  have is : exec (.writeGeometry r p v) s = execWriteGeometry r p v s := rfl
  have answers := done_freeBuffer r .writeGeometry (.geometry p v) { s with geometry := s.geometry.put p v }
  rw [is, execWriteGeometry, serve_admitted can]
  simp only [(geomFormed_iff p v).mpr formed, check, freeBuffer_geometry, passes, Bool.not_true, Bool.false_eq_true,
    ↓reduceIte, put_value_self s.geometry formed]
  exact congrArg (fun t => Host.Outcome.next (nearerPassages p s.geometry t)) answers

end

/-- Everything that a geometry write can do: nothing to the routing when it is refused or not taken, and otherwise the
one value replaced, with the passages that a nearer distance brings. -/
theorem writeGeometry_cases (r : Req) (p : GeomParam) (v : Option Nat) (s : State) :
    ∃ t, exec (.writeGeometry r p v) s = .next t
      ∧ (RoutingKept s t
        ∨ GeomWriteFormed p v ∧ geomConflict (s.geometry.put p v) p = none
          ∧ t = nearerPassages p s.geometry (geometryWritten r p v s)) := by
  have is : exec (.writeGeometry r p v) s = execWriteGeometry r p v s := rfl
  by_cases can : CanServe r .writeGeometry (.writeGeometry r p v) s
  · by_cases formed : GeomWriteFormed p v
    · cases busy : geomBinBusy s p
      · cases conflict : geomConflict (s.geometry.put p v) p with
        | none => exact ⟨_, writeGeometry_accepted can formed busy conflict, .inr ⟨formed, rfl, rfl⟩⟩
        | some c => exact ⟨_, writeGeometry_conflict can formed busy conflict, .inl (.of_same rfl rfl rfl rfl)⟩
      · exact ⟨_, writeGeometry_busy can formed busy, .inl (.of_same rfl rfl rfl rfl)⟩
    · exact ⟨_, writeGeometry_unformed can formed, .inl (.of_same rfl rfl rfl rfl)⟩
  · rw [is, execWriteGeometry]
    refine ⟨_, rfl, .inl ?_⟩
    generalize geomTarget p = target
    rcases serve_cases r .writeGeometry (.writeGeometry r p v) target _ s with
      ⟨served, -⟩ | ⟨-, same⟩ | ⟨-, -, same⟩ | ⟨-, -, -, same⟩
    · exact absurd served can
    all_goals
      rw [same]
      exact .of_same rfl rfl rfl rfl

/-- Settles O58: the four outcomes in the order of the checks, and the passages that a nearer distance brings. -/
theorem geometryWrites : Obligations.GeometryWrites := by
  unfold Obligations.GeometryWrites
  intro r p v s admitted
  have can := admitted.canServe rfl
  refine ⟨writeGeometry_unformed can, fun formed online => ?_, fun c formed offline named => ?_,
    fun formed offline unnamed => ?_⟩
  · exact writeGeometry_busy can formed ((geomBinBusy_iff s p).mpr online)
  · exact writeGeometry_conflict can formed (not_geomBinBusy offline) ((geomConflict_iff _ p c).mpr named)
  · have accepted := writeGeometry_accepted can formed (not_geomBinBusy offline)
      ((geomConflict_none_iff _ p).mpr unnamed)
    have near_iff : nearer (s.geometry.value p) ((geometryWritten r p v s).geometry.value p) = true
        ↔ ∃ x, v = some x ∧ ∀ y, s.geometry.value p = some y → x < y := by
      rw [nearer_iff, geometryWritten, put_value_self s.geometry formed]
    have geometry := nearerPassages_geometry p s.geometry (geometryWritten r p v s)
    refine ⟨fun near => ?_, fun far => ?_, _, accepted, nearerPassages_beltFrame _ _ _, fun q other => ?_, ?_⟩
    · rw [accepted, ← nearerPassages_of_nearer (near_iff.mpr near) rfl]
      rfl
    · rw [accepted, nearerPassages_of_not fun near => far (near_iff.mp near)]
      rfl
    · rw [geometry]
      exact put_value_ne s.geometry formed other
    · rw [geometry]
      exact put_value_self s.geometry formed

end Sys2Proof.Machine
end

section
/-! SUPPORT. The two statements about every step: the gates stay up to date (R89, R90), and the geometry keeps its relations
and ranges (R75, R76). -/

namespace Sys2Proof.Machine

/-- What every step keeps of the routing: the gates, the relations of the geometry and its ranges. -/
structure RoutingSound (s t : State) : Prop where
  gates : GatesUpToDate s → GatesUpToDate t
  consistent : GeometryConsistent s.geometry → GeometryConsistent t.geometry
  inRange : GeometryInRange s.geometry → GeometryInRange t.geometry

theorem RoutingKept.sound {s t : State} (h : RoutingKept s t) : RoutingSound s t := by
  refine ⟨h.gates, ?_, ?_⟩ <;> rw [h.geometry] <;> exact id

theorem RoutingKept.then_sound {s t u : State} (h : RoutingKept s t) (k : RoutingSound t u) : RoutingSound s u :=
  ⟨fun x => k.gates (h.gates x), fun x => k.consistent (h.sound.consistent x), fun x => k.inRange (h.sound.inRange x)⟩

/-- A geometry write in form that breaks no relation: the gates are as they were until a passage that it brings moves
them. -/
theorem nearerPassages_sound {r : Req} {p : GeomParam} {v : Option Nat} {s : State} (formed : GeomWriteFormed p v)
    (passes : geomConflict (s.geometry.put p v) p = none) :
    RoutingSound s (nearerPassages p s.geometry (geometryWritten r p v s)) := by
  refine ⟨fun up => ?_, ?_, ?_⟩
  · have written : GatesUpToDate (geometryWritten r p v s) := up.of_same (fun _ => rfl) (fun _ => rfl) rfl rfl
    exact nearerPassages_gates p s.geometry _ written
  · rw [nearerPassages_geometry]
    exact put_consistent formed passes
  · rw [nearerPassages_geometry]
    exact put_inRange formed

/-- A full reset closes every gate, and no entry is left to open one (R171). -/
theorem resetWith_gates (pins : Pins) (rest : List Instr) :
    GatesUpToDate { State.resetWith pins with pending := rest } := by
  refine ⟨fun b => ?_, rfl⟩
  have bin : ({ State.resetWith pins with pending := rest } : State).bin b = Bin.reset pins.landed[b] :=
    Vector.getElem_ofFn b.isLt
  rw [gateDue, bin]
  rfl

theorem exec_sound {c : Instr} {s t : State} (h : exec c s = .next t) : RoutingSound s t := by
  by_cases write : ∃ r p v, c = .writeGeometry r p v
  · obtain ⟨r, p, v, rfl⟩ := write
    obtain ⟨u, is, kept | ⟨formed, passes, rfl⟩⟩ := writeGeometry_cases r p v s <;> rw [is] at h <;> cases h
    · exact kept.sound
    · exact nearerPassages_sound formed passes
  by_cases reset : ∃ pins, c = .fullReset pins
  · obtain ⟨pins, rfl⟩ := reset
    rw [exec_fullReset] at h
    cases h
    exact ⟨fun _ => resetWith_gates pins _, fun _ => reset_consistent, fun _ => reset_inRange⟩
  · exact (exec_routing s c (fun r p v is => write ⟨r, p, v, is⟩) (fun pins is => reset ⟨pins, is⟩) t h).sound

theorem step_sound {s t : State} (h : step s = .next t) : RoutingSound s t := by
  unfold step at h
  cases front : s.pending with
  | nil =>
    rw [front] at h
    cases h
    exact (tick_routing s).sound
  | cons c rest =>
    rw [front] at h
    have dequeued : RoutingKept s { s with pending := rest } := .of_same rfl rfl rfl rfl
    exact dequeued.then_sound (exec_sound h)

/-- Settles O36: every event that moves an entry or a bin ends with the gates brought up to date, and nothing else moves
what a gate depends on. -/
theorem gatesUpToDateKept : Obligations.GatesUpToDateKept := fun _ _ up h => (step_sound h).gates up

/-- Settles O59: only a geometry write in form that breaks no relation, or a full reset, replaces the geometry. -/
theorem geometryStaysConsistent : Obligations.GeometryStaysConsistent :=
  fun _ _ h => ⟨(step_sound h).consistent, (step_sound h).inRange⟩

end Sys2Proof.Machine
end

section
/-! SUPPORT. The requests on a bin (R108 to R112): what the end of a request's event leaves of a bin and its lift, each
request in the states that accept it, and its refusals. -/

namespace Sys2Proof.Machine

/-! ### The end of an event, of one bin and of the lift store (R135) -/

@[simp] theorem ejectionTest_store (s : State) : (ejectionTest s).store = s.store := by
  rcases ejectionTest_cases s with e | ⟨b, rest, n, l, -, -, -, -, e⟩ <;> rw [e]
  rfl

@[simp] theorem closeEvent_store (s : State) : (closeEvent s).store = s.store := by simp [closeEvent]

theorem syncGates_bin (s : State) (b : BinNo) : (syncGates s).bin b = { s.bin b with gate := gateDue s b } := by
  simp only [State.bin, syncGates_bins, vmap_get]

@[simp] theorem closeEvent_bin_suspicion (s : State) (b : BinNo) :
    ((closeEvent s).bin b).suspicion = (s.bin b).suspicion := by
  have synced : ((syncGates s).bin b).suspicion = (s.bin b).suspicion := by rw [syncGates_bin]
  rw [closeEvent, ← synced]
  rcases ejectionTest_cases (syncGates s) with e | ⟨c, rest, n, l, -, -, -, -, e⟩ <;> rw [e]
  rw [startEjection_bin]
  split
  · next same => rw [same]
  · rfl

/-- A bin state with the closed lift `l`, which waits for the outfeed or is on its way out (R131, R135). -/
def BinState.Delivers (x : BinState) (l : Lift) : Prop :=
  ∃ m, (x = .fullWait m ∨ x = .ejecting m) ∧ ∃ state slot, m = { l with state := state, slot := slot }

theorem closeEvent_delivers {s : State} {b : BinNo} {l : Lift} (waits : (s.bin b).state = .fullWait l) :
    ((closeEvent s).bin b).state.Delivers l := by
  rcases closeEvent_bin_fullWait waits with is | ⟨n, is⟩ <;> rw [is]
  · exact ⟨l, .inl rfl, _, _, rfl⟩
  · exact ⟨_, .inr rfl, _, _, rfl⟩

theorem setBin_bin_self (b : BinNo) (f : Bin → Bin) (s : State) : (setBin b f s).bin b = f (s.bin b) := by
  rw [setBin_bin, if_pos rfl]

theorem discardLift_bin (b : BinNo) (why : DiscardReason) (l : Lift) (x : BinState) (s : State) :
    (discardLift b why l x s).bin b = { s.bin b with state := x } :=
  vset_get_self _ _ _

theorem waitForOutfeed_bin (b : BinNo) (l : Lift) (s : State) :
    (waitForOutfeed b l s).bin b = { s.bin b with state := .fullWait l } :=
  vset_get_self _ _ _

theorem closeLift_bin (b : BinNo) (why : CloseReason) (l : Lift) (s : State) :
    (closeLift b why l s).bin b = { s.bin b with state := .fullWait (l.closeAs why (s.store.closeCounter + 1)) } :=
  vset_get_self _ _ _

section
variable {b : BinNo} {s : State} {why : CloseReason} {l : Lift} (drains : (s.bin b).state = .drainClose why l)
  (still : l.inFlight = 0)
include drains still

theorem completeDrain_discards (empty : l.landed = 0) :
    completeDrain b s = discardLift b (.close why) l .ready s := by
  simp only [completeDrain, drains, if_pos still, if_pos empty]

theorem completeDrain_closes (landed : l.landed ≠ 0) : completeDrain b s = closeLift b why l s := by
  simp only [completeDrain, drains, if_pos still, if_neg landed]

end

/-! ### The end of a request's event (R177) -/

theorem BeltFrame.done {s t : State} (h : BeltFrame s t) (r : Req) (k : ReqKind) (x : Result) :
    BeltFrame (done r k x s) (done r k x t) :=
  { h with ports := by unfold Machine.done; rw [queueReply_ports, queueReply_ports, h.ports] }

/-- A request that is answered and whose event then ends leaves, beside the reply, what its work left. -/
theorem answered_closeEvent (r : Req) (k : ReqKind) (x : Result) {s u : State}
    (frame : BeltFrame (freeBuffer r.port s) u) :
    let t := closeEvent (done r k x u)
    BeltFrame (answered r.port (doneItem r k x) s) t ∧ t.tracker = u.tracker ∧ t.events = u.events
    ∧ t.tallies = u.tallies ∧ t.store = u.store ∧ ∀ b, (t.bin b).suspicion = (u.bin b).suspicion := by
  refine ⟨?_, closeEvent_tracker _, closeEvent_events _, closeEvent_tallies _, closeEvent_store _,
    closeEvent_bin_suspicion _⟩
  rw [← done_freeBuffer]
  exact (frame.done r k x).trans (closeEvent_beltFrame _)

section
variable {r : Req} {k : ReqKind} {x : Result} {u : State} {b : BinNo}

theorem answered_bin_settled {y : BinState} (is : (u.bin b).state = y) (settled : ∀ l, y ≠ .fullWait l) :
    ((closeEvent (done r k x u)).bin b).state = y := by
  have is' : ((done r k x u).bin b).state = y := is
  rw [closeEvent_bin_state (by rwa [is']), is']

theorem answered_bin_delivers {l : Lift} (waits : (u.bin b).state = .fullWait l) :
    ((closeEvent (done r k x u)).bin b).state.Delivers l :=
  closeEvent_delivers (s := done r k x u) waits

end

/-! ### The bin that a request names -/

theorem asBin_eq_none {n : Nat} (h : 16 ≤ n) : asBin n = none := dif_neg (Nat.not_lt.mpr h)

section
variable {r : Req} {b : BinNo} {s : State}

/-! ### CLEAR_BIN (R108, R109) -/

theorem clearBin_unnamed {n : Nat} (far : 16 ≤ n) (h : Admitted (.clearBin r n) s) :
    exec (.clearBin r n) s = .next (answered r.port (refusedItem r .clearBin .invalid) s) :=
  congrArg _ (serve_refuses (h.canServe rfl) (by rw [asBin_eq_none far]))

section
variable (h : Admitted (.clearBin r b.val) s)
include h

theorem clearBin_unfaulted (live : ∀ why l, (s.bin b).state ≠ .faulted why l) :
    exec (.clearBin r b.val) s = .next (answered r.port (refusedItem r .clearBin .notNow) s) := by
  refine congrArg _ (serve_refuses (h.canServe rfl) ?_)
  rw [asBin_val]
  dsimp only
  split
  · next why l faulted => exact absurd faulted (live why l)
  · rfl

variable {why : BinFault} {lift : Option Lift} (faulted : (s.bin b).state = .faulted why lift)
include faulted

theorem clearBin_blocked (blocked : (s.bin b).eyeMark ≠ none) :
    exec (.clearBin r b.val) s = .next (answered r.port (refusedItem r .clearBin .notClear) s) := by
  have faulted' : ((freeBuffer r.port s).bin b).state = .faulted why lift := faulted
  have blocked' : ((freeBuffer r.port s).bin b).eyeMark.isSome = true := Option.isSome_iff_ne_none.mpr blocked
  refine congrArg _ (serve_refuses (h.canServe rfl) ?_)
  simp only [asBin_val, faulted', blocked', ↓reduceIte]

/-- A FAULTED bin whose eye is clear is cleared, and the event ends (R108). -/
theorem clearBin_clears (clear : (s.bin b).eyeMark = none) :
    exec (.clearBin r b.val) s = .next (closeEvent (clearFaulted r b lift (freeBuffer r.port s))) := by
  have faulted' : ((freeBuffer r.port s).bin b).state = .faulted why lift := faulted
  have clear' : ((freeBuffer r.port s).bin b).eyeMark = none := clear
  refine congrArg _ ((serve_admitted (h.canServe rfl)).trans ?_)
  simp only [asBin_val, faulted', clear', Option.isSome_none, Bool.false_eq_true, ↓reduceIte]

end

/-- The bin whose fault is cleared is no longer suspect (R108). -/
def unsuspected (b : BinNo) (s : State) : State := setBin b (fun x => { x with suspicion := 0 }) s

theorem unsuspected_beltFrame (b : BinNo) (s : State) : BeltFrame s (unsuspected b s) :=
  setBin_beltFrame _ _ _ fun _ => rfl

theorem unsuspected_bin (b : BinNo) (s : State) : (unsuspected b s).bin b = { s.bin b with suspicion := 0 } :=
  setBin_bin_self _ _ _

section
variable {l : Lift}

theorem clearFaulted_none :
    clearFaulted r b none s
      = done r .clearBin (.bin b .ready none) (setBin b (fun x => { x with state := .ready }) (unsuspected b s)) := rfl

theorem clearFaulted_discards (opened : l.state = .opened) (empty : l.landed = 0) :
    clearFaulted r b (some l) s
      = done r .clearBin (.bin b .ready (some (l.id, .discarded)))
          (discardLift b .clearBin l .ready (unsuspected b s)) := by
  simp only [clearFaulted, opened, empty, ↓reduceIte]
  rfl

theorem clearFaulted_closes (opened : l.state = .opened) (landed : l.landed ≠ 0) :
    clearFaulted r b (some l) s
      = done r .clearBin (.bin b .fullWait (some (l.id, .closed))) (closeLift b .fault l (unsuspected b s)) := by
  simp only [clearFaulted, opened, landed, ↓reduceIte]
  rfl

theorem clearFaulted_waits (closed : l.state ≠ .opened) :
    clearFaulted r b (some l) s
      = done r .clearBin (.bin b .fullWait (some (l.id, .kept))) (waitForOutfeed b l (unsuspected b s)) := by
  simp only [clearFaulted, closed, ↓reduceIte]
  rfl

end

end

/-- Settles O38: each case of the table of R109 as the work on the bin, the reply, and the end of the event. -/
theorem clearBinRecovers : Obligations.ClearBinRecovers := by
  intro r b s
  refine ⟨fun n far h => clearBin_unnamed far h, fun h => ?_⟩
  intro reply
  have cleared := unsuspected_beltFrame b (freeBuffer r.port s)
  have unsuspect : ((unsuspected b (freeBuffer r.port s)).bin b).suspicion = 0 := by rw [unsuspected_bin]
  refine ⟨clearBin_unfaulted h, fun ⟨why, l, faulted⟩ => clearBin_blocked h faulted, fun why faulted clear => ?_,
    fun why l faulted clear opened empty => ?_, fun why l faulted clear opened landed => ?_,
    fun why l faulted clear closed => ?_⟩ <;> rw [clearBin_clears h faulted clear]
  · have bin := setBin_bin_self b (fun x => { x with state := .ready }) (unsuspected b (freeBuffer r.port s))
    obtain ⟨belt, tracker, events, tallies, -, suspicion⟩ := answered_closeEvent r .clearBin (.bin b .ready none)
      (cleared.trans (setBin_beltFrame b (fun x => { x with state := .ready }) _ fun _ => rfl))
    refine ⟨_, rfl, belt, answered_bin_settled (congrArg Bin.state bin) (by simp), ?_, tracker, events, tallies⟩
    rw [clearFaulted_none, suspicion, bin, unsuspect]
  · have bin := discardLift_bin b .clearBin l .ready (unsuspected b (freeBuffer r.port s))
    obtain ⟨belt, tracker, events, tallies, -, suspicion⟩ := answered_closeEvent r .clearBin
      (.bin b .ready (some (l.id, .discarded))) (cleared.trans (discardLift_beltFrame b .clearBin l .ready _))
    rw [clearFaulted_discards opened empty]
    refine ⟨_, rfl, belt, answered_bin_settled (congrArg Bin.state bin) (by simp), ?_, tracker, tallies, events⟩
    rw [suspicion, bin, unsuspect]
  · have bin := closeLift_bin b .fault l (unsuspected b (freeBuffer r.port s))
    obtain ⟨belt, tracker, events, -, store, suspicion⟩ := answered_closeEvent r .clearBin
      (.bin b .fullWait (some (l.id, .closed))) (cleared.trans (closeLift_beltFrame b .fault l _))
    rw [clearFaulted_closes opened landed]
    obtain ⟨m, is, state, slot, rfl⟩ := answered_bin_delivers (r := r) (k := .clearBin)
      (x := .bin b .fullWait (some (l.id, .closed))) (congrArg Bin.state bin)
    refine ⟨_, _, rfl, belt, is, rfl, rfl, rfl, rfl, ?_, tracker, congrArg LiftStore.closeCounter store, events⟩
    rw [suspicion, bin, unsuspect]
  · have bin := waitForOutfeed_bin b l (unsuspected b (freeBuffer r.port s))
    obtain ⟨belt, tracker, events, tallies, store, suspicion⟩ := answered_closeEvent r .clearBin
      (.bin b .fullWait (some (l.id, .kept))) (cleared.trans (waitForOutfeed_beltFrame b l _))
    rw [clearFaulted_waits closed]
    obtain ⟨m, is, state, slot, rfl⟩ := answered_bin_delivers (r := r) (k := .clearBin)
      (x := .bin b .fullWait (some (l.id, .kept))) (congrArg Bin.state bin)
    refine ⟨_, _, rfl, belt, is, rfl, rfl, rfl, rfl, ?_, tracker, store, tallies, events⟩
    rw [suspicion, bin, unsuspect]

/-! ### BIN_ONLINE and BIN_OFFLINE (R110, R111) -/

section
variable {r : Req} {k : ReqKind} {b : BinNo} {s : State} {c : Instr} {target : Option Target} {f : State → State}

/-- A request whose work is on one bin's record and the event list answers with them changed, and nothing else. -/
theorem serve_answers_with_bins (can : CanServe r k c s) {x : Result} {bins : Vector Bin 16} {events : EventLog}
    (answers : f (freeBuffer r.port s) = done r k x { freeBuffer r.port s with bins := bins, events := events }) :
    serve r k c target f s = answered r.port (doneItem r k x) { s with bins := bins, events := events } := by
  rw [serve_admitted can, answers]
  exact done_freeBuffer r k x { s with bins := bins, events := events }

theorem binOnline_readies (h : Admitted (.binOnline r b.val) s) (offline : (s.bin b).state = .offline)
    (placed : s.geometry.binPosition[b] ≠ none) (clear : (s.bin b).eyeMark = none) :
    exec (.binOnline r b.val) s
      = .next (answered r.port (doneItem r .binOnline (.bin b .ready none))
          { s with bins := vset s.bins b { s.bin b with state := .ready, suspicion := 0, gate := false } }) := by
  have offline' : ((freeBuffer r.port s).bin b).state = .offline := offline
  have clear' : ((freeBuffer r.port s).bin b).eyeMark = none := clear
  refine congrArg _ (serve_answers_with_bins (h.canServe rfl) (events := s.events) ?_)
  simp only [asBin_val, offline', clear', freeBuffer_geometry, placed, ne_eq, not_true_eq_false, or_self,
    Option.isSome_none, Bool.false_eq_true, ↓reduceIte]
  rfl

theorem binOnline_notNow (h : Admitted (.binOnline r b.val) s)
    (other : (s.bin b).state ≠ .offline ∨ s.geometry.binPosition[b] = none) :
    exec (.binOnline r b.val) s = .next (answered r.port (refusedItem r .binOnline .notNow) s) := by
  refine congrArg _ (serve_refuses (h.canServe rfl) ?_)
  rw [asBin_val]
  exact if_pos other

theorem binOnline_blocked (h : Admitted (.binOnline r b.val) s) (offline : (s.bin b).state = .offline)
    (placed : s.geometry.binPosition[b] ≠ none) (blocked : (s.bin b).eyeMark ≠ none) :
    exec (.binOnline r b.val) s = .next (answered r.port (refusedItem r .binOnline .notClear) s) := by
  refine congrArg _ (serve_refuses (h.canServe rfl) ?_)
  rw [asBin_val]
  exact (if_neg (not_or.mpr ⟨not_not.mpr offline, placed⟩)).trans
    (if_pos (Option.isSome_iff_ne_none.mpr blocked))

theorem binOffline_empties (h : Admitted (.binOffline r b.val) s)
    (empty : (s.bin b).state = .ready ∨ ∃ why, (s.bin b).state = .faulted why none) :
    exec (.binOffline r b.val) s
      = .next (answered r.port (doneItem r .binOffline (.bin b .offline none))
          { s with bins := vset s.bins b { s.bin b with state := .offline, suspicion := 0 } }) := by
  refine congrArg _ (serve_answers_with_bins (h.canServe rfl) (events := s.events) ?_)
  rw [asBin_val]
  rcases empty with is | ⟨why, is⟩ <;>
  · have is' : ((freeBuffer r.port s).bin b).state = _ := is
    simp only [is']
    rfl

theorem binOffline_discards (h : Admitted (.binOffline r b.val) s) {why : BinFault} {l : Lift}
    (faulted : (s.bin b).state = .faulted why (some l)) :
    exec (.binOffline r b.val) s
      = .next (answered r.port (doneItem r .binOffline (.bin b .offline (some (l.id, .discarded))))
          { s with
            bins := vset s.bins b { s.bin b with state := .offline, suspicion := 0 }
            events := s.events.append (.liftDiscarded l.id b .binOffline) }) := by
  have faulted' : ((freeBuffer r.port s).bin b).state = .faulted why (some l) := faulted
  have bins : (discardLift b .binOffline l .offline (takeOffline b (freeBuffer r.port s))).bins
      = vset s.bins b { s.bin b with state := .offline, suspicion := 0 } := by
    simp only [discardLift, takeOffline, raise_bins, setBin_bins, vset_get_self, vset_vset, freeBuffer_bins, State.bin]
  refine congrArg _ (serve_answers_with_bins (h.canServe rfl) ?_)
  simp only [asBin_val, faulted', ← bins]
  rfl

theorem binOffline_notNow (h : Admitted (.binOffline r b.val) s) (not_ready : (s.bin b).state ≠ .ready)
    (live : ∀ why l, (s.bin b).state ≠ .faulted why l) :
    exec (.binOffline r b.val) s = .next (answered r.port (refusedItem r .binOffline .notNow) s) := by
  refine congrArg _ (serve_refuses (h.canServe rfl) ?_)
  rw [asBin_val]
  dsimp only
  split
  · next is => exact absurd is not_ready
  · next is => exact absurd is (live _ _)
  · next is => exact absurd is (live _ _)
  · rfl

/-! ### CLOSE_BIN (R112) -/

theorem closeBin_notNow (h : Admitted (.closeBin r b.val) s) (other : ∀ l, (s.bin b).state ≠ .filling l) :
    exec (.closeBin r b.val) s = .next (answered r.port (refusedItem r .closeBin .notNow) s) := by
  refine congrArg _ (serve_refuses (h.canServe rfl) ?_)
  rw [asBin_val]
  dsimp only
  split
  · next l is => exact absurd is (other l)
  · rfl

/-- A FILLING bin is sent to its drain, which is completed when it is due; the reply tells the state it is then in. -/
theorem closeBin_closes (h : Admitted (.closeBin r b.val) s) {l : Lift} (fills : (s.bin b).state = .filling l)
    {x : BinState} (becomes : ((closeShort b l (freeBuffer r.port s)).bin b).state = x) :
    exec (.closeBin r b.val) s
      = .next (closeEvent (done r .closeBin (.bin b x.tag (some (l.id, x.drainFate)))
          (closeShort b l (freeBuffer r.port s)))) := by
  have fills' : ((freeBuffer r.port s).bin b).state = .filling l := fills
  refine congrArg _ ((serve_admitted (h.canServe rfl)).trans ?_)
  simp only [asBin_val, fills', becomes]

/-- The bin of a FILLING lift sent to its drain (R112), before the drain's completion. -/
def sentShort (b : BinNo) (l : Lift) (s : State) : State :=
  setBin b (fun x => { x with state := .drainClose .short l }) s

theorem sentShort_bin (b : BinNo) (l : Lift) (s : State) :
    (sentShort b l s).bin b = { s.bin b with state := .drainClose .short l } := setBin_bin_self _ _ _

theorem sentShort_beltFrame (b : BinNo) (l : Lift) (s : State) : BeltFrame s (sentShort b l s) :=
  setBin_beltFrame _ _ _ fun _ => rfl

section
variable {l : Lift}

theorem closeShort_drains (flies : l.inFlight ≠ 0) : closeShort b l s = sentShort b l s :=
  completeDrain_inFlight (congrArg Bin.state (sentShort_bin b l s)) flies

theorem closeShort_discards (still : l.inFlight = 0) (empty : l.landed = 0) :
    closeShort b l s = discardLift b (.close .short) l .ready (sentShort b l s) :=
  completeDrain_discards (congrArg Bin.state (sentShort_bin b l s)) still empty

theorem closeShort_closes (still : l.inFlight = 0) (landed : l.landed ≠ 0) :
    closeShort b l s = closeLift b .short l (sentShort b l s) :=
  completeDrain_closes (congrArg Bin.state (sentShort_bin b l s)) still landed

end

end

/-- Settles O39: each request in the states that accept it and in the others. -/
theorem binServiceRequests : Obligations.BinServiceRequests := by
  intro r b s
  refine ⟨binOnline_readies, binOnline_notNow, binOnline_blocked, binOffline_empties,
    fun why l h => binOffline_discards h, binOffline_notNow, closeBin_notNow,
    fun l h fills flies => ?_, fun l h fills still empty => ?_, fun l h fills still landed => ?_, fun n far =>
      ⟨fun h => congrArg _ (serve_refuses (h.canServe rfl) (by rw [asBin_eq_none far])),
       fun h => congrArg _ (serve_refuses (h.canServe rfl) (by rw [asBin_eq_none far])),
       fun h => congrArg _ (serve_refuses (h.canServe rfl) (by rw [asBin_eq_none far]))⟩⟩
  · have is := congrArg Bin.state (sentShort_bin b l (freeBuffer r.port s))
    obtain ⟨belt, tracker, events, tallies, store, -⟩ := answered_closeEvent r .closeBin
      (.bin b (.drainClose .short) (some (l.id, .draining))) (sentShort_beltFrame b l (freeBuffer r.port s))
    have runs := closeBin_closes h fills (by rw [closeShort_drains flies, is])
    rw [closeShort_drains flies] at runs
    exact ⟨_, runs, belt, answered_bin_settled is (by simp), tracker, events, tallies, store⟩
  · have is := congrArg Bin.state (discardLift_bin b (.close .short) l .ready (sentShort b l (freeBuffer r.port s)))
    obtain ⟨belt, tracker, events, tallies, store, -⟩ := answered_closeEvent r .closeBin
      (.bin b .ready (some (l.id, .discarded)))
      ((sentShort_beltFrame b l (freeBuffer r.port s)).trans (discardLift_beltFrame b (.close .short) l .ready _))
    have runs := closeBin_closes h fills (by rw [closeShort_discards still empty, is])
    rw [closeShort_discards still empty] at runs
    exact ⟨_, runs, belt, answered_bin_settled is (by simp), tracker, tallies, store, events⟩
  · have is := congrArg Bin.state (closeLift_bin b .short l (sentShort b l (freeBuffer r.port s)))
    obtain ⟨belt, tracker, events, -, store, -⟩ := answered_closeEvent r .closeBin
      (.bin b .fullWait (some (l.id, .closed)))
      ((sentShort_beltFrame b l (freeBuffer r.port s)).trans (closeLift_beltFrame b .short l _))
    have runs := closeBin_closes h fills (by rw [closeShort_closes still landed, is])
    rw [closeShort_closes still landed] at runs
    obtain ⟨m, delivers, state, slot, rfl⟩ := answered_bin_delivers (r := r) (k := .closeBin)
      (x := .bin b .fullWait (some (l.id, .closed))) is
    exact ⟨_, _, runs, belt, delivers, rfl, rfl, rfl, tracker, congrArg LiftStore.closeCounter store, events⟩

end Sys2Proof.Machine
end

section
/-! SUPPORT. What the end of an event makes of each bin: a bin that no drain's end and no ejection moves keeps its
record but for the gate, and the end of a drain closes every FILLING bin (R89, R121, R135, R167). -/

namespace Sys2Proof.Machine

/-! ### The end of a drain, bin by bin (R121, R124, R167) -/

section
variable {b : BinNo} {s : State}

/-- No drain of the bin is due, and none comes due when the FILLING bins are sent to theirs. -/
def BinState.Undrained (x : BinState) : Prop :=
  (∀ l, x ≠ .filling l) ∧ ∀ why l, x = .drainClose why l → l.inFlight ≠ 0

theorem BinState.Undrained.of_away {x : BinState} (away : x.takesSheets = false) : x.Undrained := by
  refine ⟨fun l is => ?_, fun why l is => ?_⟩ <;> rw [is] at away <;> cases away

theorem drainBins_bin (why : CloseReason) (p : BinNo → Lift → Bool) (other : ∀ l, (s.bin b).state ≠ .filling l) :
    (drainBins why p s).bin b = s.bin b := by
  simp only [State.bin, drainBins, vmap_get]
  split
  · next l fills => exact absurd fills (other l)
  · rfl

theorem completeDrain_undue (h : ∀ why l, (s.bin b).state = .drainClose why l → l.inFlight ≠ 0) :
    completeDrain b s = s := by
  rcases completeDrain_cases b s with ⟨e, -⟩ | ⟨why, l, drains, still, -⟩ | ⟨why, l, drains, still, -⟩
  · exact e
  · exact absurd still (h why l drains)
  · exact absurd still (h why l drains)

theorem setMode_bin (m : SortMode) (s : State) (b : BinNo) : (setMode m s).bin b = s.bin b := by
  unfold setMode
  split <;> rfl

theorem setMode_outfeed (m : SortMode) (s : State) : (setMode m s).outfeed = s.outfeed := by
  unfold setMode
  split <;> rfl

theorem endDrain_bin (b : BinNo) (s : State) :
    ∃ u : State, u.bin b = (drainBins .shiftEnd (fun _ _ => true) s).bin b
      ∧ (endDrain s).bin b = (completeDrain b u).bin b := by
  obtain ⟨u, same, completes⟩ := completeDrains_bin b (drainBins .shiftEnd (fun _ _ => true) s)
  exact ⟨u, same, (setMode_bin _ _ b).trans completes⟩

theorem endDrain_mode (s : State) : (endDrain s).mode = .idle := by
  unfold endDrain setMode
  split
  · assumption
  · rfl

theorem endDrainIfDue_bin (undrained : (s.bin b).state.Undrained) : (endDrainIfDue s).bin b = s.bin b := by
  rcases endDrainIfDue_cases s with ⟨-, -, e⟩ | ⟨-, e⟩ <;> rw [e]
  obtain ⟨u, same, completes⟩ := endDrain_bin b s
  rw [drainBins_bin _ _ undrained.1] at same
  rw [completes, completeDrain_undue (same ▸ undrained.2), same]

theorem completeDrain_suspicion (b c : BinNo) (s : State) :
    ((completeDrain c s).bin b).suspicion = (s.bin b).suspicion := by
  by_cases own : b = c
  · subst own
    rcases completeDrain_cases b s with ⟨e, -⟩ | ⟨why, l, -, -, -, e⟩ | ⟨why, l, -, -, -, e⟩ <;> rw [e]
    · rw [discardLift_bin]
    · rw [closeLift_bin]
  · rw [completeDrain_bin_ne own]

theorem endDrainIfDue_suspicion (b : BinNo) (s : State) :
    ((endDrainIfDue s).bin b).suspicion = (s.bin b).suspicion := by
  rcases endDrainIfDue_cases s with ⟨-, -, e⟩ | ⟨-, e⟩ <;> rw [e]
  obtain ⟨u, same, completes⟩ := endDrain_bin b s
  rw [completes, completeDrain_suspicion, same]
  simp only [State.bin, drainBins, vmap_get]

/-! ### The end of an event, bin by bin (R89, R135) -/

theorem finish_bin_suspicion (b : BinNo) (s : State) : ((finish s).bin b).suspicion = (s.bin b).suspicion := by
  rw [finish, closeEvent_bin_suspicion, endDrainIfDue_suspicion]

/-- The end of an event leaves a bin that no drain concerns and that does not wait as it is, but for its gate. -/
theorem finish_bin_settled (undrained : (s.bin b).state.Undrained) (settled : ∀ l, (s.bin b).state ≠ .fullWait l) :
    ∃ gate, (finish s).bin b = { s.bin b with gate := gate } := by
  have synced : (syncGates (endDrainIfDue s)).bin b = { s.bin b with gate := gateDue (endDrainIfDue s) b } := by
    rw [syncGates_bin, endDrainIfDue_bin undrained]
  refine ⟨gateDue (endDrainIfDue s) b, ?_⟩
  unfold finish closeEvent
  rcases ejectionTest_cases (syncGates (endDrainIfDue s)) with e | ⟨c, rest, n, l, -, -, -, waits, e⟩ <;> rw [e]
  · exact synced
  · have other : b ≠ c := by
      rintro rfl
      rw [synced] at waits
      exact settled l waits
    rw [startEjection_bin, if_neg other, synced]

theorem finish_delivers {l : Lift} (waits : (s.bin b).state = .fullWait l) : ((finish s).bin b).state.Delivers l := by
  have undrained : (s.bin b).state.Undrained := .of_away (by rw [waits]; rfl)
  refine closeEvent_delivers ?_
  rw [endDrainIfDue_bin undrained, waits]

/-- The bin is not in the ejection queue, and no drain of it is due. -/
structure OutOfQueue (b : BinNo) (s : State) : Prop where
  undrained : (s.bin b).state.Undrained
  away : b ∉ s.outfeed.queue

theorem OutOfQueue.completeDrain (h : OutOfQueue b s) (c : BinNo) : OutOfQueue b (completeDrain c s) := by
  by_cases own : c = b
  · rwa [own, completeDrain_undue h.undrained.2]
  · refine ⟨by rw [completeDrain_bin_ne (Ne.symm own)]; exact h.undrained, ?_⟩
    rcases completeDrain_cases c s with ⟨e, -⟩ | ⟨why, l, -, -, -, e⟩ | ⟨why, l, -, -, -, e⟩ <;> rw [e]
    · exact h.away
    · exact h.away
    · intro joined
      exact ((mem_insertBefore _ _ _ _).mp joined).elim (Ne.symm own) h.away

theorem OutOfQueue.completeDrains (h : OutOfQueue b s) : OutOfQueue b (completeDrains s) := by
  unfold Machine.completeDrains
  exact foldl_keeps (OutOfQueue b) (fun s c => Machine.completeDrain c s) (fun _ c h => h.completeDrain c) allBins s h

theorem OutOfQueue.endDrainIfDue (h : OutOfQueue b s) : b ∉ (endDrainIfDue s).outfeed.queue := by
  rcases endDrainIfDue_cases s with ⟨-, -, e⟩ | ⟨-, e⟩ <;> rw [e]
  · have sent : OutOfQueue b (drainBins .shiftEnd (fun _ _ => true) s) :=
      ⟨by rw [drainBins_bin _ _ h.undrained.1]; exact h.undrained, h.away⟩
    rw [endDrain, setMode_outfeed]
    exact sent.completeDrains.away
  · exact h.away

/-- A bin that is not in the ejection queue and takes part in no drain is not in it after the event. -/
theorem OutOfQueue.finish (h : OutOfQueue b s) : b ∉ (finish s).outfeed.queue := by
  have ended := h.endDrainIfDue
  unfold Machine.finish closeEvent
  generalize Machine.endDrainIfDue s = u at *
  rcases ejectionTest_cases (syncGates u) with e | ⟨c, rest, n, l, -, -, -, -, e⟩ <;> rw [e]
  · exact ended
  · exact fun mem => ended (List.mem_of_mem_tail mem)

/-! ### The end of a drain as the end of an event (R167) -/

theorem finish_mode_of_due (mode : s.mode = .drain) (empty : s.tracker.queue = []) : (finish s).mode = .idle := by
  rw [finish, endDrainIfDue, if_pos ⟨mode, empty⟩, closeEvent_mode, endDrain_mode]

/-- An event that begins in DRAIN and leaves no entry ends the drain, here or before. -/
theorem finish_idle {t : State} (frame : BeltFrame s t) (mode : s.mode = .drain)
    (empty : (finish t).tracker.queue = []) : (finish t).mode = .idle := by
  rw [finish_tracker] at empty
  rcases frame.mode with same | ⟨-, idle⟩
  · exact finish_mode_of_due (same.trans mode) empty
  · rcases (finish_beltFrame t).mode with same | ⟨-, idle'⟩
    · exact same.trans idle
    · exact idle'

/-- The end of a drain sends a FILLING bin to its drain, which it completes when it is due. -/
theorem endDrain_filling {l : Lift} (fills : (s.bin b).state = .filling l) :
    ∃ u : State, (u.bin b).state = .drainClose .shiftEnd l ∧ (endDrain s).bin b = (completeDrain b u).bin b := by
  obtain ⟨u, same, completes⟩ := endDrain_bin b s
  refine ⟨u, ?_, completes⟩
  rw [same, drainBins_bin_filling _ _ fills, if_pos rfl]

theorem completeDrain_not_filling (other : ∀ l, (s.bin b).state ≠ .filling l) (l : Lift) :
    ((completeDrain b s).bin b).state ≠ .filling l := by
  rcases completeDrain_cases b s with ⟨e, -⟩ | ⟨why, m, -, -, -, e⟩ | ⟨why, m, -, -, -, e⟩ <;> rw [e]
  · exact other l
  · rw [discardLift_bin]; nofun
  · rw [closeLift_bin]; nofun

theorem endDrain_not_filling (b : BinNo) (s : State) (l : Lift) : ((endDrain s).bin b).state ≠ .filling l := by
  obtain ⟨u, same, completes⟩ := endDrain_bin b s
  rw [completes]
  refine completeDrain_not_filling (fun m => ?_) l
  rw [same]
  by_cases fills : ∃ m, (s.bin b).state = .filling m
  · obtain ⟨m, fills⟩ := fills
    rw [drainBins_bin_filling _ _ fills, if_pos rfl]
    nofun
  · rw [drainBins_bin _ _ fun m is => fills ⟨m, is⟩]
    exact fun is => fills ⟨m, is⟩

theorem closeEvent_not_filling (other : ∀ l, (s.bin b).state ≠ .filling l) (l : Lift) :
    ((closeEvent s).bin b).state ≠ .filling l := by
  by_cases waits : ∃ m, (s.bin b).state = .fullWait m
  · obtain ⟨m, waits⟩ := waits
    obtain ⟨m, delivers | delivers, -⟩ := closeEvent_delivers waits <;> rw [delivers] <;> nofun
  · rw [closeEvent_bin_state fun m e => waits ⟨m, e⟩]
    exact other l

/-- The end of an event that ends a drain closes SHIFT_END the FILLING bins that its work left (R167). -/
theorem finish_drainEnded {u : State} (mode : s.mode = .drain) (empty : s.tracker.queue = [])
    (states : ∀ c : BinNo, (s.bin c).state = (u.bin c).state) : DrainEnded u (finish s) := by
  have is : finish s = closeEvent (endDrain s) := by rw [finish, endDrainIfDue, if_pos ⟨mode, empty⟩]
  refine ⟨finish_mode_of_due mode empty, by rw [finish_tracker, empty], fun b l fills still none_landed => ?_,
    fun b l fills still landed => ?_, fun b => ?_⟩ <;> rw [is]
  · obtain ⟨v, drains, completes⟩ := endDrain_filling ((states b).trans fills)
    have ready : ((endDrain s).bin b).state = .ready := by
      rw [completes, completeDrain_empty_bin drains still none_landed]
    rw [closeEvent_bin_state (by simp [ready]), ready]
  · obtain ⟨v, drains, completes⟩ := endDrain_filling ((states b).trans fills)
    have waits := completeDrain_landed_bin drains still landed
    rw [← completes] at waits
    obtain ⟨m, delivers, state, slot, rfl⟩ := closeEvent_delivers waits
    exact ⟨_, delivers, rfl, rfl, rfl⟩
  · exact closeEvent_not_filling (endDrain_not_filling b s)

end

end Sys2Proof.Machine
end

section
/-! SUPPORT. The loss of a bin's entries (R92, R93): what the re-routing looks at, each re-routing as `Rerouted`, the
entries that are turned away, and what is left of the lost bin's lift. -/

namespace Sys2Proof.Machine

/-! ### Two states alike but for the lost bin -/

/-- Two states in which the loss of bin `b`'s entries takes the same course: alike in the entries, in what a search for
another bin looks at, and in the lift ids in use. -/
structure AlikeBut (b : BinNo) (s t : State) : Prop where
  queue : t.tracker.queue = s.tracker.queue
  travel : t.tracker.travel = s.tracker.travel
  geometry : t.geometry = s.geometry
  banks : t.banks = s.banks
  store : t.store = s.store
  slots : ∀ n : SlotNo, slotLiftId t n = slotLiftId s n
  state : ∀ c : BinNo, c ≠ b → (t.bin c).state = (s.bin c).state
  suspicion : ∀ c : BinNo, c ≠ b → (t.bin c).suspicion = (s.bin c).suspicion
  lift : binLiftId t b = binLiftId s b

theorem filterMap_toList_congr {α β : Type} {n : Nat} {f : α → Option β} {v w : Vector α n}
    (same : ∀ i : Fin n, f v[i] = f w[i]) : v.toList.filterMap f = w.toList.filterMap f := by
  have mapped : v.map f = w.map f := by
    ext1 i h
    simpa using same ⟨i, h⟩
  have by_map (u : Vector α n) : u.toList.filterMap f = (u.map f).toList.filterMap id := by
    rw [Vector.toList_map, List.filterMap_map, Function.id_comp]
  rw [by_map, by_map, mapped]

theorem liftIds_eq (s : State) :
    liftIds s = s.bins.toList.filterMap (fun x => x.state.lift?.map Lift.id)
      ++ s.slots.toList.filterMap (fun x => x.state.lift?.map Lift.id) := by
  refine congrArg _ (List.filterMap_congr fun x _ => ?_)
  cases x.state <;> rfl

/-- The next lift id is told by the ids in use and the lift store (R116). -/
theorem freshLiftId_of_ids {s t : State} (bins : ∀ b, binLiftId t b = binLiftId s b)
    (slots : ∀ n, slotLiftId t n = slotLiftId s n) (store : t.store = s.store) : freshLiftId t = freshLiftId s := by
  rw [freshLiftId, freshLiftId, liftIds_eq, liftIds_eq, store, filterMap_toList_congr (v := t.bins) bins,
    filterMap_toList_congr (v := t.slots) slots]

namespace AlikeBut

variable {b : BinNo} {s t : State}

theorem refl (b : BinNo) (s : State) : AlikeBut b s s :=
  ⟨rfl, rfl, rfl, rfl, rfl, fun _ => rfl, fun _ _ => rfl, fun _ _ => rfl, rfl⟩

theorem trans {u : State} (h : AlikeBut b s t) (k : AlikeBut b t u) : AlikeBut b s u where
  queue := k.queue.trans h.queue
  travel := k.travel.trans h.travel
  geometry := k.geometry.trans h.geometry
  banks := k.banks.trans h.banks
  store := k.store.trans h.store
  slots n := (k.slots n).trans (h.slots n)
  state c other := (k.state c other).trans (h.state c other)
  suspicion c other := (k.suspicion c other).trans (h.suspicion c other)
  lift := k.lift.trans h.lift

theorem symm (h : AlikeBut b s t) : AlikeBut b t s where
  queue := h.queue.symm
  travel := h.travel.symm
  geometry := h.geometry.symm
  banks := h.banks.symm
  store := h.store.symm
  slots n := (h.slots n).symm
  state c other := (h.state c other).symm
  suspicion c other := (h.suspicion c other).symm
  lift := h.lift.symm

theorem freshLiftId (h : AlikeBut b s t) : freshLiftId t = freshLiftId s := by
  refine freshLiftId_of_ids (fun c => ?_) h.slots h.store
  by_cases own : c = b
  · rw [own, h.lift]
  · rw [binLiftId, binLiftId, h.state c own]

/-- The search for a bin other than the lost one finds the same (R79 to R83). -/
theorem planRoute (h : AlikeBut b s t) (bank : Option BankNo) (v : Verdict) (travel : Nat) :
    planRoute t bank v travel (some b) = planRoute s bank v travel (some b) := by
  have met (key : Key) (pass : Nat) : metIn t key travel (some b) pass = metIn s key travel (some b) pass := by
    funext c
    unfold metIn eligible
    by_cases own : c = b
    · simp [own]
    · simp only [fillingRoom, isReady, reaches, passOf, h.state c own, h.suspicion c own, h.geometry]
  have search (key : Key) (bins : List BinNo) :
      searchBins t key travel (some b) bins = searchBins s key travel (some b) bins := by
    simp only [searchBins_eq, met]
  have rule (k : BankNo) (g : GradeRule) (code cls : Nat) :
      searchRule t k g code cls travel (some b) = searchRule s k g code cls travel (some b) := by
    simp only [searchRule, search]
  have grade (k : BankNo) (code cls : Nat) :
      searchGrade t k code cls travel (some b) = searchGrade s k code cls travel (some b) := by
    simp only [searchGrade, ruleIn, h.banks, rule]
  simp only [Machine.planRoute, grade, h.geometry]

theorem commits (h : AlikeBut b s t) {c : BinNo} (other : c ≠ b) {key : Key} {target : Nat} {x : BinState}
    (commits : Commits t c key target x) : Commits s c key target x := by
  unfold Commits at *
  rwa [h.state c other, h.freshLiftId] at commits

/-! ### The re-routing of alike states -/

theorem findEntry (h : AlikeBut b s t) (n : EntryId) : findEntry n t = findEntry n s := findEntry_congr h.queue n

theorem travelOf (h : AlikeBut b s t) (e : Entry) : travelOf e t = travelOf e s := by
  rw [Machine.travelOf, Machine.travelOf, h.travel]

theorem setEntry (h : AlikeBut b s t) (n : EntryId) (f : Entry → Entry) :
    AlikeBut b (setEntry n f s) (setEntry n f t) :=
  { h with queue := by rw [setEntry_tracker, setEntry_tracker, h.queue] }

/-- A change of another bin's state. -/
theorem setBinState (h : AlikeBut b s t) {c : BinNo} (other : c ≠ b) (f : BinState → BinState) :
    AlikeBut b (setBin c (fun x => { x with state := f x.state }) s)
      (setBin c (fun x => { x with state := f x.state }) t) := by
  have lost (u : State) : (setBin c (fun x => { x with state := f x.state }) u).bin b = u.bin b := by
    rw [setBin_bin, if_neg other.symm]
  refine { h with state := fun d apart => ?_, suspicion := fun d apart => ?_, lift := ?_ }
  · rw [setBin_bin, setBin_bin]
    split
    · exact congrArg f (h.state c other)
    · exact h.state d apart
  · rw [setBin_bin, setBin_bin]
    split
    · exact h.suspicion c other
    · exact h.suspicion d apart
  · rw [binLiftId, binLiftId, lost, lost]
    exact h.lift

/-- A change of the lost bin's record that keeps its lift's id. -/
theorem of_setBin (s : State) {f : Bin → Bin}
    (id_kept : (f (s.bin b)).state.lift?.map Lift.id = (s.bin b).state.lift?.map Lift.id) :
    AlikeBut b s (setBin b f s) where
  queue := rfl
  travel := rfl
  geometry := rfl
  banks := rfl
  store := rfl
  slots _ := rfl
  state c other := by rw [setBin_bin, if_neg other]
  suspicion c other := by rw [setBin_bin, if_neg other]
  lift := by
    unfold binLiftId
    rw [setBin_bin_self]
    exact id_kept

theorem of_mapBinLift (s : State) {f : Lift → Lift} (id_kept : ∀ l, (f l).id = l.id) :
    AlikeBut b s (mapBinLift b f s) := by
  refine of_setBin s ?_
  dsimp only
  cases (s.bin b).state with
  | offline => rfl
  | ready => rfl
  | faulted why l =>
    cases l with
    | none => rfl
    | some l => exact congrArg some (id_kept l)
  | drainClose why l => exact congrArg some (id_kept l)
  | _ l => exact congrArg some (id_kept l)

theorem of_loseSheet (s : State) : AlikeBut b s (mapBinLift b Lift.loseSheet s) :=
  of_mapBinLift s (f := Lift.loseSheet) fun _ => rfl

theorem loseSheet (h : AlikeBut b s t) :
    AlikeBut b (mapBinLift b Lift.loseSheet s) (mapBinLift b Lift.loseSheet t) :=
  ((of_loseSheet s).symm.trans h).trans (of_loseSheet t)

theorem openLift (h : AlikeBut b s t) {c : BinNo} (other : c ≠ b) (key : Key) (target : Nat) :
    AlikeBut b (openLift c key target s) (openLift c key target t) := by
  have ready : isReady t c = isReady s c := by rw [isReady, isReady, h.state c other]
  unfold Machine.openLift
  rw [ready, h.freshLiftId]
  split
  · have stored : AlikeBut b { s with store := { s.store with nextId := nextNumberAfter (Machine.freshLiftId s) } }
        { t with store := { t.store with nextId := nextNumberAfter (Machine.freshLiftId s) } } :=
      { h with store := by rw [h.store] }
    exact stored.setBinState other (fun _ => .filling (newLift (Machine.freshLiftId s) key c target))
  · exact h

theorem commitTo (h : AlikeBut b s t) (n : EntryId) {c : BinNo} (other : c ≠ b) (key : Key) (target : Nat) :
    AlikeBut b (commitTo n c key target s) (commitTo n c key target t) := by
  unfold Machine.commitTo
  rw [h.geometry]
  exact ((h.openLift other key target).setBinState other BinState.commit).setEntry n _

theorem dropAtBeltEnd (h : AlikeBut b s t) (n : EntryId) : AlikeBut b (dropAtBeltEnd n s) (dropAtBeltEnd n t) := by
  unfold Machine.dropAtBeltEnd
  rw [h.findEntry]
  split
  · next e _ =>
    rw [atBeltEnd_congr h.geometry h.travel]
    split
    · exact { h with queue := congrArg (List.eraseP (fun x : Entry => x.id == n)) h.queue }
    · exact h
  · exact h

theorem rejectEntry (h : AlikeBut b s t) (n : EntryId) (why : RejectReason) (values : Option Computed) :
    AlikeBut b (rejectEntry n why values s) (rejectEntry n why values t) :=
  (h.setEntry n (Entry.rejected why values)).dropAtBeltEnd n

theorem applyRoute (h : AlikeBut b s t) (n : EntryId) {plan : RoutePlan}
    (other : ∀ c key target, plan = .bin c key target → c ≠ b) :
    AlikeBut b (applyRoute n plan s) (applyRoute n plan t) := by
  cases plan with
  | bin c key target => exact h.commitTo n (other c key target rfl) key target
  | redryGate p =>
    unfold Machine.applyRoute
    rw [h.geometry]
    exact h.setEntry n _
  | beltEnd why values => exact h.rejectEntry n why values

end AlikeBut

/-- A plan of the router for a sheet of the lost bin is not for that bin (R92). -/
theorem planRoute_bin_ne {s : State} {bank : Option BankNo} {v : Verdict} {travel : Nat} {b c : BinNo} {key : Key}
    {target : Nat} (route : planRoute s bank v travel (some b) = .bin c key target) : c ≠ b := by
  rintro rfl
  exact ((canTakeSheet_iff _ _ _ _ _).mpr (planRoute_bin route)).other rfl

/-- Alike states are re-routed alike. -/
theorem AlikeBut.rerouteEntry {b : BinNo} {s t : State} (h : AlikeBut b s t) (n : EntryId) :
    AlikeBut b (rerouteEntry b s n) (rerouteEntry b t n) := by
  unfold Machine.rerouteEntry
  rw [h.findEntry]
  split
  · next e _ =>
    split
    · next v _ _ _ =>
      dsimp only
      rw [h.loseSheet.planRoute, h.loseSheet.travelOf]
      exact h.loseSheet.applyRoute n fun c key target route => planRoute_bin_ne route
    · exact h
  · exact h

theorem AlikeBut.foldl_rerouteEntry {b : BinNo} (ns : List EntryId) :
    ∀ {s t : State}, AlikeBut b s t →
      AlikeBut b (ns.foldl (Machine.rerouteEntry b) s) (ns.foldl (Machine.rerouteEntry b) t) := by
  induction ns with
  | nil => exact id
  | cons n ns ih => exact fun h => ih (h.rerouteEntry n)

/-! ### The re-routing of one entry (R92) -/

theorem applyRoute_bin_ne {n : EntryId} {plan : RoutePlan} {c : BinNo}
    (other : ∀ key target, plan ≠ .bin c key target) (s : State) : (applyRoute n plan s).bin c = s.bin c := by
  cases plan with
  | bin d key target =>
    have apart : c ≠ d := by
      rintro rfl
      exact other key target rfl
    exact commitTo_bin_ne apart n key target s
  | redryGate p => rfl
  | beltEnd why values => exact congrArg (fun v : Vector Bin 16 => v[c]) (rejectEntry_bins n why values s)

section
variable {b : BinNo} {s : State} {e : Entry} (found : findEntry e.id s = some e)
include found

theorem rerouteEntry_unjudged (unjudged : e.verdict = none) : rerouteEntry b s e.id = s := by
  rcases rerouteEntry_cases b s e.id with ⟨same, -⟩ | ⟨x, v, plan, is, -, verdict, -⟩
  · exact same
  · rw [found] at is
    cases is
    rw [unjudged] at verdict
    cases verdict

variable (routed : e.routedTo b = true)
include routed

theorem rerouteEntry_judged {v : Verdict} (verdict : e.verdict = some v) :
    rerouteEntry b s e.id
      = applyRoute e.id (planRoute s e.bank v (travelOf e s) (some b)) (mapBinLift b Lift.loseSheet s) := by
  rcases rerouteEntry_cases b s e.id with ⟨-, unjudged⟩ | ⟨x, w, plan, is, -, verdict', route, same⟩
  · rw [unjudged e found routed] at verdict
    cases verdict
  · rw [found] at is
    cases is
    rw [verdict] at verdict'
    cases verdict'
    rw [same, ← route, (AlikeBut.of_loseSheet s).planRoute]

theorem rerouteEntry_rerouted : Rerouted b e s (rerouteEntry b s e.id) := by
  cases verdict : e.verdict with
  | none =>
    rw [rerouteEntry_unjudged found verdict]
    refine ⟨fun v c key target p is => ?_, fun v why x is => ?_, fun _ => rfl, fun _ _ => rfl, fun _ _ _ => rfl⟩ <;>
      cases verdict.symm.trans is
  | some v =>
    have found' : findEntry e.id (mapBinLift b Lift.loseSheet s) = some e := found
    have alike : AlikeBut b s (mapBinLift b Lift.loseSheet s) := .of_loseSheet s
    rw [rerouteEntry_judged found routed verdict]
    refine ⟨fun w c key target p is route position => ?_, fun w why x is route before => ?_,
      fun is => (by cases verdict.symm.trans is), fun n apart => findEntry_applyRoute_ne apart _ _,
      fun c apart elsewhere => ?_⟩
    · cases verdict.symm.trans is
      rw [route]
      have route' := (alike.planRoute e.bank v (travelOf e s)).trans route
      exact ⟨findEntry_commitTo found' key target position,
        alike.commits (planRoute_bin_ne route) (commitTo_commits e.id target (planRoute_bin route'))⟩
    · cases verdict.symm.trans is
      rw [route]
      exact findEntry_rejectEntry_self why x found' before
    · rw [applyRoute_bin_ne fun key target => elsewhere v key target verdict, mapBinLift, setBin_bin, if_neg apart]

end

/-! ### Acts on the entries of a list, in turn -/

section
variable {act : State → EntryId → State}
  (others : ∀ (s : State) (m n : EntryId), m ≠ n → findEntry m (act s n) = findEntry m s)
include others

theorem findEntry_foldl_of_not_mem {m : EntryId} {ns : List EntryId} (away : m ∉ ns) (s : State) :
    findEntry m (ns.foldl act s) = findEntry m s := by
  induction ns generalizing s with
  | nil => rfl
  | cons n ns ih =>
    rw [List.mem_cons, not_or] at away
    rw [List.foldl_cons, ih away.2, others s m n away.1]

/-- The entry of a sheet in the list is what the act on it makes of it, and the acts on the others leave it alone. -/
theorem findEntry_foldl_of_mem {m : EntryId} {ns : List EntryId} (nodup : ns.Nodup) (mem : m ∈ ns)
    (frame : ∀ s n, BeltFrame s (act s n)) (s : State) :
    ∃ u, BeltFrame s u ∧ findEntry m u = findEntry m s ∧ findEntry m (ns.foldl act s) = findEntry m (act u m) := by
  obtain ⟨before, after, rfl⟩ := List.append_of_mem mem
  obtain ⟨-, nodup', apart⟩ := List.nodup_append.mp nodup
  have not_before : m ∉ before := fun is => apart m is m List.mem_cons_self rfl
  refine ⟨before.foldl act s, .foldl act frame before s, findEntry_foldl_of_not_mem others not_before s, ?_⟩
  rw [List.foldl_append, List.foldl_cons, findEntry_foldl_of_not_mem others (List.nodup_cons.mp nodup').1]

theorem inTurn_foldl {P : Entry → Prop} {rel : Entry → State → State → Prop}
    (own : ∀ s e, P e → findEntry e.id s = some e → rel e s (act s e.id)) :
    ∀ (es : List Entry) (s : State), (es.map Entry.id).Nodup → (∀ e ∈ es, P e ∧ findEntry e.id s = some e) →
      InTurn rel es s ((es.map Entry.id).foldl act s) := by
  intro es
  induction es with
  | nil => exact fun _ _ _ => rfl
  | cons e es ih =>
    intro s nodup each
    obtain ⟨apart, nodup'⟩ := List.nodup_cons.mp nodup
    obtain ⟨⟨holds, found⟩, rest⟩ := List.forall_mem_cons.mp each
    refine ⟨act s e.id, own s e holds found, ih (act s e.id) nodup' fun x mem => ⟨(rest x mem).1, ?_⟩⟩
    have other : x.id ≠ e.id := fun is => apart (is ▸ List.mem_map_of_mem mem)
    rw [others s _ _ other, (rest x mem).2]

end

/-- A count that each act of a list takes down by one. -/
theorem InTurn.count {α : Type} {rel : α → State → State → Prop} {count : State → Nat}
    (step : ∀ a s t, rel a s t → count t = count s - 1) :
    ∀ {l : List α} {s t : State}, InTurn rel l s t → count t = count s - l.length := by
  intro l
  induction l with
  | nil =>
    rintro s t rfl
    rfl
  | cons a l ih =>
    rintro s t ⟨u, first, rest⟩
    rw [ih rest, step a s u first, List.length_cons, Nat.sub_sub, Nat.add_comm]

/-- The entries that a test picks, each found under its sheet. -/
theorem forall_filter_found {s : State} (distinct : EntriesDistinct s) (p : Entry → Bool) :
    ∀ e ∈ s.tracker.queue.filter p, p e = true ∧ findEntry e.id s = some e := fun _ mem =>
  have ⟨mem, picked⟩ := List.mem_filter.mp mem
  ⟨picked, findEntry_of_mem distinct mem⟩

theorem entriesWhere_nodup {s : State} (distinct : EntriesDistinct s) (p : Entry → Bool) :
    (entriesWhere p s).Nodup :=
  (List.filter_sublist.map Entry.id).nodup distinct

/-- Among distinct sheets, the list of the sheets that a test picks holds the sheet of an entry that it picks, and of no
other. -/
theorem mem_entriesWhere_iff {s : State} (distinct : EntriesDistinct s) {p : Entry → Bool} {e : Entry}
    (mem : e ∈ s.tracker.queue) : e.id ∈ entriesWhere p s ↔ p e = true := by
  refine ⟨fun listed => ?_, fun picked => List.mem_map_of_mem (List.mem_filter.mpr ⟨mem, picked⟩)⟩
  obtain ⟨x, mem', is⟩ := List.mem_map.mp listed
  obtain ⟨mem', picked⟩ := List.mem_filter.mp mem'
  rwa [← List.inj_on_of_nodup_map distinct mem' mem is]

/-! ### The LANDING entries while the ROUTED ones are re-routed (R92) -/

section
variable {α : Type} {p q : α → Bool} {f : α → α} {l : List α} {e : α} (found : l.find? q = some e)
  (before : p e = false)
include found before

theorem filter_eraseP : (l.eraseP q).filter p = l.filter p := by
  induction l with
  | nil => cases found
  | cons x xs ih =>
    rw [List.find?_cons] at found
    rw [List.eraseP_cons]
    split at found
    · next hx =>
      cases found
      rw [hx, cond_true, List.filter_cons_of_neg (by simp [before])]
    · next hx => rw [hx, cond_false, List.filter_cons, List.filter_cons, ih found]

theorem filter_updFirst (after : p (f e) = false) : (updFirst q f l).filter p = l.filter p := by
  induction l with
  | nil => cases found
  | cons x xs ih =>
    rw [List.find?_cons] at found
    unfold updFirst
    split at found
    · next hx =>
      cases found
      rw [if_pos hx, List.filter_cons_of_neg (by simp [after]), List.filter_cons_of_neg (by simp [before])]
    · next hx => rw [if_neg (by simp [hx]), List.filter_cons, List.filter_cons, ih found]

end

section
variable {b : BinNo} {n : EntryId} {s : State} {e : Entry} (found : findEntry n s = some e)
  (away : e.landingAt b = false)
include found away

theorem rejectEntry_landing (why : RejectReason) (values : Option Computed) :
    (rejectEntry n why values s).tracker.queue.filter (Entry.landingAt b)
      = s.tracker.queue.filter (Entry.landingAt b) := by
  have changed : (setEntry n (Entry.rejected why values) s).tracker.queue.filter (Entry.landingAt b)
      = s.tracker.queue.filter (Entry.landingAt b) := filter_updFirst found away rfl
  rw [rejectEntry_eq, ← changed]
  rcases dropAtBeltEnd_cases n (setEntry n (Entry.rejected why values) s) with same | ⟨x, found', gone, -, same⟩ <;>
    rw [same]
  exact filter_eraseP found' (by unfold Entry.landingAt; rw [gone])

theorem applyRoute_landing (plan : RoutePlan) :
    (applyRoute n plan s).tracker.queue.filter (Entry.landingAt b) = s.tracker.queue.filter (Entry.landingAt b) := by
  cases plan with
  | bin c key target =>
    obtain ⟨p, q, queue⟩ := commitTo_queue n c key target s
    rw [applyRoute, queue]
    exact filter_updFirst found away rfl
  | redryGate p => exact filter_updFirst found away rfl
  | beltEnd why values => exact rejectEntry_landing found away why values

end

theorem Entry.not_landingAt_of_routedTo {e : Entry} {b c : BinNo} (routed : e.routedTo b = true) :
    e.landingAt c = false := by
  unfold Entry.routedTo at routed
  unfold Entry.landingAt
  split at routed
  · next is => rw [is]
  · cases routed

theorem rerouteEntry_landing (b : BinNo) (s : State) (n : EntryId) :
    (rerouteEntry b s n).tracker.queue.filter (Entry.landingAt b) = s.tracker.queue.filter (Entry.landingAt b) := by
  rcases rerouteEntry_cases b s n with ⟨same, -⟩ | ⟨e, v, plan, found, routed, -, -, same⟩ <;> rw [same]
  have found' : findEntry n (mapBinLift b Lift.loseSheet s) = some e := found
  exact applyRoute_landing found' (Entry.not_landingAt_of_routedTo routed) plan

/-! ### The two parts of the loss (R92, R93) -/

/-- The ROUTED entries of the lost bin re-routed, oldest first (R92). -/
def rerouteAll (b : BinNo) (s : State) : State := (entriesWhere (Entry.routedTo b) s).foldl (rerouteEntry b) s

/-- The LANDING entries of the lost bin turned away (R93). -/
def turnAwayAll (b : BinNo) (s : State) : State := (entriesWhere (Entry.landingAt b) s).foldl (turnAwayEntry b) s

theorem loseEntries_eq (b : BinNo) (s : State) : loseEntries b s = turnAwayAll b (rerouteAll b s) := rfl

theorem rerouteAll_leave (b : BinNo) (s : State) : EntriesLeave s (rerouteAll b s) :=
  (Bounded.foldl _ (rerouteEntry_bounded b) _ s).leave

theorem rerouteAll_landing (b : BinNo) (s : State) :
    (rerouteAll b s).tracker.queue.filter (Entry.landingAt b) = s.tracker.queue.filter (Entry.landingAt b) :=
  foldl_keeps (fun t => t.tracker.queue.filter (Entry.landingAt b) = s.tracker.queue.filter (Entry.landingAt b)) _
    (fun t n same => (rerouteEntry_landing b t n).trans same) _ s rfl

/-- A route that the router finds with the lost bin excluded leaves its entry ROUTED there no more. -/
theorem applyRoute_own {b : BinNo} {s : State} {n : EntryId} {e : Entry} {v : Verdict} {plan : RoutePlan}
    {travel : Nat} (distinct : EntriesDistinct s) (found : findEntry n s = some e)
    (route : planRoute s e.bank v travel (some b) = plan) {x : Entry}
    (is : findEntry n (applyRoute n plan s) = some x) : x.routedTo b = false := by
  cases plan with
  | bin c key target =>
    obtain ⟨p, position, -⟩ := ((canTakeSheet_iff _ _ _ _ _).mpr (planRoute_bin route)).reach
    rw [applyRoute, findEntry_commitTo found key target position] at is
    cases is
    simpa [Entry.routedTo] using planRoute_bin_ne route
  | redryGate p =>
    rw [findEntry_applyRoute_redryGate found p] at is
    cases is
    rfl
  | beltEnd why values =>
    have rejected := rejectEntry_own distinct is
    unfold Entry.routedTo
    rw [rejected]

/-- A ROUTED entry of the lost bin that has a verdict. -/
def Entry.reroutable (b : BinNo) (e : Entry) : Bool := e.routedTo b && e.verdict.isSome

theorem rerouteAll_none_left {b : BinNo} {s : State} (distinct : EntriesDistinct s) :
    ∀ e ∈ (rerouteAll b s).tracker.queue, e.routedTo b = true → e.verdict = none := by
  have own (t : State) (n : EntryId) (e : Entry) (d : EntriesDistinct t)
      (found : findEntry n (rerouteEntry b t n) = some e) : e.reroutable b = false := by
    unfold Entry.reroutable
    rcases rerouteEntry_cases b t n with ⟨same, unjudged⟩ | ⟨x, v, plan, found', -, -, route, same⟩ <;>
      rw [same] at found
    · cases routed : e.routedTo b
      · rfl
      · rw [unjudged e found routed]; rfl
    · have away := applyRoute_own (s := mapBinLift b Lift.loseSheet t) d found' route found
      rw [away]; rfl
  have cleared := (foldl_clears (act := rerouteEntry b) (p := Entry.reroutable b) (inv := fun _ => True)
    (fun t n => (rerouteEntry_bounded b t n).leave) (fun _ _ _ => trivial)
    (fun t _ _ apart => findEntry_rerouteEntry_ne apart b t) (fun t n e d _ found => own t n e d found)
    (entriesWhere (Entry.routedTo b) s) s distinct trivial
    fun e mem picked => (mem_entriesWhere_iff distinct mem).mpr ((Bool.and_eq_true _ _).mp picked).1).2
  intro e mem routed
  simpa [Entry.reroutable, routed] using cleared e mem

theorem turnAwayAll_none_left {b : BinNo} {s : State} (distinct : EntriesDistinct s) :
    ∀ e ∈ (turnAwayAll b s).tracker.queue, e.landingAt b = false :=
  (foldl_clears (act := turnAwayEntry b) (p := Entry.landingAt b) (inv := fun _ => True)
    (fun t n => (turnAwayEntry_bounded b t n).leave) (fun _ _ _ => trivial)
    (fun t _ _ apart => findEntry_turnAwayEntry_ne apart b t) (fun _ _ _ d _ found => turnAwayEntry_own d found)
    (entriesWhere (Entry.landingAt b) s) s distinct trivial
    fun _ mem picked => (mem_entriesWhere_iff distinct mem).mpr picked).2

/-- What the turning away leaves in the queue was there before, or is rejected. -/
theorem turnAwayAll_routed {b : BinNo} {s : State}
    (h : ∀ e ∈ s.tracker.queue, e.routedTo b = true → e.verdict = none) :
    ∀ e ∈ (turnAwayAll b s).tracker.queue, e.routedTo b = true → e.verdict = none := by
  refine foldl_keeps (fun t => ∀ e ∈ t.tracker.queue, e.routedTo b = true → e.verdict = none) _ (fun t n h => ?_) _ s h
  rcases turnAwayEntry_cases b t n with ⟨same, -⟩ | ⟨x, found, -, same⟩ <;> rw [same]
  · exact h
  · intro e mem
    rcases mem_of_mem_rejectEntry (s := mapBinLift b Lift.loseSheet t) found _ _ mem with mem | rfl
    · exact h e mem
    · nofun

/-- An entry that is not LANDING for the lost bin stays as it is while those are turned away. -/
theorem turnAwayAll_kept {b : BinNo} {s : State} (distinct : EntriesDistinct s) {e : Entry}
    (mem : e ∈ s.tracker.queue) (away : e.landingAt b = false) : e ∈ (turnAwayAll b s).tracker.queue := by
  have not_listed : e.id ∉ entriesWhere (Entry.landingAt b) s := by
    rw [mem_entriesWhere_iff distinct mem, away]
    nofun
  have found := findEntry_foldl_of_not_mem (act := turnAwayEntry b)
    (fun t _ _ apart => findEntry_turnAwayEntry_ne apart b t) not_listed s
  exact findEntry_mem (found.trans (findEntry_of_mem distinct mem))

/-- An entry that is not ROUTED to the lost bin stays as it is while those are re-routed. -/
theorem rerouteAll_kept {b : BinNo} {s : State} (distinct : EntriesDistinct s) {e : Entry}
    (mem : e ∈ s.tracker.queue) (away : e.routedTo b = false) : e ∈ (rerouteAll b s).tracker.queue := by
  have not_listed : e.id ∉ entriesWhere (Entry.routedTo b) s := by
    rw [mem_entriesWhere_iff distinct mem, away]
    nofun
  have found := findEntry_foldl_of_not_mem (act := rerouteEntry b)
    (fun t _ _ apart => findEntry_rerouteEntry_ne apart b t) not_listed s
  exact findEntry_mem (found.trans (findEntry_of_mem distinct mem))

/-- A LANDING entry of the lost bin that lies before the belt end becomes REJECT BIN_LOST (R93). -/
theorem turnAwayAll_landing {b : BinNo} {s : State} (distinct : EntriesDistinct s) {e : Entry}
    (mem : e ∈ s.tracker.queue) (lands : e.landingAt b = true) (before : atBeltEnd e s = false) :
    e.rejected .binLost (e.verdict.bind Verdict.values) ∈ (turnAwayAll b s).tracker.queue := by
  obtain ⟨u, frame, same, found⟩ := findEntry_foldl_of_mem (act := turnAwayEntry b)
    (fun t _ _ apart => findEntry_turnAwayEntry_ne apart b t) (entriesWhere_nodup distinct (Entry.landingAt b))
    ((mem_entriesWhere_iff distinct mem).mpr lands) (turnAwayEntry_beltFrame b) s
  rw [findEntry_of_mem distinct mem] at same
  refine findEntry_mem (found.trans ?_)
  rcases turnAwayEntry_cases b u e.id with ⟨-, away⟩ | ⟨x, is, -, acts⟩
  · rw [away e same] at lands
    cases lands
  · rw [same] at is
    cases is
    rw [acts]
    exact findEntry_rejectEntry_self (s := mapBinLift b Lift.loseSheet u) _ _ same ((frame.atBeltEnd_eq e).trans before)

theorem turnAwayAll_bin_ne {b c : BinNo} (apart : c ≠ b) (s : State) : (turnAwayAll b s).bin c = s.bin c := by
  refine foldl_keeps (fun t => t.bin c = s.bin c) _ (fun t n same => ?_) _ s rfl
  rcases turnAwayEntry_cases b t n with ⟨e, -⟩ | ⟨x, -, -, e⟩ <;> rw [e]
  · exact same
  · have bins : (rejectEntry n .binLost (x.verdict.bind Verdict.values) (mapBinLift b Lift.loseSheet t)).bin c
        = (mapBinLift b Lift.loseSheet t).bin c :=
      congrArg (fun v : Vector Bin 16 => v[c]) (rejectEntry_bins n _ _ _)
    rw [bins, mapBinLift, setBin_bin, if_neg apart, same]

/-! ### The sheets in flight of the lost bin's lift -/

theorem mapBinLift_flying (b : BinNo) (s : State) :
    ((mapBinLift b Lift.loseSheet s).bin b).state.flying = (s.bin b).state.flying - 1 := by
  rw [mapBinLift, setBin_bin_self]
  exact BinState.mapLift_flying loseSheet_fewer _

theorem rerouteAll_flying {b : BinNo} {s : State} (distinct : EntriesDistinct s)
    (judged : ∀ e ∈ s.tracker.queue, e.routedTo b = true → e.verdict ≠ none) :
    ((rerouteAll b s).bin b).state.flying
      = (s.bin b).state.flying - (s.tracker.queue.filter (Entry.routedTo b)).length := by
  refine InTurn.count (rel := fun _ s t => (t.bin b).state.flying = (s.bin b).state.flying - 1)
    (count := fun s => (s.bin b).state.flying) (fun _ _ _ => id)
    (inTurn_foldl (P := fun e => e.routedTo b = true ∧ e.verdict ≠ none)
      (fun t _ _ apart => findEntry_rerouteEntry_ne apart b t) (fun t e h found => ?_) _ s
      (entriesWhere_nodup distinct _) fun e mem => ?_)
  · obtain ⟨v, verdict⟩ := Option.ne_none_iff_exists'.mp h.2
    have elsewhere (key : Key) (target : Nat) :
        planRoute t e.bank v (travelOf e t) (some b) ≠ .bin b key target := fun route => planRoute_bin_ne route rfl
    rw [rerouteEntry_judged found h.1 verdict, applyRoute_bin_ne elsewhere, mapBinLift_flying]
  · obtain ⟨routed, found⟩ := forall_filter_found distinct _ e mem
    exact ⟨⟨routed, judged e (findEntry_mem found) routed⟩, found⟩

theorem turnAwayAll_flying {b : BinNo} {s : State} (distinct : EntriesDistinct s) :
    ((turnAwayAll b s).bin b).state.flying
      = (s.bin b).state.flying - (s.tracker.queue.filter (Entry.landingAt b)).length := by
  refine InTurn.count (rel := fun _ s t => (t.bin b).state.flying = (s.bin b).state.flying - 1)
    (count := fun s => (s.bin b).state.flying) (fun _ _ _ => id)
    (inTurn_foldl (P := fun e => e.landingAt b = true)
      (fun t _ _ apart => findEntry_turnAwayEntry_ne apart b t) (fun t e lands found => ?_) _ s
      (entriesWhere_nodup distinct _) (forall_filter_found distinct _))
  rcases turnAwayEntry_cases b t e.id with ⟨-, away⟩ | ⟨x, -, -, acts⟩
  · rw [away e found] at lands
    cases lands
  · have bins : (turnAwayEntry b t e.id).bin b = (mapBinLift b Lift.loseSheet t).bin b := by
      rw [acts]
      exact congrArg (fun v : Vector Bin 16 => v[b]) (rejectEntry_bins e.id _ _ _)
    rw [bins, mapBinLift_flying]

theorem loseEntries_flying {b : BinNo} {s : State} (distinct : EntriesDistinct s)
    (judged : ∀ e ∈ s.tracker.queue, e.routedTo b = true → e.verdict ≠ none) :
    ((loseEntries b s).bin b).state.flying
      = (s.bin b).state.flying
        - ((s.tracker.queue.filter (Entry.routedTo b)).length
          + (s.tracker.queue.filter (Entry.landingAt b)).length) := by
  rw [loseEntries_eq, turnAwayAll_flying ((rerouteAll_leave b s).distinct distinct), rerouteAll_flying distinct judged,
    rerouteAll_landing, Nat.sub_sub]

end Sys2Proof.Machine
end

section
/-! SUPPORT. The fault of a bin (R92, R93, R105, R106): what the loss of the entries leaves alone, and what the fault
and the end of its event leave of the bin, the entries and the events. -/

namespace Sys2Proof.Machine

/-! ### What the loss of a bin's entries leaves alone -/

/-- What the loss of bin `b`'s entries leaves alone: the bin's state but for its lift, its suspicion count and its
ejector, the events, the outfeed, and every tally that counts no rejects. -/
structure LossFrame (b : BinNo) (s t : State) : Prop where
  tag : (t.bin b).state.tag = (s.bin b).state.tag
  suspicion : (t.bin b).suspicion = (s.bin b).suspicion
  eject : (t.bin b).eject = (s.bin b).eject
  events : t.events = s.events
  outfeed : t.outfeed = s.outfeed
  tallies : ∀ count : Tallies → Nat, (∀ t why n, count (Tallies.countReject t why n) = count t) →
    count t.tallies = count s.tallies

namespace LossFrame

variable {b : BinNo} {s t : State}

theorem of_same (bin : t.bin b = s.bin b) (events : t.events = s.events) (outfeed : t.outfeed = s.outfeed)
    (tallies : t.tallies = s.tallies) : LossFrame b s t :=
  ⟨by rw [bin], by rw [bin], by rw [bin], events, outfeed, fun _ _ => by rw [tallies]⟩

theorem refl (b : BinNo) (s : State) : LossFrame b s s := of_same rfl rfl rfl rfl

theorem trans {u : State} (h : LossFrame b s t) (k : LossFrame b t u) : LossFrame b s u where
  tag := k.tag.trans h.tag
  suspicion := k.suspicion.trans h.suspicion
  eject := k.eject.trans h.eject
  events := k.events.trans h.events
  outfeed := k.outfeed.trans h.outfeed
  tallies count other := (k.tallies count other).trans (h.tallies count other)

theorem foldl {α : Type} {act : State → α → State} (h : ∀ s a, LossFrame b s (act s a)) (l : List α) (s : State) :
    LossFrame b s (l.foldl act s) :=
  foldl_rel (LossFrame b) (refl b) (fun _ _ _ => trans) act h l s

theorem setEntry (b : BinNo) (n : EntryId) (f : Entry → Entry) (s : State) : LossFrame b s (setEntry n f s) :=
  of_same rfl rfl rfl rfl

theorem mapBinLift (b : BinNo) (f : Lift → Lift) (s : State) : LossFrame b s (mapBinLift b f s) := by
  have bin : (Machine.mapBinLift b f s).bin b = { s.bin b with state := (s.bin b).state.mapLift f } :=
    setBin_bin_self _ _ _
  refine ⟨?_, by rw [bin], by rw [bin], rfl, rfl, fun _ _ => rfl⟩
  rw [bin]
  dsimp only
  cases (s.bin b).state <;> rfl

theorem rejectEntry (b : BinNo) (n : EntryId) (why : RejectReason) (values : Option Computed) (s : State) :
    LossFrame b s (rejectEntry n why values s) := by
  refine (setEntry b n (Entry.rejected why values) s).trans ?_
  rw [rejectEntry_eq]
  rcases dropAtBeltEnd_cases n (Machine.setEntry n (Entry.rejected why values) s) with e | ⟨x, -, -, -, e⟩ <;> rw [e]
  · exact refl b _
  · refine ⟨rfl, rfl, rfl, rfl, rfl, fun count other => ?_⟩
    rw [tally_tallies, removeEntry_tallies]
    unfold countVerdict
    split
    · exact other _ _ _
    · rfl

theorem commitTo {c : BinNo} (apart : c ≠ b) (n : EntryId) (key : Key) (target : Nat) (s : State) :
    LossFrame b s (commitTo n c key target s) := by
  have same : (openLift c key target s).events = s.events ∧ (openLift c key target s).outfeed = s.outfeed
      ∧ (openLift c key target s).tallies = s.tallies := by
    unfold openLift
    split <;> exact ⟨rfl, rfl, rfl⟩
  exact of_same (commitTo_bin_ne apart.symm n key target s) same.1 same.2.1 same.2.2

theorem rerouteEntry (b : BinNo) (s : State) (n : EntryId) : LossFrame b s (rerouteEntry b s n) := by
  rcases rerouteEntry_cases b s n with ⟨e, -⟩ | ⟨x, v, plan, -, -, -, route, e⟩ <;> rw [e]
  · exact refl b s
  · refine (mapBinLift b Lift.loseSheet s).trans ?_
    cases plan with
    | bin c key target => exact commitTo (planRoute_bin_ne route) n key target _
    | redryGate p => exact setEntry b n _ _
    | beltEnd why values => exact rejectEntry b n why values _

theorem turnAwayEntry (b : BinNo) (s : State) (n : EntryId) : LossFrame b s (turnAwayEntry b s n) := by
  rcases turnAwayEntry_cases b s n with ⟨e, -⟩ | ⟨x, -, -, e⟩ <;> rw [e]
  · exact refl b s
  · exact (mapBinLift b Lift.loseSheet s).trans (rejectEntry b n _ _ _)

theorem loseEntries (b : BinNo) (s : State) : LossFrame b s (loseEntries b s) :=
  (foldl (rerouteEntry b) _ s).trans (foldl (turnAwayEntry b) _ _)

end LossFrame

/-! ### The loss of a bin, from the state that the fault finds -/

/-- The loss of bin `b`'s entries, told of the state `s` that the fault finds, when its act is made on a state `a` that
is alike but for the bin, and `t` is what the end of the event leaves. -/
theorem loseEntries_binLost {b : BinNo} {s a t : State} (distinct : EntriesDistinct s) (alike : AlikeBut b s a)
    (flying : (a.bin b).state.flying = (s.bin b).state.flying)
    (queue : t.tracker.queue = (loseEntries b a).tracker.queue)
    (own : (t.bin b).state = ((loseEntries b a).bin b).state)
    (others : s.mode ≠ .drain ∨ t.tracker.queue ≠ [] → ∀ c, (∀ l, ((loseEntries b a).bin c).state ≠ .fullWait l) →
      (t.bin c).state = ((loseEntries b a).bin c).state) : BinLost b s t := by
  have distinct_a : EntriesDistinct a := by rwa [EntriesDistinct, alike.queue]
  have distinct_r := (rerouteAll_leave b a).distinct distinct_a
  have rerouted : AlikeBut b (rerouteAll b s) (rerouteAll b a) := by
    have listed : entriesWhere (Entry.routedTo b) a = entriesWhere (Entry.routedTo b) s := by
      rw [entriesWhere, alike.queue]; rfl
    rw [rerouteAll, rerouteAll, listed]
    exact alike.foldl_rerouteEntry _
  have belt : BeltFrame a (rerouteAll b a) := .foldl _ (rerouteEntry_beltFrame b) _ a
  refine ⟨⟨rerouteAll b s, ?_, fun e mem away => ?_, fun on c apart live => ?_⟩, fun e mem lands before => ?_,
    fun e mem => ?_, fun e mem not_routed not_landing => ?_, ?_, fun why l m holds faulted judged => ?_⟩
  · exact inTurn_foldl (P := fun e => e.routedTo b = true)
      (fun u _ _ apart => findEntry_rerouteEntry_ne apart b u)
      (fun u e routed found => rerouteEntry_rerouted found routed) _ s (entriesWhere_nodup distinct _)
      (forall_filter_found distinct _)
  · rw [queue, loseEntries_eq]
    exact turnAwayAll_kept distinct_r (rerouted.queue ▸ mem) away
  · have kept : ((loseEntries b a).bin c).state = ((rerouteAll b s).bin c).state := by
      rw [loseEntries_eq, turnAwayAll_bin_ne apart, rerouted.state c apart]
    rw [others on c (by rwa [kept]), kept]
  · rw [queue, loseEntries_eq]
    refine turnAwayAll_landing distinct_r ?_ lands ?_
    · have listed : e ∈ a.tracker.queue.filter (Entry.landingAt b) :=
        List.mem_filter.mpr ⟨alike.queue ▸ mem, lands⟩
      rw [← rerouteAll_landing] at listed
      exact (List.mem_filter.mp listed).1
    · rw [belt.atBeltEnd_eq, atBeltEnd_congr alike.geometry alike.travel, before]
  · rw [queue, loseEntries_eq] at mem
    exact ⟨turnAwayAll_none_left distinct_r e mem, turnAwayAll_routed (rerouteAll_none_left distinct_a) e mem⟩
  · rw [queue, loseEntries_eq]
    exact turnAwayAll_kept distinct_r (rerouteAll_kept distinct_a (alike.queue ▸ mem) not_routed) not_landing
  · rw [queue, ← alike.queue]
    exact (loseEntries_bounded b a).leave.order
  · have count := loseEntries_flying (b := b) distinct_a (by rwa [alike.queue])
    rw [← own, faulted, flying, alike.queue] at count
    have lift : (s.bin b).state.flying = l.inFlight := by rw [BinState.flying, holds]
    rwa [lift] at count

/-! ### The fault of a bin (R105, R106) -/

section
variable (b : BinNo) (why : BinFault) (s : State)

theorem faultAnnounced_bin (c : BinNo) :
    (faultAnnounced b why s).bin c
      = if c = b then { s.bin b with state := .faulted why (s.bin b).state.faultLift, eject := false } else s.bin c :=
  (congrArg (fun v : Vector Bin 16 => v[c]) (faultAnnounced_bins b why s)).trans (setBin_bin _ _ _ _)

theorem faultAnnounced_events : (faultAnnounced b why s).events = s.events.append (.binFaulted b why) := by
  unfold faultAnnounced
  dsimp only
  split <;> rfl

theorem faultAnnounced_tallies : (faultAnnounced b why s).tallies = s.tallies := by
  unfold faultAnnounced
  dsimp only
  split <;> rfl

theorem faultAnnounced_not_queued : b ∉ (faultAnnounced b why s).outfeed.queue := by
  have queue : (faultAnnounced b why s).outfeed.queue = s.outfeed.queue.filter (fun c => c != b) := by
    unfold faultAnnounced
    dsimp only
    split <;> rfl
  rw [queue, List.mem_filter]
  simp

theorem loseEjection_slotLiftId (n : SlotNo) : slotLiftId (loseEjection b why s) n = slotLiftId s n := by
  unfold slotLiftId loseEjection
  rw [vmap_get]
  split
  · next reserved => rw [beq_iff_eq.mp reserved]; rfl
  · rfl

theorem faultAnnounced_alike : AlikeBut b s (faultAnnounced b why s) := by
  have same : (faultAnnounced b why s).geometry = s.geometry ∧ (faultAnnounced b why s).banks = s.banks
      ∧ (faultAnnounced b why s).store = s.store ∧ ∀ n, slotLiftId (faultAnnounced b why s) n = slotLiftId s n := by
    unfold faultAnnounced
    dsimp only
    split
    · exact ⟨rfl, rfl, rfl, loseEjection_slotLiftId b why s⟩
    · exact ⟨rfl, rfl, rfl, fun _ => rfl⟩
  obtain ⟨geometry, banks, store, slots⟩ := same
  have tracker := faultAnnounced_tracker b why s
  refine ⟨by rw [tracker], by rw [tracker], geometry, banks, store, slots, fun c apart => ?_, fun c apart => ?_, ?_⟩
  · rw [faultAnnounced_bin, if_neg apart]
  · rw [faultAnnounced_bin, if_neg apart]
  · rw [binLiftId, faultAnnounced_bin, if_pos rfl, binLiftId]
    cases (s.bin b).state <;> rfl

end

theorem BinState.of_faulted_tag {x : BinState} {why : BinFault} (h : x.tag = .faulted why) :
    ∃ l, x = .faulted why l := by
  cases x <;> cases h
  exact ⟨_, rfl⟩

section
variable {b : BinNo} {s : State} (on : (s.bin b).state ≠ .offline) (live : ∀ why l, (s.bin b).state ≠ .faulted why l)
  (why : BinFault)
include on live

theorem faultBin_eq : faultBin b why s = syncGates (loseEntries b (faultAnnounced b why s)) := by
  unfold faultBin faultAnnounced
  cases is : (s.bin b).state with
  | offline => exact absurd is on
  | faulted w l => exact absurd is (live w l)
  | _ => rfl

theorem faultBin_faulted : ∃ l, ((faultBin b why s).bin b).state = .faulted why l := by
  refine BinState.of_faulted_tag ?_
  rw [faultBin_eq on live, syncGates_bin_state, (LossFrame.loseEntries b _).tag, faultAnnounced_bin, if_pos rfl]
  rfl

/-- What the fault of a bin and the end of its event leave of the bin, the events and the tallies (R105). -/
theorem faultBin_effect :
    let t := finish (faultBin b why s)
    (t.bin b).state.tag = .faulted why ∧ (t.bin b).suspicion = (s.bin b).suspicion ∧ (t.bin b).gate = false
    ∧ (t.bin b).eject = false ∧ b ∉ t.outfeed.queue
    ∧ (s.mode ≠ .drain ∨ t.tracker.queue ≠ [] → t.events = s.events.append (.binFaulted b why))
    ∧ ∀ count : Tallies → Nat, (∀ t why n, count (Tallies.countReject t why n) = count t) →
        (∀ t why, count (Tallies.countClosed t why) = count t) → count t.tallies = count s.tallies := by
  intro t
  have frame : BeltFrame s (faultBin b why s) := faultBin_beltFrame b why s
  have lost := LossFrame.loseEntries b (faultAnnounced b why s)
  have announced : (faultAnnounced b why s).bin b
      = { s.bin b with state := .faulted why (s.bin b).state.faultLift, eject := false } := by
    rw [faultAnnounced_bin, if_pos rfl]
  have is := faultBin_eq on live why
  have synced : (faultBin b why s).bin b
      = { (loseEntries b (faultAnnounced b why s)).bin b with
          gate := gateDue (loseEntries b (faultAnnounced b why s)) b } := by rw [is, syncGates_bin]
  obtain ⟨l, faulted⟩ := faultBin_faulted on live why
  have undrained : ((faultBin b why s).bin b).state.Undrained := .of_away (by rw [faulted]; rfl)
  obtain ⟨gate, settled⟩ := finish_bin_settled undrained (by simp [faulted])
  have gates := (finish_gates (faultBin b why s)).1 b
  refine ⟨?_, ?_, ?_, ?_, ?_, fun going => ?_, fun count rejects closes => ?_⟩
  · rw [settled, faulted]; rfl
  · rw [settled, synced, lost.suspicion, announced]
  · rw [gates, gateDue, settled, faulted]; rfl
  · rw [settled, synced, lost.eject, announced]
  · refine OutOfQueue.finish ⟨undrained, ?_⟩
    rw [is, syncGates_outfeed, lost.outfeed]
    exact faultAnnounced_not_queued b why s
  · rw [finish_tracker] at going
    rw [finish_events (going.imp_left frame.mode_ne_drain), is, syncGates_events, lost.events, faultAnnounced_events]
  · rw [finish_tally count closes, is, syncGates_tallies, lost.tallies count rejects, faultAnnounced_tallies]

/-- What the fault of a bin leaves of its entries, told of a state `u` that is alike but for the bin (R92, R93). -/
theorem faultBin_binLost {u : State} (distinct : EntriesDistinct u) (alike : AlikeBut b u s)
    (flying : (s.bin b).state.flying = (u.bin b).state.flying) (mode : s.mode = u.mode) :
    BinLost b u (finish (faultBin b why s)) := by
  have frame : BeltFrame s (faultBin b why s) := faultBin_beltFrame b why s
  have is := faultBin_eq on live why
  have state (c : BinNo) :
      ((faultBin b why s).bin c).state = ((loseEntries b (faultAnnounced b why s)).bin c).state := by
    rw [is, syncGates_bin_state]
  obtain ⟨l, faulted⟩ := faultBin_faulted on live why
  refine loseEntries_binLost distinct (alike.trans (faultAnnounced_alike b why s)) ?_ ?_ ?_ fun going c settled => ?_
  · rw [faultAnnounced_bin, if_pos rfl, ← flying]
    exact BinState.faultLift_flying why _
  · rw [finish_tracker, is, syncGates_tracker]
  · obtain ⟨gate, same⟩ := finish_bin_settled (.of_away (by rw [faulted]; rfl)) (by simp [faulted])
    rw [same, state]
  · rw [finish_tracker] at going
    rw [finish_bin_state (by rwa [state]) (going.imp_left fun run => frame.mode_ne_drain (mode ▸ run)), state]

end

end Sys2Proof.Machine
end

section
/-! SUPPORT. A sheet that lands in a bin or is missed there (R98, R101): what its leaving makes of the bin, and what the
completion of the bin's drain and the end of the event then leave (R121, R167). -/

namespace Sys2Proof.Machine

/-! ### A sheet leaves the belt at a bin -/

/-- Entry `n` has left the queue of `s` and bin `b` is in state `x`; the other bins' states, the mode and the lift store
are as they were. -/
structure SheetGone (b : BinNo) (n : EntryId) (x : BinState) (s w : State) : Prop where
  queue : w.tracker.queue = s.tracker.queue.eraseP (fun e => e.id == n)
  own : (w.bin b).state = x
  others : ∀ c : BinNo, c ≠ b → (w.bin c).state = (s.bin c).state
  mode : w.mode = s.mode
  store : w.store = s.store

/-- No sheet's leaving ends a drain: the mode is not DRAIN, or other entries are left (R167). -/
def GoesOn (n : EntryId) (s : State) : Prop :=
  s.mode ≠ .drain ∨ s.tracker.queue.eraseP (fun e => e.id == n) ≠ []

namespace SheetGone

variable {b : BinNo} {n : EntryId} {x : BinState} {s w : State} (h : SheetGone b n x s w)
include h

theorem going (more : GoesOn n s) :
    (completeDrain b w).mode ≠ .drain ∨ (completeDrain b w).tracker.queue ≠ [] := by
  rwa [completeDrain_mode, completeDrain_tracker, h.mode, h.queue]

theorem ended (last : ¬GoesOn n s) :
    (completeDrain b w).mode = .drain ∧ (completeDrain b w).tracker.queue = [] := by
  rw [completeDrain_mode, completeDrain_tracker, h.mode, h.queue]
  exact (not_or.mp last).imp not_not.mp not_not.mp

/-- The completion of the bin's drain, and the end of the event, whatever state the bin is in. -/
theorem ends :
    let t := finish (completeDrain b w)
    t.tracker.queue = s.tracker.queue.eraseP (fun e => e.id == n) ∧ (t.bin b).suspicion = (w.bin b).suspicion
    ∧ (¬GoesOn n s → t.mode = .idle)
    ∧ ∀ {α : Type} (count : Tallies → α), (∀ t why, count (Tallies.countClosed t why) = count t) →
        count t.tallies = count w.tallies := by
  refine ⟨?_, ?_, fun last => ?_, fun count closes => ?_⟩
  · rw [finish_tracker, completeDrain_tracker, h.queue]
  · rw [finish_bin_suspicion, completeDrain_suspicion]
  · exact finish_mode_of_due (h.ended last).1 (h.ended last).2
  · rw [finish_tally count closes]
    rcases completeDrain_cases b w with ⟨e, -⟩ | ⟨why, l, -, -, -, e⟩ | ⟨why, l, -, -, -, e⟩ <;> rw [e]
    · rfl
    · exact closes w.tallies why

theorem filling {l : Lift} (fills : x = .filling l) :
    let t := finish (completeDrain b w)
    (GoesOn n s → (t.bin b).state = .filling l ∧ t.tallies = w.tallies ∧ t.events = w.events)
    ∧ (¬GoesOn n s → DrainEnded { s with bins := vset s.bins b { s.bin b with state := .filling l } } t) := by
  have own : (w.bin b).state = .filling l := h.own.trans fills
  have idle : completeDrain b w = w := completeDrain_idle (by simp [own])
  intro t
  refine ⟨fun more => ?_, fun last => ?_⟩
  · have going := h.going more
    exact ⟨by rw [finish_bin_state (by simp [idle, own]) going, idle, own], by rw [finish_tallies going, idle],
      by rw [finish_events going, idle]⟩
  · refine finish_drainEnded (h.ended last).1 (h.ended last).2 fun c => ?_
    have changed := setBin_bin b c (fun x => { x with state := .filling l }) s
    rw [idle]
    refine Eq.trans ?_ (congrArg Bin.state changed).symm
    split
    · next same => rw [same, own]
    · next apart => exact h.others c apart

section
variable {why : CloseReason} {l : Lift} (drains : x = .drainClose why l)
include drains

theorem draining (flies : l.inFlight ≠ 0) :
    let t := finish (completeDrain b w)
    (t.bin b).state = .drainClose why l ∧ (GoesOn n s → t.events = w.events) := by
  have own : (w.bin b).state = .drainClose why l := h.own.trans drains
  have idle : completeDrain b w = w := completeDrain_inFlight own flies
  have undrained : (w.bin b).state.Undrained := by
    rw [own]
    exact ⟨fun _ is => (by cases is), fun _ _ is => (by cases is; exact flies)⟩
  intro t
  refine ⟨?_, fun more => by rw [finish_events (h.going more), idle]⟩
  obtain ⟨gate, settled⟩ := finish_bin_settled undrained (by simp [own])
  rw [show t = finish w from congrArg finish idle, settled, own]

variable (still : l.inFlight = 0)
include still

theorem discarded (empty : l.landed = 0) :
    let t := finish (completeDrain b w)
    (t.bin b).state = .ready
    ∧ (GoesOn n s → t.events = w.events.append (.liftDiscarded l.id b (.close why))) := by
  have discards := completeDrain_discards (h.own.trans drains) still empty
  have ready : ((completeDrain b w).bin b).state = .ready := by rw [discards, discardLift_bin]
  intro t
  refine ⟨?_, fun more => ?_⟩
  · obtain ⟨gate, settled⟩ := finish_bin_settled (.of_away (by rw [ready]; rfl)) (by simp [ready])
    rw [settled, ready]
  · rw [finish_events (h.going more), discards]
    rfl

theorem closed (landed : l.landed ≠ 0) :
    let t := finish (completeDrain b w)
    (t.bin b).state.Delivers (l.closeAs why (s.store.closeCounter + 1))
    ∧ (GoesOn n s →
        t.store.closeCounter = s.store.closeCounter + 1 ∧ t.tallies = w.tallies.countClosed why
        ∧ t.events = w.events.append (.liftClosed l.id b why l.landed l.mean l.moistureMax)) := by
  have closes := completeDrain_closes (h.own.trans drains) still landed
  have waits : ((completeDrain b w).bin b).state = .fullWait (l.closeAs why (s.store.closeCounter + 1)) := by
    rw [closes, closeLift_bin, h.store]
  intro t
  refine ⟨finish_delivers waits, fun more => ?_⟩
  have going := h.going more
  refine ⟨?_, ?_, ?_⟩
  · rw [show t = closeEvent (completeDrain b w) from finish_eq_closeEvent _ going, closeEvent_store, closes, ← h.store]
    rfl
  · rw [finish_tallies going, closes]
    rfl
  · rw [finish_events going, closes]
    rfl

end

end SheetGone

end Sys2Proof.Machine
end

section
/-! SUPPORT. The landing window end and the stuck eye (R101 to R106): when each is due, a missed landing before and at
the third anomaly; then the statement about them. -/

namespace Sys2Proof.Machine

/-! ### The anomalies before the third (R103) -/

/-- Before the third anomaly the test raises BIN_SUSPECT at the first, and does nothing else. -/
theorem anomalyTest_few {b : BinNo} {s : State} (few : (s.bin b).suspicion < 3) (what : Anomaly) :
    let t := anomalyTest b what s
    t.tracker = s.tracker ∧ (∀ c, t.bin c = s.bin c) ∧ t.mode = s.mode ∧ t.store = s.store ∧ t.tallies = s.tallies
    ∧ t.events = if (s.bin b).suspicion = 1 then s.events.append (.binSuspect b what) else s.events := by
  rcases anomalyTest_cases b what s with ⟨one, e⟩ | ⟨three, -⟩ | ⟨other, -, e⟩
  · rw [e, if_pos one]
    exact ⟨rfl, fun _ => rfl, rfl, rfl, rfl, rfl⟩
  · omega
  · rw [e, if_neg other]
    exact ⟨rfl, fun _ => rfl, rfl, rfl, rfl, rfl⟩

theorem anomalyTest_third {b : BinNo} {s : State} (third : (s.bin b).suspicion = 3) (what : Anomaly) :
    anomalyTest b what s = faultBin b .landing s := by
  rw [anomalyTest, third]
  rfl

/-! ### The landing window end (R101) -/

section
variable {n : EntryId} {e : Entry} {b : BinNo} {p q : Travel} {closed : Bool} {x : Nat} {s : State}
  (found : findEntry n s = some e) (lands : e.state = .landing b p q closed)
  (position : s.geometry.binPosition[b] = some x)
include found lands position

theorem windowEndDue_eq :
    windowEndDue s n = if x + s.geometry.landingAllowance ≤ travelOf e s then some b else none := by
  simp only [windowEndDue, found, lands, position]

theorem windowEnd_of_due (past : x + s.geometry.landingAllowance ≤ travelOf e s) :
    exec (.landingWindowEnd n) s = .next (finish (missEntry b n s)) := by
  have due : windowEndDue s n = some b := (windowEndDue_eq found lands position).trans (if_pos past)
  have is : exec (.landingWindowEnd n) s = .next (passWindowEnd s n) := rfl
  rw [is]
  simp only [passWindowEnd, expireWindow, due, Option.isSome_some, ↓reduceIte]

theorem windowEnd_early (early : travelOf e s < x + s.geometry.landingAllowance) :
    exec (.landingWindowEnd n) s = .next s := by
  have idle : windowEndDue s n = none := (windowEndDue_eq found lands position).trans (if_neg (Nat.not_le.mpr early))
  have is : exec (.landingWindowEnd n) s = .next (passWindowEnd s n) := rfl
  rw [is]
  simp only [passWindowEnd, idle, Option.isSome_none, Bool.false_eq_true, ↓reduceIte]

end

/-! ### A missed landing (R101, R103) -/

section
variable (b : BinNo) (n : EntryId) (s : State)

theorem missCounted_bin (c : BinNo) :
    (missCounted b n s).bin c
      = if c = b then
          { s.bin b with
            state := (s.bin b).state.mapLift Lift.miss, suspicion := min 3 ((s.bin b).suspicion + 1) }
        else s.bin c := by
  have same : (missCounted b n s).bin c = (bumpSuspicion b (mapBinLift b Lift.miss s)).bin c := rfl
  rw [same, bumpSuspicion, setBin_bin, mapBinLift, setBin_bin_self, setBin_bin]
  split <;> rfl

theorem missed_ends_frame :
    let t := finish (missEntry b n s)
    BeltFrame s t ∧ (EntriesDistinct s → EyeFollows s t) ∧ GatesUpToDate t :=
  ⟨(missEntry_beltFrame b n s).trans (finish_beltFrame _), ((missEntry_bounded b n s).leave.trans (.finish _)).eye,
    finish_gates _⟩

/-- The state of a missed landing before the test of the suspicion count, with the gates brought up to date. -/
def missSynced : State := syncGates (missCounted b n s)

theorem missEntry_eq_synced : missEntry b n s = completeDrain b (anomalyTest b .missed (missSynced b n s)) := rfl

theorem missSynced_queue : (missSynced b n s).tracker.queue = s.tracker.queue.eraseP (fun e => e.id == n) := rfl

theorem missSynced_tallies :
    (missSynced b n s).tallies = { s.tallies with missed := tallyAdd 1 s.tallies.missed } := rfl

theorem missSynced_events : (missSynced b n s).events = s.events := rfl

theorem missSynced_mode : (missSynced b n s).mode = s.mode := rfl

theorem missSynced_store : (missSynced b n s).store = s.store := rfl

theorem missSynced_own :
    ((missSynced b n s).bin b).state = (s.bin b).state.mapLift Lift.miss
    ∧ ((missSynced b n s).bin b).suspicion = min 3 ((s.bin b).suspicion + 1) := by
  rw [missSynced, syncGates_bin, missCounted_bin, if_pos rfl]
  exact ⟨rfl, rfl⟩

theorem missSynced_other {c : BinNo} (apart : c ≠ b) :
    ((missSynced b n s).bin c).state = (s.bin c).state
    ∧ ((missSynced b n s).bin c).suspicion = (s.bin c).suspicion := by
  rw [missSynced, syncGates_bin, missCounted_bin, if_neg apart]
  exact ⟨rfl, rfl⟩

/-- A missed landing before the third anomaly counts, and the first raises BIN_SUSPECT (R101, R103). -/
theorem missed_few (few : (s.bin b).suspicion < 2) :
    let w := anomalyTest b .missed (missSynced b n s)
    SheetGone b n ((s.bin b).state.mapLift Lift.miss) s w
    ∧ (w.bin b).suspicion = (s.bin b).suspicion + 1
    ∧ w.tallies = { s.tallies with missed := tallyAdd 1 s.tallies.missed }
    ∧ w.events = if (s.bin b).suspicion = 0 then s.events.append (.binSuspect b .missed) else s.events := by
  obtain ⟨state, suspicion⟩ := missSynced_own b n s
  rw [Nat.min_eq_right (by omega)] at suspicion
  have few' : ((missSynced b n s).bin b).suspicion < 3 := by omega
  obtain ⟨tracker, bins, mode, store, tallies, events⟩ := anomalyTest_few few' .missed
  intro w
  refine ⟨⟨?_, ?_, fun c apart => ?_, mode.trans (missSynced_mode b n s), store.trans (missSynced_store b n s)⟩, ?_,
    tallies.trans (missSynced_tallies b n s), events.trans ?_⟩
  · rw [tracker, missSynced_queue]
  · rw [bins, state]
  · rw [bins, (missSynced_other b n s apart).1]
  · rw [bins, suspicion]
  · simp only [missSynced_events, suspicion, Nat.add_eq_right]

variable {b n s}

/-- The third anomaly faults the bin, which leaves no drain to complete (R103, R121). -/
theorem missed_third (third : (s.bin b).suspicion = 2) (takes : (s.bin b).state.takesSheets = true) :
    ((missSynced b n s).bin b).state ≠ .offline ∧ (∀ why l, ((missSynced b n s).bin b).state ≠ .faulted why l)
    ∧ missEntry b n s = faultBin b .landing (missSynced b n s) := by
  obtain ⟨state, suspicion⟩ := missSynced_own b n s
  have takes' : ((missSynced b n s).bin b).state.takesSheets = true := by
    rw [state, BinState.mapLift_takesSheets, takes]
  have on : ((missSynced b n s).bin b).state ≠ .offline := fun is => by rw [is] at takes'; cases takes'
  have live (why : BinFault) (l : Option Lift) : ((missSynced b n s).bin b).state ≠ .faulted why l := fun is => by
    rw [is] at takes'; cases takes'
  obtain ⟨l, faulted⟩ := faultBin_faulted on live .landing
  refine ⟨on, live, ?_⟩
  rw [missEntry_eq_synced, anomalyTest_third (by rw [suspicion, third]; rfl)]
  exact completeDrain_idle (by simp [faulted])

end

/-! ### The stuck eye (R104) -/

section
variable {b : BinNo} {m : Travel} {s : State} (blocked : (s.bin b).eyeMark = some m)
include blocked

theorem eyeStuck_of_due (on : (s.bin b).state ≠ .offline) (live : ∀ why l, (s.bin b).state ≠ .faulted why l)
    (past : s.geometry.eyeStuck ≤ travelled s.tracker.travel m) :
    exec (.eyeStuckPassage b) s = .next (finish (faultBin b .eyeStuck s)) := by
  have due : eyeStuckDue s b = true := by
    unfold eyeStuckDue
    rw [blocked]
    cases is : (s.bin b).state with
    | offline => exact absurd is on
    | faulted why l => exact absurd is (live why l)
    | _ => simpa using past
  have is : exec (.eyeStuckPassage b) s = .next (passEyeStuck s b) := rfl
  rw [is]
  simp only [passEyeStuck, expireEye, due, ↓reduceIte]

theorem eyeStuck_idle
    (early : ((s.bin b).state = .offline ∨ ∃ why l, (s.bin b).state = .faulted why l)
      ∨ travelled s.tracker.travel m < s.geometry.eyeStuck) :
    exec (.eyeStuckPassage b) s = .next s := by
  have idle : eyeStuckDue s b = false := by
    unfold eyeStuckDue
    rw [blocked]
    rcases early with (off | ⟨why, l, faulted⟩) | short
    · rw [off]; rfl
    · rw [faulted]; rfl
    · simp [short]
  have is : exec (.eyeStuckPassage b) s = .next (passEyeStuck s b) := rfl
  rw [is]
  simp only [passEyeStuck, idle, Bool.false_eq_true, ↓reduceIte]

end

/-- What the stuck eye's fault leaves (R104). -/
theorem eyeStuck_effect {b : BinNo} {s : State} (on : (s.bin b).state ≠ .offline)
    (live : ∀ why l, (s.bin b).state ≠ .faulted why l) :
    let t := finish (faultBin b .eyeStuck s)
    BeltFrame s t
    ∧ (t.bin b).state.tag = .faulted .eyeStuck ∧ (t.bin b).suspicion = (s.bin b).suspicion
    ∧ (t.bin b).gate = false ∧ (t.bin b).eject = false ∧ b ∉ t.outfeed.queue
    ∧ (EntriesDistinct s → BinLost b s t ∧ EyeFollows s t)
    ∧ (s.mode ≠ .drain ∨ t.tracker.queue ≠ [] → t.events = s.events.append (.binFaulted b .eyeStuck))
    ∧ (s.mode = .drain → t.tracker.queue = [] → t.mode = .idle) := by
  intro t
  have frame : BeltFrame s (faultBin b .eyeStuck s) := faultBin_beltFrame b .eyeStuck s
  obtain ⟨tag, suspicion, gate, eject, queue, events, -⟩ := faultBin_effect on live .eyeStuck
  exact ⟨frame.trans (finish_beltFrame _), tag, suspicion, gate, eject, queue,
    fun distinct => ⟨faultBin_binLost on live .eyeStuck distinct (.refl b s) rfl rfl,
      ((faultBin_bounded b .eyeStuck s).leave.trans (.finish _)).eye distinct⟩, events, finish_idle frame⟩

/-! ### The missed landing, case by case (R101, R103, R105) -/

/-- The state that a fault by a missed landing finds: the entry has left and the lift counts the miss (R101, R103). -/
def missFound (b : BinNo) (n : EntryId) (s : State) : State :=
  { s with
    tracker := { s.tracker with queue := s.tracker.queue.eraseP (fun e => e.id == n) }
    bins := vset s.bins b { s.bin b with state := (s.bin b).state.mapLift Lift.miss } }

theorem missFound_bin (b c : BinNo) (n : EntryId) (s : State) :
    (missFound b n s).bin c
      = if c = b then { s.bin b with state := (s.bin b).state.mapLift Lift.miss } else s.bin c :=
  vset_get s.bins b c _

theorem missFound_alike (b : BinNo) (n : EntryId) (s : State) :
    AlikeBut b (missFound b n s) (missSynced b n s) where
  queue := missSynced_queue b n s
  travel := rfl
  geometry := rfl
  banks := rfl
  store := missSynced_store b n s
  slots _ := rfl
  state c apart := by rw [(missSynced_other b n s apart).1, missFound_bin, if_neg apart]
  suspicion c apart := by rw [(missSynced_other b n s apart).2, missFound_bin, if_neg apart]
  lift := by rw [binLiftId, (missSynced_own b n s).1, binLiftId, missFound_bin, if_pos rfl]

theorem missed_third_effect {b : BinNo} {n : EntryId} {s : State} (third : (s.bin b).suspicion = 2)
    (takes : (s.bin b).state.takesSheets = true) :
    let t := finish (missEntry b n s)
    (t.bin b).state.tag = .faulted .landing ∧ (t.bin b).suspicion = 3 ∧ (t.bin b).gate = false
    ∧ t.tallies.missed = min 4294967295 (s.tallies.missed + 1)
    ∧ (EntriesDistinct s → BinLost b (missFound b n s) t)
    ∧ (s.mode ≠ .drain ∨ t.tracker.queue ≠ [] → t.events = s.events.append (.binFaulted b .landing)) := by
  obtain ⟨on, live, is⟩ := missed_third (n := n) third takes
  obtain ⟨tag, suspicion, gate, -, -, events, tallies⟩ := faultBin_effect on live .landing
  rw [is]
  refine ⟨tag, ?_, gate, tallies Tallies.missed (fun _ _ _ => rfl) fun _ _ => rfl, fun distinct => ?_, events⟩
  · rw [suspicion, (missSynced_own b n s).2, third]
    rfl
  · have left : EntriesDistinct (missFound b n s) := (List.eraseP_sublist.map Entry.id).nodup distinct
    refine faultBin_binLost on live .landing left (missFound_alike b n s) ?_ rfl
    rw [(missSynced_own b n s).1, missFound_bin, if_pos rfl]

/-- Settles O35: a missed landing before the third anomaly and at it, and the stuck eye. -/
theorem windowEndAndEyeStuck : Obligations.WindowEndAndEyeStuck := by
  refine ⟨fun n e b p q closed x l s found lands position => ?_, fun b m s blocked => ⟨fun on live past =>
    ⟨_, eyeStuck_of_due blocked on live past, eyeStuck_effect on live⟩, eyeStuck_idle blocked⟩⟩
  obtain ⟨belt, eye, gates⟩ := missed_ends_frame b n s
  intro left miss suspected more
  refine ⟨fun past fills few => ⟨_, windowEnd_of_due found lands position past, belt, ?_⟩,
    fun why past drains few => ⟨_, windowEnd_of_due found lands position past, belt, ?_⟩,
    fun past holds third => ⟨_, windowEnd_of_due found lands position past, belt, ?_⟩,
    windowEnd_early found lands position⟩
  · rw [missEntry_eq_synced] at eye gates ⊢
    obtain ⟨gone, suspicion, tallies, events⟩ := missed_few b n s few
    obtain ⟨queue, same, -, counts⟩ := gone.ends
    obtain ⟨goes, ends⟩ := gone.filling (l := miss l) (by rw [fills]; rfl)
    refine ⟨queue, same.trans suspicion, (counts Tallies.missed fun _ _ => rfl).trans (by rw [tallies]; rfl),
      fun m => ?_, ends, eye, gates⟩
    obtain ⟨state, tallied, raised⟩ := goes m
    exact ⟨state, tallied.trans tallies, raised.trans events⟩
  · rw [missEntry_eq_synced] at eye gates ⊢
    obtain ⟨gone, suspicion, tallies, events⟩ := missed_few b n s few
    obtain ⟨queue, same, idle, counts⟩ := gone.ends
    have state : (s.bin b).state.mapLift Lift.miss = .drainClose why (miss l) := by rw [drains]; rfl
    refine ⟨queue, same.trans suspicion, (counts Tallies.missed fun _ _ => rfl).trans (by rw [tallies]; rfl),
      fun flies => ?_, fun last empty => ?_, fun last landed => ?_, idle, eye, gates⟩
    · obtain ⟨drains', raised⟩ := gone.draining state (show l.inFlight - 1 ≠ 0 by omega)
      exact ⟨drains', fun m => (raised m).trans events⟩
    · obtain ⟨ready, raised⟩ := gone.discarded state (show l.inFlight - 1 = 0 by omega) empty
      exact ⟨ready, fun m => (raised m).trans (by rw [events])⟩
    · obtain ⟨⟨m, delivers, y, slot, rfl⟩, raised⟩ := gone.closed state (show l.inFlight - 1 = 0 by omega) landed
      exact ⟨_, delivers, rfl, rfl, rfl, rfl, fun m => (raised m).2.2.trans (by rw [events]; rfl)⟩
  · have takes : (s.bin b).state.takesSheets = true := by
      rcases holds with fills | ⟨why, drains⟩
      · rw [fills]; rfl
      · rw [drains]; rfl
    obtain ⟨tag, suspicion, gate, missed, lost, events⟩ := missed_third_effect (n := n) third takes
    exact ⟨tag, suspicion, gate, missed, fun distinct => ⟨lost distinct, eye distinct⟩, events,
      finish_idle (missEntry_beltFrame b n s)⟩

end Sys2Proof.Machine
end

section
/-! SUPPORT. The edges of a landed eye (R96 to R103): which act each brings, a landing, a stray landing before and at
the third anomaly, and the edges that move the eye fields alone; then the statement about them. -/

namespace Sys2Proof.Machine

/-! ### An event that changes nothing more -/

theorem syncGates_of_upToDate {s : State} (h : GatesUpToDate s) : syncGates s = s := by
  obtain ⟨gates, redry⟩ := h
  have bins : vmap (fun b x => { x with gate := gateDue s b }) s.bins = s.bins := by
    refine Vector.ext fun i hi => ?_
    have gate : s.bins[i].gate = gateDue s ⟨i, hi⟩ := gates ⟨i, hi⟩
    refine (vmap_get _ _ ⟨i, hi⟩).trans ?_
    rw [← gate]
    rfl
  unfold syncGates
  rw [bins, ← redry]

/-- No ejection that could start is left unstarted (R135). -/
theorem ejectionTest_of_started {s : State}
    (started : ¬(s.outfeed.state = .free ∧ s.outfeed.queue ≠ [] ∧ ∃ n : SlotNo, s.slots[n].state = .empty)) :
    ejectionTest s = s := by
  refine ejectionTest_idle s ?_
  by_contra starts
  push Not at starts
  exact started starts

/-! ### The leading edge (R97) -/

/-- The state in which a leading edge takes effect: the landed eye is BLOCKED and marked (R96). -/
def eyeSeen (b : BinNo) (s : State) : State := setBin b (fun x => { x with eyeMark := some s.tracker.travel }) s

section
variable {b : BinNo} {s : State}

theorem eyeSeen_bin (b c : BinNo) (s : State) :
    (eyeSeen b s).bin c = if c = b then { s.bin b with eyeMark := some s.tracker.travel } else s.bin c :=
  setBin_bin _ _ _ _

theorem eyeSeen_bin_state (b c : BinNo) (s : State) : ((eyeSeen b s).bin c).state = (s.bin c).state := by
  rw [eyeSeen_bin]
  split
  · next same => rw [same]
  · rfl

theorem eyeSeen_suspicion (b : BinNo) (s : State) : ((eyeSeen b s).bin b).suspicion = (s.bin b).suspicion := by
  rw [eyeSeen_bin, if_pos rfl]

theorem eyeSeen_mode (b : BinNo) (s : State) : (eyeSeen b s).mode = s.mode := rfl

theorem landedEye_again (blocked : (s.bin b).eyeMark ≠ none) : exec (.landedEyeBlocked b) s = .next s := by
  have is : exec (.landedEyeBlocked b) s = execLandedEyeBlocked b s := rfl
  rw [is, execLandedEyeBlocked, if_pos (Option.isSome_iff_ne_none.mpr blocked)]

theorem landedEye_blocks (clear : (s.bin b).eyeMark = none) :
    exec (.landedEyeBlocked b) s = .next (finish (landedEdge b (eyeSeen b s))) := by
  have is : exec (.landedEyeBlocked b) s = execLandedEyeBlocked b s := rfl
  rw [is, execLandedEyeBlocked, if_neg (by simp [clear])]
  rfl

theorem landedEdge_idle
    (idle : s.mode = .idle ∨ (s.bin b).state = .offline ∨ ∃ why l, (s.bin b).state = .faulted why l) :
    landedEdge b s = s := by
  unfold landedEdge
  rcases idle with mode | off | ⟨why, l, faulted⟩
  · rw [if_pos mode]
  · rw [off, ite_self]
  · rw [faulted, ite_self]

/-- A bin on which a leading edge is a stray landing (Table of R97; R100). -/
def Strays (b : BinNo) (s : State) : Prop :=
  (s.bin b).state = .ready ∨ (∃ l, (s.bin b).state = .fullWait l) ∨ (∃ l, (s.bin b).state = .ejecting l)
    ∨ (s.bin b).state.takesSheets = true ∧ oldestLanding b s = none

theorem Strays.awake (h : Strays b s) :
    (s.bin b).state ≠ .offline ∧ ∀ why l, (s.bin b).state ≠ .faulted why l := by
  rcases h with is | ⟨l, is⟩ | ⟨l, is⟩ | ⟨takes, -⟩
  · simp [is]
  · simp [is]
  · simp [is]
  · exact ⟨fun is => by simp [is, BinState.takesSheets] at takes,
      fun why l is => by simp [is, BinState.takesSheets] at takes⟩

theorem Strays.eyeSeen (h : Strays b s) : Strays b (eyeSeen b s) := by
  have queue : oldestLanding b (Machine.eyeSeen b s) = oldestLanding b s := rfl
  unfold Strays at *
  rwa [eyeSeen_bin_state, queue]

section
variable (on : s.mode ≠ .idle)
include on

theorem landedEdge_lands {e : Entry} (takes : (s.bin b).state.takesSheets = true)
    (oldest : oldestLanding b s = some e) : landedEdge b s = landEntry b e s := by
  rw [landedEdge, if_neg on, oldest]
  cases is : (s.bin b).state with
  | filling l => rfl
  | drainClose why l => rfl
  | _ => rw [is] at takes; cases takes

theorem landedEdge_strays (strays : Strays b s) : landedEdge b s = strayLanding b s := by
  rw [landedEdge, if_neg on]
  rcases strays with ready | ⟨l, waits⟩ | ⟨l, ejects⟩ | ⟨takes, no_landing⟩
  · rw [ready]
  · rw [waits]
  · rw [ejects]
  · cases is : (s.bin b).state with
    | filling l => simp only [no_landing]
    | drainClose why l => simp only [no_landing]
    | offline =>
      rw [is] at takes
      cases takes
    | faulted why l =>
      rw [is] at takes
      cases takes
    | _ => rfl

end

theorem landedEdge_ends_frame (b : BinNo) (s : State) :
    let t := finish (landedEdge b (eyeSeen b s))
    BeltFrame (eyeSeen b s) t ∧ (EntriesDistinct s → EyeFollows s t) ∧ GatesUpToDate t := by
  have leave : EntriesLeave s (landedEdge b (eyeSeen b s)) :=
    (EntriesLeave.of_tracker (s := s) (t := eyeSeen b s) rfl).trans (landedEdge_bounded b (eyeSeen b s)).leave
  exact ⟨(landedEdge_beltFrame b _).trans (finish_beltFrame _), (leave.trans (.finish _)).eye, finish_gates _⟩

/-- In IDLE, and on a bin OFFLINE or FAULTED, the edge moves the eye fields alone (R97). -/
theorem landedEye_marks (clear : (s.bin b).eyeMark = none) (up : GatesUpToDate s) (outfeed : OutfeedConsistent s)
    (idle : s.mode = .idle ∨ (s.mode = .run ∨ s.mode = .drain ∧ s.tracker.queue ≠ [])
      ∧ ((s.bin b).state = .offline ∨ ∃ why l, (s.bin b).state = .faulted why l)) :
    exec (.landedEyeBlocked b) s = .next (eyeSeen b s) := by
  have state (c : BinNo) := eyeSeen_bin_state b c s
  have still : landedEdge b (eyeSeen b s) = eyeSeen b s := by
    refine landedEdge_idle ?_
    rw [state]
    exact idle.imp id And.right
  have going : (eyeSeen b s).mode ≠ .drain ∨ (eyeSeen b s).tracker.queue ≠ [] := by
    rcases idle with mode | ⟨mode | ⟨-, queue⟩, -⟩
    · exact .inl (by rw [eyeSeen_mode, mode]; decide)
    · exact .inl (by rw [eyeSeen_mode, mode]; decide)
    · exact .inr queue
  have up' : GatesUpToDate (eyeSeen b s) := by
    refine up.of_same (fun c => ?_) (fun c => by rw [state]) rfl rfl
    rw [eyeSeen_bin]
    split
    · next same => rw [same]
    · rfl
  rw [landedEye_blocks clear, still, finish_eq_closeEvent _ going, closeEvent, syncGates_of_upToDate up',
    ejectionTest_of_started (s := eyeSeen b s) outfeed.started]

end

/-! ### A landing (R98, R99, R119, R120) -/

/-- A bin's record after the landing of a sheet of a mean moisture (R98, R119). -/
def Bin.land (mean : Option Nat) (x : Bin) : Bin := { x with state := x.state.mapLift (Lift.land mean), suspicion := 0 }

/-- The state of a landing on lift `l`, before the bin's drain is completed. -/
def landSynced (b : BinNo) (e : Entry) (l : Lift) (s : State) : State :=
  syncGates (tally (fun t => t.countLanding l.key.code)
    (removeEntry e.id (setBin b (Bin.land ((e.verdict.bind Verdict.values).map fun v => v.meanM)) s)))

theorem landEntry_eq_synced {b : BinNo} {e : Entry} {l : Lift} {s : State}
    (holds : (s.bin b).state.lift? = some l) : landEntry b e s = completeDrain b (landSynced b e l s) := by
  simp only [landEntry, holds]
  rfl

theorem landSynced_bin (b c : BinNo) (e : Entry) (l : Lift) (s : State) :
    ((landSynced b e l s).bin c).state
        = (if c = b then (s.bin b).land ((e.verdict.bind Verdict.values).map fun v => v.meanM) else s.bin c).state
    ∧ ((landSynced b e l s).bin c).suspicion
        = (if c = b then (s.bin b).land ((e.verdict.bind Verdict.values).map fun v => v.meanM)
          else s.bin c).suspicion := by
  rw [← setBin_bin, landSynced, syncGates_bin]
  exact ⟨rfl, rfl⟩

theorem Lift.land_some (m : Nat) (l : Lift) :
    Lift.land (some m) l
      = { l with
          landed := l.landed + 1, inFlight := l.inFlight - 1
          moistureSum := l.moistureSum + m
          moistureMax := some (max m (l.moistureMax.getD 0)) } := by
  cases top : l.moistureMax <;> simp [Lift.land, top]

/-- A landing takes its entry off the belt, clears the suspicion and counts on the lift and in the tallies. -/
theorem landed_gone (b : BinNo) (e : Entry) (l : Lift) (s : State) {v : Computed}
    (values : e.verdict.bind Verdict.values = some v) :
    let w := landSynced b e l (eyeSeen b s)
    SheetGone b e.id ((s.bin b).state.mapLift (Lift.land (some v.meanM))) s w
    ∧ (w.bin b).suspicion = 0 ∧ w.tallies = s.tallies.countLanding l.key.code ∧ w.events = s.events := by
  obtain ⟨state, suspicion⟩ := landSynced_bin b b e l (eyeSeen b s)
  rw [if_pos rfl, values] at state suspicion
  refine ⟨⟨rfl, ?_, fun c apart => ?_, rfl, rfl⟩, suspicion, rfl, rfl⟩
  · rw [state]
    exact congrArg (BinState.mapLift (Lift.land (some v.meanM))) (eyeSeen_bin_state b b s)
  · rw [(landSynced_bin b c e l (eyeSeen b s)).1, if_neg apart, eyeSeen_bin_state]

theorem countLanding_landed (t : Tallies) (code : Nat) (i : Fin 250) :
    (t.countLanding code).landed[i]
      = if i.val + 1 = code then min 4294967295 (t.landed[i] + 1) else t.landed[i] :=
  vmap_get _ _ i

theorem countLanding_closed (t : Tallies) (code : Nat) : (t.countLanding code).closed = t.closed := by
  simp only [Tallies.countLanding]

theorem countClosed_closed (t : Tallies) (why : CloseReason) :
    (t.countClosed why).closed[why.idx] = min 4294967295 (t.closed[why.idx] + 1) :=
  vset_get_self _ _ _

/-! ### A stray landing (R100, R103) -/

/-- The state of a stray landing before the test of the suspicion count. -/
def strayCounted (b : BinNo) (s : State) : State :=
  tally (fun t => { t with stray := tallyAdd 1 t.stray }) (bumpSuspicion b s)

theorem strayLanding_eq (b : BinNo) (s : State) : strayLanding b s = anomalyTest b .stray (strayCounted b s) := rfl

theorem strayCounted_bin (b c : BinNo) (s : State) :
    (strayCounted b s).bin c
      = if c = b then { s.bin b with suspicion := min 3 ((s.bin b).suspicion + 1) } else s.bin c :=
  setBin_bin b c (fun x => { x with suspicion := min 3 (x.suspicion + 1) }) s

theorem strayCounted_alike (b : BinNo) (s : State) : AlikeBut b s (strayCounted b s) where
  queue := rfl
  travel := rfl
  geometry := rfl
  banks := rfl
  store := rfl
  slots _ := rfl
  state c apart := by rw [strayCounted_bin, if_neg apart]
  suspicion c apart := by rw [strayCounted_bin, if_neg apart]
  lift := by rw [binLiftId, binLiftId, strayCounted_bin, if_pos rfl]

section
variable {b : BinNo} {s : State}

/-- A stray landing before the third anomaly counts, and the first raises BIN_SUSPECT (R100, R103). -/
theorem stray_few_effect (few : (s.bin b).suspicion < 2) (going : s.mode ≠ .drain ∨ s.tracker.queue ≠ []) :
    let t := finish (strayLanding b s)
    t.tracker = s.tracker ∧ (t.bin b).suspicion = (s.bin b).suspicion + 1
    ∧ t.tallies = { s.tallies with stray := min 4294967295 (s.tallies.stray + 1) }
    ∧ t.events = if (s.bin b).suspicion = 0 then s.events.append (.binSuspect b .stray) else s.events := by
  have suspicion : ((strayCounted b s).bin b).suspicion = (s.bin b).suspicion + 1 := by
    rw [strayCounted_bin, if_pos rfl]
    exact Nat.min_eq_right (by omega)
  have few' : ((strayCounted b s).bin b).suspicion < 3 := by omega
  obtain ⟨tracker, bins, mode, -, tallies, events⟩ := anomalyTest_few few' .stray
  rw [← strayLanding_eq] at tracker bins mode tallies events
  have going' : (strayLanding b s).mode ≠ .drain ∨ (strayLanding b s).tracker.queue ≠ [] := by
    rw [mode, tracker]
    exact going
  refine ⟨(finish_tracker _).trans tracker, ?_, (finish_tallies going').trans tallies,
    (finish_events going').trans (events.trans ?_)⟩
  · rw [finish_bin_suspicion, bins, suspicion]
  · simp only [suspicion, Nat.add_eq_right]
    rfl

/-- The third anomaly faults the bin (R100, R103, R105). -/
theorem stray_third_effect (third : (s.bin b).suspicion = 2) (on : (s.bin b).state ≠ .offline)
    (live : ∀ why l, (s.bin b).state ≠ .faulted why l) :
    let t := finish (strayLanding b s)
    (t.bin b).state.tag = .faulted .landing ∧ (t.bin b).suspicion = 3
    ∧ t.tallies.stray = min 4294967295 (s.tallies.stray + 1) ∧ (EntriesDistinct s → BinLost b s t)
    ∧ (s.mode ≠ .drain ∨ t.tracker.queue ≠ [] → t.events = s.events.append (.binFaulted b .landing)) := by
  have bin := strayCounted_bin b b s
  rw [if_pos rfl, third] at bin
  have state : ((strayCounted b s).bin b).state = (s.bin b).state := by rw [bin]
  have on' : ((strayCounted b s).bin b).state ≠ .offline := by rwa [state]
  have live' (why : BinFault) (l : Option Lift) : ((strayCounted b s).bin b).state ≠ .faulted why l := by
    rw [state]
    exact live why l
  obtain ⟨tag, suspicion, -, -, -, events, tallies⟩ := faultBin_effect on' live' .landing
  rw [strayLanding_eq, anomalyTest_third (by rw [bin]; rfl)]
  refine ⟨tag, by rw [suspicion, bin]; rfl, tallies Tallies.stray (fun _ _ _ => rfl) fun _ _ => rfl,
    fun distinct => faultBin_binLost on' live' .landing distinct (strayCounted_alike b s) (by rw [state]) rfl, events⟩

end

/-- A leading edge on a bin that takes sheets, with a LANDING entry for it, is that entry's landing (R97). -/
theorem landedEdge_eq_synced {b : BinNo} {s : State} (on : s.mode ≠ .idle) {e : Entry} {l : Lift}
    (oldest : oldestLanding b s = some e) (takes : (s.bin b).state.takesSheets = true)
    (holds : (s.bin b).state.lift? = some l) :
    landedEdge b (eyeSeen b s) = completeDrain b (landSynced b e l (eyeSeen b s)) := by
  have state := eyeSeen_bin_state b b s
  rw [← state] at takes holds
  rw [landedEdge_lands (s := eyeSeen b s) on takes oldest, landEntry_eq_synced holds]

/-- Settles O37: an edge as the act that it brings, and what that act and the end of its event leave. -/
theorem landedEyeEdges : Obligations.LandedEyeEdges := by
  intro b s seen
  obtain ⟨belt, eye, gates⟩ := landedEdge_ends_frame b s
  have clears : exec (.landedEyeClears b) s
      = .next { s with bins := vset s.bins b { s.bin b with eyeMark := none } } := rfl
  refine ⟨clears, landedEye_again, landedEye_marks, fun l e v clear on oldest values => ?_, fun clear mode strays => ?_⟩
  · intro left more after
    obtain ⟨gone, unsuspect, tallies, events⟩ := landed_gone b e l s values
    obtain ⟨queue, suspicion, idle, counts⟩ := gone.ends
    have lands := landedEdge_eq_synced (l := l) on oldest
    rw [landedEye_blocks clear]
    have total := (counts Tallies.landedTotal fun _ _ => rfl).trans (congrArg Tallies.landedTotal tallies)
    have landed := (counts Tallies.landed fun _ _ => rfl).trans (congrArg Tallies.landed tallies)
    refine ⟨fun fills => ?_, fun why drains flies => ?_, fun why drains last => ?_⟩
    · rw [lands (by rw [fills]; rfl) (by rw [fills]; rfl)] at belt eye gates ⊢
      obtain ⟨goes, ends⟩ := gone.filling (l := after) (by rw [fills, BinState.mapLift, Lift.land_some])
      refine ⟨_, rfl, belt, queue, suspicion.trans unsuspect, total, fun i => ?_, fun m => ?_, ends, eye, gates⟩
      · rw [landed, countLanding_landed]
      · obtain ⟨state, -, raised⟩ := goes m
        exact ⟨state, raised.trans events⟩
    · rw [lands (by rw [drains]; rfl) (by rw [drains]; rfl)] at belt eye gates ⊢
      obtain ⟨state, raised⟩ := gone.draining (l := after) (why := why)
        (by rw [drains, BinState.mapLift, Lift.land_some]) (show l.inFlight - 1 ≠ 0 by omega)
      exact ⟨_, rfl, belt, queue, state, suspicion.trans unsuspect, total, fun m => (raised m).trans events, idle, eye,
        gates⟩
    · rw [lands (by rw [drains]; rfl) (by rw [drains]; rfl)] at belt eye gates ⊢
      obtain ⟨⟨m, delivers, y, slot, rfl⟩, raised⟩ := gone.closed (l := after) (why := why)
        (by rw [drains, BinState.mapLift, Lift.land_some]) (show l.inFlight - 1 = 0 by omega)
        (Nat.succ_ne_zero l.landed)
      refine ⟨_, _, rfl, belt, queue, delivers, rfl, rfl, rfl, rfl, rfl, rfl, rfl, suspicion.trans unsuspect, total,
        fun more => ?_, idle, eye, gates⟩
      obtain ⟨order, tallied, raised⟩ := raised more
      refine ⟨order, ?_, raised.trans (by rw [events]; rfl)⟩
      rw [tallied, countClosed_closed, tallies, countLanding_closed]
  · have strays := Strays.eyeSeen strays
    have suspicion := eyeSeen_suspicion b s
    have run_ne (run : s.mode = .run) : (eyeSeen b s).mode ≠ .drain := by rw [eyeSeen_mode, run]; decide
    have on : (eyeSeen b s).mode ≠ .idle := by
      rcases mode with is | ⟨is, -⟩ <;> rw [eyeSeen_mode, is] <;> decide
    rw [landedEye_blocks clear, landedEdge_strays on strays]
    rw [landedEdge_strays on strays] at belt eye
    refine ⟨fun few => ⟨_, rfl, belt, ?_⟩, fun third => ⟨_, rfl, belt, ?_⟩⟩
    · rw [← suspicion] at few ⊢
      exact stray_few_effect few (mode.imp run_ne And.right)
    · rw [← suspicion] at third
      obtain ⟨tag, suspect, tallies, lost, events⟩ := stray_third_effect third strays.awake.1 strays.awake.2
      exact ⟨tag, suspect, tallies, fun distinct => ⟨lost distinct, eye distinct⟩,
        fun more => events (more.imp_left run_ne),
        finish_idle (s := eyeSeen b s) (strayLanding_beltFrame b _)⟩

end Sys2Proof.Machine
end

section
/-! SUPPORT. A relation between states that does not see the ports and the refusal record, over the taking of a request
and its reply (R177, R179, R183): it holds of the whole request when it holds of the request's work. -/

namespace Sys2Proof.Machine

/-- A reflexive and transitive relation between states that sees neither the ports nor the refusal record. -/
structure ReplyBlind (rel : State → State → Prop) : Prop where
  refl : ∀ s, rel s s
  trans : ∀ {s t u}, rel s t → rel t u → rel s u
  blind : ∀ s ports refusal, rel s { s with ports := ports, refusal := refusal }

theorem rel_ite {rel : State → State → Prop} {c : Prop} [Decidable c] {s t u : State} (yes : c → rel s t)
    (no : ¬c → rel s u) : rel s (if c then t else u) := by
  split
  · exact yes ‹_›
  · exact no ‹_›

namespace ReplyBlind

variable {rel : State → State → Prop} (h : ReplyBlind rel)
include h

theorem done {s t : State} (work : rel s t) (r : Req) (k : ReqKind) (x : Result) : rel s (done r k x t) :=
  h.trans work (h.blind _ _ _)

theorem refuse (r : Req) (k : ReqKind) (why : RefusalReason) (s : State) : rel s (refuse r k why s) := h.blind _ _ _

theorem refuseRecorded (r : Req) (k : ReqKind) (why : RefusalReason) (target : Option Target) (s : State) :
    rel s (refuseRecorded r k why target s) :=
  h.blind _ _ _

theorem freeBuffer (p : Port) (s : State) : rel s (freeBuffer p s) := h.blind _ _ _

section
variable {r : Req} {k : ReqKind} {c : Instr} {s : State} {f : State → State} (work : ∀ t, rel t (f t))
include work

theorem takeFrame {p : Port} {test : Frame → Bool} : rel s (takeFrame p test f s) := by
  rcases takeFrame_cases p test f s with ⟨-, is⟩ | ⟨-, is⟩ <;> rw [is]
  · exact h.trans (h.freeBuffer p s) (work _)
  · exact h.refl s

theorem take : rel s (take r k c f s) := h.takeFrame work

theorem serve {g : Option Target} : rel s (serve r k c g f s) :=
  h.take fun t =>
    rel_ite (fun _ => rel_ite (fun _ => work t) fun _ => h.refuse _ _ _ t) fun _ => h.refuseRecorded _ _ _ _ t

theorem serveWrite : rel s (serveWrite r k c f s) :=
  h.take fun t =>
    rel_ite (fun _ => rel_ite (fun _ => h.refuseRecorded _ _ _ _ t)
      fun _ => rel_ite (fun _ => work t) fun _ => h.refuse _ _ _ t) fun _ => h.refuseRecorded _ _ _ _ t

end

theorem serveQuery (r : Req) (c : Instr) (x : Subject) (first : Nat) (count : State → Nat) (data : State → QueryData)
    (s : State) : rel s (serveQuery r c x first count data s) :=
  h.take fun t =>
    rel_ite (fun _ => rel_ite (fun _ => h.done (h.refl t) _ _ _) fun _ => h.refuse _ _ _ t)
      fun _ => h.refuseRecorded _ _ _ _ t

end ReplyBlind

end Sys2Proof.Machine
end

section
/-! SUPPORT. The ids of the lift records in use (R116): the id that the next lift takes is none of them, and what each
operation on the entries, the bins, the outfeed and the slots makes of them. -/

namespace Sys2Proof.Machine

/-! ### The holders of lift records -/

/-- The id of the lift record that a bin or a slot holds. -/
def recordId (s : State) : BinNo ⊕ SlotNo → Option Nat
  | .inl b => binLiftId s b
  | .inr n => slotLiftId s n

theorem liftIdsDistinct_iff (s : State) :
    LiftIdsDistinct s ↔ ∀ x y i, recordId s x = some i → recordId s y = some i → x = y := by
  constructor
  · rintro ⟨bins, slots, apart⟩ (b | m) (c | n) i hx hy
    · exact congrArg _ (bins b c i hx hy)
    · exact absurd hy (apart b n i hx)
    · exact absurd hx (apart c m i hy)
    · exact congrArg _ (slots m n i hx hy)
  · intro h
    refine ⟨fun b c i hx hy => Sum.inl.inj (h (.inl b) (.inl c) i hx hy),
      fun m n i hx hy => Sum.inr.inj (h (.inr m) (.inr n) i hx hy), fun b n i hx hy => ?_⟩
    cases h (.inl b) (.inr n) i hx hy

theorem mem_liftIds {s : State} {x : BinNo ⊕ SlotNo} {i : Nat} (h : recordId s x = some i) : i ∈ liftIds s := by
  rw [liftIds_eq, List.mem_append, List.mem_filterMap, List.mem_filterMap]
  cases x with
  | inl b => exact .inl ⟨s.bins[b], Vector.mem_toList_iff.mpr (Vector.getElem_mem b.isLt), h⟩
  | inr n => exact .inr ⟨s.slots[n], Vector.mem_toList_iff.mpr (Vector.getElem_mem n.isLt), h⟩

/-! ### The next lift id (R116) -/

/-- The numbers that follow `n` in the sequence that goes from 65,535 back to 1. -/
theorem nextNumberAfter_iterate (n : Nat) {j : Nat} (short : j ≤ 65535) :
    nextNumberAfter^[j] n = if n + j ≤ 65535 ∨ j = 0 then n + j else n + j - max n 65535 := by
  induction j with
  | zero => simp
  | succ j ih =>
    rw [Function.iterate_succ_apply', ih (by omega), nextNumberAfter]
    simp only [Nat.succ_ne_zero, or_false]
    by_cases unwrapped : n + j ≤ 65535 ∨ j = 0
    · rw [if_pos unwrapped]
      split_ifs <;> omega
    · rw [if_neg unwrapped]
      split_ifs <;> omega

theorem nextNumberAfter_iterate_inj {n i j : Nat} (hi : i < 40) (hj : j < 40)
    (same : nextNumberAfter^[i] n = nextNumberAfter^[j] n) : i = j := by
  rw [nextNumberAfter_iterate n (by omega), nextNumberAfter_iterate n (by omega)] at same
  split_ifs at same <;> omega

/-- With a bin READY, fewer than 40 lift records are in use. -/
theorem liftIds_length {s : State} {b : BinNo} (ready : (s.bin b).state = .ready) : (liftIds s).length < 40 := by
  have bins : (s.bins.toList.filterMap (fun x => x.state.lift?.map Lift.id)).length < s.bins.toList.length := by
    refine List.length_filterMap_lt_length_iff_exists.mpr
      ⟨s.bins[b], Vector.mem_toList_iff.mpr (Vector.getElem_mem b.isLt), ?_⟩
    have ready' : s.bins[b].state = .ready := ready
    rw [ready']
    rfl
  have slots := List.length_filterMap_le (fun x : Slot => x.state.lift?.map Lift.id) s.slots.toList
  rw [Vector.length_toList] at bins slots
  rw [liftIds_eq, List.length_append]
  omega

/-- The next lift id is not in use: the 40 numbers that the search may pass over are distinct, and fewer than 40 are in
use (R116). -/
theorem freshLiftId_unused {s : State} {b : BinNo} (ready : (s.bin b).state = .ready) :
    freshLiftId s ∉ liftIds s := by
  obtain ⟨k, le, -, passed, free⟩ := firstFree_spec (liftIds s) 40 s.store.nextId
  refine free (lt_of_le_of_ne le fun all => ?_)
  subst all
  have nodup : ((List.range 40).map fun j => nextNumberAfter^[j] s.store.nextId).Nodup :=
    List.nodup_range.map_on fun i hi j hj => nextNumberAfter_iterate_inj (List.mem_range.mp hi) (List.mem_range.mp hj)
  have used : ((List.range 40).map fun j => nextNumberAfter^[j] s.store.nextId) ⊆ liftIds s := by
    intro i mem
    obtain ⟨j, hj, rfl⟩ := List.mem_map.mp mem
    exact passed j (List.mem_range.mp hj)
  have length := (nodup.subperm used).length_le
  rw [List.length_map, List.length_range] at length
  have := liftIds_length ready
  omega

/-! ### Acts that keep the ids distinct -/

/-- The act keeps it that no two lift records in use carry the same id. -/
structure IdsKept (s t : State) : Prop where
  distinct : LiftIdsDistinct s → LiftIdsDistinct t

/-- The record `y` in place of `x`: freed, or of the same id. -/
def SameOrFreed (x y : Option Lift) : Prop := y = none ∨ y.map Lift.id = x.map Lift.id

namespace IdsKept

variable {s t u : State}

theorem refl (s : State) : IdsKept s s := ⟨id⟩

theorem trans (h : IdsKept s t) (k : IdsKept t u) : IdsKept s u := ⟨fun x => k.distinct (h.distinct x)⟩

theorem foldl {α : Type} (f : State → α → State) (h : ∀ s a, IdsKept s (f s a)) (l : List α) (s : State) :
    IdsKept s (l.foldl f s) :=
  foldl_rel IdsKept refl (fun _ _ _ => trans) f h l s

theorem ite {c : Prop} [Decidable c] (h : c → IdsKept s t) (k : ¬c → IdsKept s u) :
    IdsKept s (if c then t else u) :=
  rel_ite h k

/-- The records may move between their holders and be freed, each with its id. -/
theorem of_moves {φ : BinNo ⊕ SlotNo → BinNo ⊕ SlotNo} (apart : φ.Injective)
    (moves : ∀ x i, recordId t x = some i → recordId s (φ x) = some i) : IdsKept s t := by
  refine ⟨?_⟩
  rw [liftIdsDistinct_iff, liftIdsDistinct_iff]
  exact fun h x y i hx hy => apart (h _ _ i (moves x i hx) (moves y i hy))

/-- Each bin and slot keeps the record it holds, or frees it. -/
theorem of_holders (bins : ∀ b, SameOrFreed (s.bin b).state.lift? (t.bin b).state.lift?)
    (slots : ∀ n : SlotNo, SameOrFreed s.slots[n].state.lift? t.slots[n].state.lift?) : IdsKept s t := by
  have told {x y : Option Lift} {i : Nat} (h : SameOrFreed x y) (is : y.map Lift.id = some i) :
      x.map Lift.id = some i := by
    rcases h with rfl | same
    · cases is
    · exact same.symm.trans is
  refine of_moves Function.injective_id fun x i is => ?_
  cases x with
  | inl b => exact told (bins b) is
  | inr n => exact told (slots n) is

theorem of_bins (bins : ∀ b, SameOrFreed (s.bin b).state.lift? (t.bin b).state.lift?) (slots : t.slots = s.slots) :
    IdsKept s t :=
  of_holders bins fun n => .inr (by rw [slots])

theorem of_slots (bins : t.bins = s.bins)
    (slots : ∀ n : SlotNo, SameOrFreed s.slots[n].state.lift? t.slots[n].state.lift?) : IdsKept s t :=
  of_holders (fun b => .inr (by rw [State.bin, State.bin, bins])) slots

theorem of_same (bins : t.bins = s.bins) (slots : t.slots = s.slots) : IdsKept s t :=
  of_slots bins fun n => .inr (by rw [slots])

end IdsKept

/-! ### The entries (chapter 3) -/

theorem dropAtBeltEnd_ids (n : EntryId) (s : State) : IdsKept s (dropAtBeltEnd n s) := by
  rcases dropAtBeltEnd_cases n s with e | ⟨x, -, -, -, e⟩ <;> rw [e]
  · exact .refl s
  · exact .of_same rfl rfl

theorem rejectEntry_ids (n : EntryId) (why : RejectReason) (values : Option Computed) (s : State) :
    IdsKept s (rejectEntry n why values s) := by
  refine IdsKept.trans ?_ (dropAtBeltEnd_ids n _)
  exact .of_same rfl rfl

theorem sweepEntry_ids (s : State) (n : EntryId) : IdsKept s (sweepEntry s n) := by
  rcases sweepEntry_cases s n with ⟨e, -, -, is⟩ | ⟨-, is⟩ <;> rw [is]
  · exact rejectEntry_ids n _ _ s
  · exact .refl s

theorem setMismatches_ids (m : Nat) (s : State) : IdsKept s (setMismatches m s) := by
  rcases setMismatches_cases m s with ⟨-, e⟩ | ⟨-, -, e⟩ | ⟨-, -, e⟩ <;> rw [e]
  · exact .of_same rfl rfl
  · exact .of_same rfl rfl
  · refine IdsKept.trans ?_ (.foldl _ sweepEntry_ids _ _)
    exact .of_same rfl rfl

theorem countMismatch_ids (s : State) : IdsKept s (countMismatch s) := setMismatches_ids _ s

/-! ### The bins and the outfeed (chapters 5 to 7) -/

theorem setBin_ids {b : BinNo} {f : Bin → Bin} {s : State}
    (own : SameOrFreed (s.bin b).state.lift? (f (s.bin b)).state.lift?) : IdsKept s (setBin b f s) := by
  refine .of_bins (fun c => ?_) rfl
  rw [setBin_bin]
  split
  · next e => exact e ▸ own
  · exact .inr rfl

theorem setSlot_ids {n : SlotNo} {f : Slot → Slot} {s : State}
    (own : SameOrFreed s.slots[n].state.lift? (f s.slots[n]).state.lift?) : IdsKept s (setSlot n f s) := by
  refine .of_slots rfl fun m => ?_
  rw [setSlot_slots, vset_get]
  split
  · next e => exact e ▸ own
  · exact .inr rfl

theorem mapLift_sameOrFreed {f : Lift → Lift} (same : ∀ l, (f l).id = l.id) (x : BinState) :
    SameOrFreed x.lift? (x.mapLift f).lift? := by
  refine .inr ?_
  cases x with
  | faulted why l => cases l <;> simp [BinState.mapLift, BinState.lift?, same]
  | _ => simp [BinState.mapLift, BinState.lift?, same]

theorem mapBinLift_ids (b : BinNo) {f : Lift → Lift} (same : ∀ l, (f l).id = l.id) (s : State) :
    IdsKept s (mapBinLift b f s) :=
  setBin_ids (mapLift_sameOrFreed same _)

theorem syncGates_ids (s : State) : IdsKept s (syncGates s) :=
  .of_bins (fun b => .inr (by rw [syncGates_bin_state])) rfl

theorem drainBins_ids (why : CloseReason) (p : BinNo → Lift → Bool) (s : State) : IdsKept s (drainBins why p s) := by
  refine .of_bins (fun b => .inr ?_) (drainBins_slots why p s)
  by_cases fills : ∃ l, (s.bin b).state = .filling l
  · obtain ⟨l, fills⟩ := fills
    rw [drainBins_bin_filling why p fills, fills]
    split <;> rfl
  · rw [drainBins_bin why p fun l e => fills ⟨l, e⟩]

section
variable {b : BinNo} {l : Lift} {s : State}

theorem discardLift_ids (why : DiscardReason) {x : BinState} (empty : x.lift? = none) :
    IdsKept s (discardLift b why l x s) := by
  refine IdsKept.trans (setBin_ids (b := b) (f := fun y => { y with state := x }) (.inl empty)) ?_
  exact .of_same rfl rfl

theorem waitForOutfeed_ids (holds : (s.bin b).state.lift? = some l) {m : Lift} (same : m.id = l.id) :
    IdsKept s (waitForOutfeed b m s) := by
  refine IdsKept.trans (setBin_ids (f := fun y => { y with state := .fullWait m }) (.inr ?_)) (.of_same rfl rfl)
  rw [holds]
  exact congrArg some same

theorem closeLift_ids (why : CloseReason) (holds : (s.bin b).state.lift? = some l) :
    IdsKept s (closeLift b why l s) := by
  unfold closeLift
  refine IdsKept.trans ?_ (waitForOutfeed_ids (l := l) (by exact holds) (by rfl))
  exact .of_same rfl rfl

theorem startEjection_ids (n : SlotNo) (holds : (s.bin b).state.lift? = some l) :
    IdsKept s (startEjection b l n s) := by
  refine IdsKept.trans ?_ (setSlot_ids (.inl rfl))
  refine IdsKept.trans ?_ (setBin_ids (.inr (congrArg (Option.map Lift.id) holds).symm))
  exact .of_same rfl rfl

end

theorem completeDrain_ids (b : BinNo) (s : State) : IdsKept s (completeDrain b s) := by
  rcases completeDrain_cases b s with ⟨e, -⟩ | ⟨why, l, -, -, -, e⟩ | ⟨why, l, drains, -, -, e⟩ <;> rw [e]
  · exact .refl s
  · exact discardLift_ids _ rfl
  · exact closeLift_ids why (by rw [drains]; rfl)

theorem completeDrains_ids (s : State) : IdsKept s (completeDrains s) := .foldl _ (fun s b => completeDrain_ids b s) _ s

theorem ejectionTest_ids (s : State) : IdsKept s (ejectionTest s) := by
  rcases ejectionTest_cases s with e | ⟨b, rest, n, l, -, -, -, waits, e⟩ <;> rw [e]
  · exact .refl s
  · exact startEjection_ids n (by rw [waits]; rfl)

theorem closeEvent_ids (s : State) : IdsKept s (closeEvent s) := (syncGates_ids s).trans (ejectionTest_ids _)

theorem setMode_ids (m : SortMode) (s : State) : IdsKept s (setMode m s) :=
  .ite (fun _ => .refl s) fun _ => .of_same rfl rfl

theorem endDrainIfDue_ids (s : State) : IdsKept s (endDrainIfDue s) := by
  rcases endDrainIfDue_cases s with ⟨-, -, e⟩ | ⟨-, e⟩ <;> rw [e]
  · exact ((drainBins_ids _ _ s).trans (completeDrains_ids _)).trans (setMode_ids _ _)
  · exact .refl s

theorem finish_ids (s : State) : IdsKept s (finish s) := (endDrainIfDue_ids s).trans (closeEvent_ids _)

theorem discardQueue_ids (s : State) : IdsKept s (discardQueue s) := by
  have emptied : IdsKept s (queueEmptied s) := .of_same rfl rfl
  have cleared (t : State) : IdsKept t (flightsCleared t) := by
    refine .of_bins (fun b => ?_) rfl
    rw [flightsCleared_bin]
    exact mapLift_sameOrFreed (by exact fun _ => rfl) _
  rw [discardQueue_eq]
  exact ((emptied.trans (setMismatches_ids 0 _)).trans (cleared _)).trans
    ((syncGates_ids _).trans (completeDrains_ids _))

/-! ### The commit (R85, R117) -/

/-- A READY bin's new lift takes an id that is not in use; any other bin opens none. -/
theorem openLift_ids (b : BinNo) (key : Key) (target : Nat) (s : State) : IdsKept s (openLift b key target s) := by
  by_cases ready : (s.bin b).state = .ready
  swap
  · rw [openLift_not_ready key target ready]
    exact .refl s
  have opened (x : BinNo ⊕ SlotNo) : recordId (openLift b key target s) x
      = if x = .inl b then some (freshLiftId s) else recordId s x := by
    have test : isReady s b = true := by simp [isReady, ready]
    cases x with
    | inl c =>
      rw [openLift, if_pos test, recordId, binLiftId, setBin_bin]
      by_cases own : c = b
      · rw [if_pos own, if_pos (congrArg _ own)]
        rfl
      · rw [if_neg own, if_neg (fun e => own (Sum.inl.inj e))]
        rfl
    | inr n =>
      rw [openLift, if_pos test, if_neg Sum.inr_ne_inl]
      rfl
  refine ⟨?_⟩
  rw [liftIdsDistinct_iff, liftIdsDistinct_iff]
  intro distinct x y i hx hy
  have unused {z : BinNo ⊕ SlotNo} (holds : recordId s z = some (freshLiftId s)) : False :=
    freshLiftId_unused ready (mem_liftIds holds)
  rw [opened] at hx hy
  split at hx <;> split at hy
  · next hx' hy' => exact hx'.trans hy'.symm
  · cases hx
    exact (unused hy).elim
  · cases hy
    exact (unused hx).elim
  · exact distinct x y i hx hy

theorem commit_sameOrFreed (x : BinState) : SameOrFreed x.lift? x.commit.lift? := by
  cases x with
  | filling l =>
    rw [commit_filling]
    split <;> exact .inr rfl
  | _ => exact .inr rfl

theorem commitTo_ids (n : EntryId) (b : BinNo) (key : Key) (target : Nat) (s : State) :
    IdsKept s (commitTo n b key target s) := by
  refine ((openLift_ids b key target s).trans
    (setBin_ids (b := b) (f := fun x => { x with state := x.state.commit }) (commit_sameOrFreed _))).trans ?_
  exact .of_same rfl rfl

theorem applyRoute_ids (n : EntryId) (plan : RoutePlan) (s : State) : IdsKept s (applyRoute n plan s) := by
  cases plan with
  | bin b key target => exact commitTo_ids n b key target s
  | redryGate p => exact .of_same rfl rfl
  | beltEnd why x => exact rejectEntry_ids n why x s

/-! ### The fault of a bin, and landings (R92, R93, R97 to R106) -/

theorem rerouteEntry_ids (b : BinNo) (s : State) (n : EntryId) : IdsKept s (rerouteEntry b s n) := by
  rcases rerouteEntry_cases b s n with ⟨e, -⟩ | ⟨x, v, plan, -, -, -, -, e⟩ <;> rw [e]
  · exact .refl s
  · exact (mapBinLift_ids b (f := Lift.loseSheet) (fun _ => rfl) s).trans (applyRoute_ids n plan _)

theorem turnAwayEntry_ids (b : BinNo) (s : State) (n : EntryId) : IdsKept s (turnAwayEntry b s n) := by
  rcases turnAwayEntry_cases b s n with ⟨e, -⟩ | ⟨x, -, -, e⟩ <;> rw [e]
  · exact .refl s
  · exact (mapBinLift_ids b (f := Lift.loseSheet) (fun _ => rfl) s).trans (rejectEntry_ids n _ _ _)

theorem loseEntries_ids (b : BinNo) (s : State) : IdsKept s (loseEntries b s) :=
  (IdsKept.foldl _ (rerouteEntry_ids b) _ s).trans (.foldl _ (turnAwayEntry_ids b) _ _)

theorem faultAnnounced_ids (b : BinNo) (why : BinFault) (s : State) : IdsKept s (faultAnnounced b why s) := by
  have alike := faultAnnounced_alike b why s
  refine .of_holders (fun c => .inr ?_) fun n => .inr (alike.slots n)
  by_cases own : c = b
  · exact own ▸ alike.lift
  · rw [alike.state c own]

theorem faultBin_ids (b : BinNo) (why : BinFault) (s : State) : IdsKept s (faultBin b why s) := by
  rcases faultBin_cases b why s with e | ⟨-, -, e⟩ <;> rw [e]
  · exact .refl s
  · exact ((faultAnnounced_ids b why s).trans (loseEntries_ids b _)).trans (syncGates_ids _)

theorem anomalyTest_ids (b : BinNo) (what : Anomaly) (s : State) : IdsKept s (anomalyTest b what s) := by
  rcases anomalyTest_cases b what s with ⟨-, e⟩ | ⟨-, e⟩ | ⟨-, -, e⟩ <;> rw [e]
  · exact .of_same rfl rfl
  · exact faultBin_ids b _ s
  · exact .refl s

theorem bumpSuspicion_ids (b : BinNo) (s : State) : IdsKept s (bumpSuspicion b s) := setBin_ids (.inr rfl)

theorem strayLanding_ids (b : BinNo) (s : State) : IdsKept s (strayLanding b s) := by
  refine ((bumpSuspicion_ids b s).trans ?_).trans (anomalyTest_ids b .stray _)
  exact .of_same rfl rfl

theorem landEntry_ids (b : BinNo) (e : Entry) (s : State) : IdsKept s (landEntry b e s) := by
  unfold landEntry
  dsimp only
  refine IdsKept.trans ?_ ((syncGates_ids _).trans (completeDrain_ids b _))
  have counted := setBin_ids (s := s) (b := b)
    (f := fun x =>
      { x with
        state := x.state.mapLift (Lift.land ((e.verdict.bind Verdict.values).map fun v => v.meanM)), suspicion := 0 })
    (mapLift_sameOrFreed (f := Lift.land _) (fun _ => rfl) _)
  split
  · exact counted.trans (.of_same rfl rfl)
  · exact counted.trans (.of_same rfl rfl)

theorem landedEdge_ids (b : BinNo) (s : State) : IdsKept s (landedEdge b s) := by
  rcases landedEdge_cases b s with e | ⟨x, -, -, e⟩ | e <;> rw [e]
  · exact .refl s
  · exact landEntry_ids b x s
  · exact strayLanding_ids b s

theorem missEntry_ids (b : BinNo) (n : EntryId) (s : State) : IdsKept s (missEntry b n s) := by
  rw [missEntry_eq]
  have counted : IdsKept s (missCounted b n s) :=
    ((mapBinLift_ids b (f := Lift.miss) (fun _ => rfl) s).trans (bumpSuspicion_ids b _)).trans (.of_same rfl rfl)
  exact ((counted.trans (syncGates_ids _)).trans (anomalyTest_ids b .missed _)).trans (completeDrain_ids b _)

/-! ### The passages (R51) -/

section
variable (s : State) (n : EntryId)

theorem passDecision_ids : IdsKept s (passDecision s n) := by
  refine .ite (fun _ => IdsKept.trans ?_ (finish_ids _)) fun _ => .refl s
  exact .ite (fun _ => (rejectEntry_ids n _ _ s).trans (countMismatch_ids _)) fun _ => .refl s

/-- A change of one entry, with the gates brought up to date. -/
theorem setEntry_syncGates_ids (f : Entry → Entry) : IdsKept s (syncGates (setEntry n f s)) := by
  refine IdsKept.trans ?_ (syncGates_ids _)
  exact .of_same rfl rfl

theorem passGateOpen_ids : IdsKept s (passGateOpen s n) :=
  .ite (fun _ => setEntry_syncGates_ids s n _) fun _ => .refl s

theorem passGateClose_ids : IdsKept s (passGateClose s n) :=
  .ite (fun _ => setEntry_syncGates_ids s n _) fun _ => .refl s

theorem passRedryOpen_ids : IdsKept s (passRedryOpen s n) :=
  .ite (fun _ => setEntry_syncGates_ids s n _) fun _ => .refl s

theorem passWindowEnd_ids : IdsKept s (passWindowEnd s n) := by
  refine .ite (fun _ => IdsKept.trans ?_ (finish_ids _)) fun _ => .refl s
  unfold expireWindow
  split
  · exact missEntry_ids _ n s
  · exact .refl s

theorem passRedryClose_ids : IdsKept s (passRedryClose s n) := by
  refine .ite (fun _ => IdsKept.trans ?_ (finish_ids _)) fun _ => .refl s
  exact .of_same rfl rfl

theorem passBeltEnd_ids : IdsKept s (passBeltEnd s n) :=
  .ite (fun _ => (dropAtBeltEnd_ids n s).trans (finish_ids _)) fun _ => .refl s

theorem passesOf_ids : IdsKept s (passesOf s n) :=
  ((((((passDecision_ids s n).trans (passGateOpen_ids _ n)).trans (passRedryOpen_ids _ n)).trans
    (passGateClose_ids _ n)).trans (passWindowEnd_ids _ n)).trans (passRedryClose_ids _ n)).trans (passBeltEnd_ids _ n)

end

theorem passEyeStuck_ids (s : State) (b : BinNo) : IdsKept s (passEyeStuck s b) := by
  refine .ite (fun _ => IdsKept.trans ?_ (finish_ids _)) fun _ => .refl s
  exact .ite (fun _ => faultBin_ids b _ s) fun _ => .refl s

theorem duePassages_ids (s : State) : IdsKept s (duePassages s) :=
  (IdsKept.foldl _ passesOf_ids _ s).trans (.foldl _ passEyeStuck_ids _ _)

theorem nearerPassages_ids (p : GeomParam) (old : Geometry) (s : State) : IdsKept s (nearerPassages p old s) := by
  unfold nearerPassages
  refine .ite (fun _ => ?_) fun _ => .refl s
  split
  · exact .foldl _ passDecision_ids _ s
  · exact .foldl _ passBeltEnd_ids _ s
  · exact .foldl _ passWindowEnd_ids _ s
  · exact .foldl _ passEyeStuck_ids _ s
  · exact .refl s

theorem timeOutEjection_ids (s : State) : IdsKept s (timeOutEjection s) := by
  unfold timeOutEjection
  split
  · exact (faultBin_ids _ _ s).trans (finish_ids _)
  · exact .refl s

/-! ### The slots and the pulls (chapters 7 and 8) -/

theorem stored?_holding {x : Slot} {l : Lift} (h : x.stored? = some l) : x.state = .holding l := by
  unfold Slot.stored? at h
  split at h
  · next holds =>
    split at h <;> cases h
    exact holds
  · cases h

theorem slotOfPull_holding {s : State} {number : Nat} {n : SlotNo} {l : Lift} (h : slotOfPull s number = some (n, l)) :
    s.slots[n].state = .holding l := by
  obtain ⟨m, -, is⟩ := List.exists_of_findSome?_eq_some h
  split at is
  · next holds =>
    split at is <;> cases is
    exact holds
  · cases is

theorem handoverOf_holding {s : State} {line : LineNo} {p : Pull} {n : SlotNo} {l : Lift}
    (h : handoverOf s line = some (p, n, l)) : s.slots[n].state = .holding l := by
  unfold handoverOf at h
  split at h
  · obtain ⟨⟨m, k⟩, found, is⟩ := Option.map_eq_some_iff.mp h
    cases is
    exact slotOfPull_holding found
  · cases h

section
variable {n : SlotNo} {l m : Lift} {s : State} (holds : s.slots[n].state = .holding l)
include holds

/-- A slot's record changed in anything but its id. -/
theorem setSlotLift_ids (same : m.id = l.id) : IdsKept s (setSlot n (fun x => { x with state := .holding m }) s) :=
  setSlot_ids (.inr (by rw [holds]; exact congrArg some same))

theorem returnLift_ids : IdsKept s (returnLift n l s) := setSlotLift_ids holds rfl

theorem assignLift_ids (w : Pull) : IdsKept s (assignLift n l w s) := by
  have assigned (f : Arbiter → Arbiter) : IdsKept s
      (setSlot n (fun x => { x with state := .holding { l with state := .assigned, pull := some w.number } })
        (setArbiter f s)) :=
    IdsKept.trans (t := setArbiter f s) (.of_same rfl rfl) (setSlotLift_ids (l := l) holds (by rfl))
  exact (assigned _).trans (.of_same rfl rfl)

end

theorem matchSlot_ids (s : State) (n : SlotNo) : IdsKept s (matchSlot s n) := by
  rcases matchSlot_cases s n with ⟨-, e⟩ | ⟨l, -, -, e⟩ | ⟨l, w, stored, -, e⟩ <;> rw [e]
  · exact .refl s
  · exact .refl s
  · exact assignLift_ids (stored?_holding stored) w

theorem matchingPass_ids (s : State) : IdsKept s (matchingPass s) := .foldl _ matchSlot_ids _ s

theorem giveBackLift_ids (number : Nat) (s : State) : IdsKept s (giveBackLift number s) := by
  unfold giveBackLift
  split
  · next found => exact returnLift_ids (slotOfPull_holding found)
  · exact .refl s

theorem expireHandover_ids (line : LineNo) (s : State) : IdsKept s (expireHandover line s) := by
  unfold expireHandover
  split
  · next p n l handover =>
    refine IdsKept.trans ?_ (matchingPass_ids _)
    have returned : IdsKept (endPull line p.number s) (returnLift n l (endPull line p.number s)) :=
      returnLift_ids (s := endPull line p.number s) (handoverOf_holding (s := s) handover)
    have ended : IdsKept s (endPull line p.number s) := .of_same rfl rfl
    exact (ended.trans returned).trans (.of_same rfl rfl)
  · exact .refl s

/-- The completed ejection moves the record of the EJECTING bin to the slot (R137). -/
theorem storeLift_ids {b : BinNo} {l : Lift} (n : SlotNo) {s : State} (ejects : (s.bin b).state = .ejecting l) :
    IdsKept s (storeLift b n l s) := by
  have bin (c : BinNo) : (storeLift b n l s).bin c
      = if c = b then { s.bin b with state := .ready, eject := false } else s.bin c :=
    setBin_bin b c (fun x => { x with state := .ready, eject := false }) _
  have slot (m : SlotNo) : (storeLift b n l s).slots[m]
      = if m = n then { s.slots[n] with state := .holding { l with state := .stored } } else s.slots[m] := by
    rw [storeLift, setSlot_slots, vset_get, setBin_slots]
  refine .of_moves (Equiv.swap (.inl b) (.inr n)).injective fun x i is => ?_
  cases x with
  | inl c =>
    rw [recordId, binLiftId, bin] at is
    split at is
    · cases is
    · next other => rwa [Equiv.swap_apply_of_ne_of_ne (fun e => other (Sum.inl.inj e)) Sum.inl_ne_inr]
  | inr m =>
    rw [recordId, slotLiftId, slot] at is
    split at is
    · next own =>
      rw [own, Equiv.swap_apply_right, recordId, binLiftId, ejects]
      exact is
    · next other => rwa [Equiv.swap_apply_of_ne_of_ne Sum.inr_ne_inl (fun e => other (Sum.inr.inj e))]

theorem completeEjection_ids (b : BinNo) (n : SlotNo) (s : State) : IdsKept s (completeEjection b n s) := by
  unfold completeEjection
  split
  · next l ejects =>
    refine IdsKept.trans ?_ ((matchingPass_ids _).trans (closeEvent_ids _))
    exact (storeLift_ids n ejects).trans (.of_same rfl rfl)
  · exact .refl s

theorem vacate_ids (n : SlotNo) (s : State) : IdsKept s (vacate n s) := setSlot_ids (.inl rfl)

theorem takenRemoval_ids (n : SlotNo) (l : Lift) (p : Pull) (s : State) : IdsKept s (takenRemoval n l p s) := by
  have ended : IdsKept s (endPull p.line p.number s) := .of_same rfl rfl
  unfold takenRemoval
  refine IdsKept.trans ?_ ((matchingPass_ids _).trans (closeEvent_ids _))
  exact (ended.trans (vacate_ids n _)).trans (.of_same rfl rfl)

theorem unclaimedRemoval_ids (n : SlotNo) (l : Lift) (s : State) : IdsKept s (unclaimedRemoval n l s) := by
  unfold unclaimedRemoval
  refine IdsKept.trans ?_ (closeEvent_ids _)
  exact (vacate_ids n s).trans (.of_same rfl rfl)

/-- RESTART's return of the ASSIGNED lifts keeps each in its slot (R162). -/
theorem discardPulls_ids (s : State) : IdsKept s (discardPulls s) := by
  refine .of_slots (by rw [discardPulls, setArbiter_bins]) fun n => .inr ?_
  simp only [discardPulls, setArbiter_slots, vmap_get]
  split
  · next l holds =>
    split
    · rw [holds]; rfl
    · rfl
  · rfl

/-! ### One millisecond (log entry 1) -/

theorem tick_ids (s : State) : IdsKept s (tick s) := by
  have settled (t : State) : IdsKept t (allFour.foldl settleHandover t) :=
    .foldl _ (fun t i => .ite (fun _ => expireHandover_ids i t) fun _ => .refl t) _ t
  have timers : IdsKept s (tickTimers s) := .of_same rfl rfl
  unfold tick
  refine IdsKept.trans ?_ (settled _)
  exact timers.trans (.ite (fun _ => timeOutEjection_ids _) fun _ => .refl _)

end Sys2Proof.Machine
end

section
/-! SUPPORT. Every command and one millisecond keep the ids of the lift records in use distinct (R116); then the
statement about every step. -/

namespace Sys2Proof.Machine

theorem ids_blind : ReplyBlind IdsKept := ⟨.refl, .trans, fun _ _ _ => .of_same rfl rfl⟩

/-- Every next state that an outcome answers keeps the ids distinct. -/
def OutcomeIds (s : State) (o : Host.Outcome State Fault Refusal) : Prop := ∀ t, o = .next t → IdsKept s t

theorem OutcomeIds.next {s t : State} (h : IdsKept s t) : OutcomeIds s (.next t) := by
  rintro _ ⟨⟩
  exact h

theorem OutcomeIds.fault {s : State} (why : Fault) : OutcomeIds s (.fault why) := by
  rintro _ ⟨⟩

/-- The end of an event whose work is answered. -/
theorem IdsKept.answered {s t : State} (h : IdsKept s t) (r : Req) (k : ReqKind) (x : Result) :
    IdsKept s (closeEvent (done r k x t)) :=
  (ids_blind.done h r k x).trans (closeEvent_ids _)

section
variable (r : Req) (s : State)

/-! ### The recipe banks, the geometry and the modes (chapters 2, 4 and 9) -/

theorem execActivate_ids (n : Nat) : OutcomeIds s (execActivate r n s) := by
  refine .next (ids_blind.serve fun t => ?_)
  split
  · next k _ =>
    refine .ite (fun _ => .of_same rfl rfl) fun _ => ?_
    split
    · exact .of_same rfl rfl
    · have switched : IdsKept t (switchBank k t) := by
        rw [switchBank_eq]
        exact .of_same rfl rfl
      exact ((switched.trans (drainBins_ids _ _ _)).trans (completeDrains_ids _)).answered _ _ _
  · exact .of_same rfl rfl

theorem execWriteGeometry_ids (p : GeomParam) (v : Option Nat) : OutcomeIds s (execWriteGeometry r p v s) := by
  refine .next (ids_blind.serve fun t => .ite (fun _ => ids_blind.refuse _ _ _ t) fun _ =>
    .ite (fun _ => ids_blind.refuse _ _ _ t) fun _ => ?_)
  dsimp only
  split
  · exact .of_same rfl rfl
  · refine IdsKept.trans ?_ (nearerPassages_ids _ _ _)
    exact .of_same rfl rfl

theorem execStart_ids : OutcomeIds s (execStart r s) := by
  refine .next (ids_blind.serve fun t => ?_)
  have runs := ids_blind.done (setMode_ids .run t) r .start (.mode .run)
  split
  · exact .of_same rfl rfl
  · exact runs
  · exact .ite (fun _ => .of_same rfl rfl) fun _ => runs

theorem execDrain_ids : OutcomeIds s (execDrain r s) :=
  .next (ids_blind.serve fun t => .ite
    (fun _ => ((setMode_ids .drain t).trans (endDrainIfDue_ids _)).answered _ _ _) fun _ => ids_blind.refuse _ _ _ t)

theorem execStop_ids : OutcomeIds s (execStop r s) :=
  .next (ids_blind.serve fun t => .ite (fun _ => ids_blind.refuse _ _ _ t)
    fun _ => ((discardQueue_ids t).trans (setMode_ids .idle _)).answered _ _ _)

theorem emptyQueues_ids : IdsKept s (emptyQueues s) := .of_same rfl rfl

theorem execRestart_ids : OutcomeIds s (execRestart r s) := by
  refine .next (ids_blind.serve fun t => ?_)
  refine IdsKept.answered ?_ r .restart _
  exact (((discardQueue_ids t).trans (discardPulls_ids _)).trans (setMode_ids .idle _)).trans (emptyQueues_ids _)

/-! ### The bins (chapters 5 and 6) -/

theorem clearFaulted_ids {b : BinNo} {why : BinFault} {lift : Option Lift}
    (faulted : (s.bin b).state = .faulted why lift) : IdsKept s (clearFaulted r b lift s) := by
  have cleared : IdsKept s (unsuspected b s) := setBin_ids (.inr rfl)
  have holds : ((unsuspected b s).bin b).state.lift? = lift := by
    rw [unsuspected_bin]
    exact congrArg BinState.lift? faulted
  have answers {t : State} (work : IdsKept (unsuspected b s) t) (x : Result) : IdsKept s (done r .clearBin x t) :=
    cleared.trans (ids_blind.done work r .clearBin x)
  cases lift with
  | none => exact answers (setBin_ids (.inl rfl)) _
  | some l =>
    by_cases opened : l.state = .opened
    · by_cases landed : l.landed = 0
      · rw [clearFaulted_discards opened landed]
        exact answers (discardLift_ids _ rfl) _
      · rw [clearFaulted_closes opened landed]
        exact answers (closeLift_ids _ holds) _
    · rw [clearFaulted_waits opened]
      exact answers (waitForOutfeed_ids holds rfl) _

theorem execClearBin_ids (n : Nat) : OutcomeIds s (execClearBin r n s) := by
  refine .next (ids_blind.serve fun t => ?_)
  split
  · exact .of_same rfl rfl
  · split
    · next faulted =>
      exact .ite (fun _ => .of_same rfl rfl) fun _ => (clearFaulted_ids r t faulted).trans (closeEvent_ids _)
    · exact .of_same rfl rfl

theorem execBinOnline_ids (n : Nat) : OutcomeIds s (execBinOnline r n s) := by
  refine .next (ids_blind.serve fun t => ?_)
  split
  · exact .of_same rfl rfl
  · exact .ite (fun _ => .of_same rfl rfl) fun _ => .ite (fun _ => .of_same rfl rfl) fun _ =>
      ids_blind.done (setBin_ids (.inl rfl)) _ _ _

theorem takeOffline_ids (b : BinNo) : IdsKept s (takeOffline b s) := setBin_ids (.inl rfl)

theorem execBinOffline_ids (n : Nat) : OutcomeIds s (execBinOffline r n s) := by
  refine .next (ids_blind.serve fun t => ?_)
  split
  · exact .of_same rfl rfl
  · split
    · exact ids_blind.done (takeOffline_ids t _) _ _ _
    · exact ids_blind.done (takeOffline_ids t _) _ _ _
    · exact ids_blind.done ((takeOffline_ids t _).trans (discardLift_ids _ rfl)) _ _ _
    · exact .of_same rfl rfl

theorem closeShort_ids {b : BinNo} {l : Lift} (fills : (s.bin b).state = .filling l) :
    IdsKept s (closeShort b l s) := by
  have sent : IdsKept s (sentShort b l s) := setBin_ids (.inr (by rw [fills]; rfl))
  exact sent.trans (completeDrain_ids b _)

theorem execCloseBin_ids (n : Nat) : OutcomeIds s (execCloseBin r n s) := by
  refine .next (ids_blind.serve fun t => ?_)
  split
  · exact .of_same rfl rfl
  · split
    · next fills => exact (closeShort_ids t fills).answered _ _ _
    · exact .of_same rfl rfl

theorem execForceClose_ids (code : Nat) (cls : Option Nat) : OutcomeIds s (execForceClose r code cls s) := by
  refine .next (ids_blind.take fun t => ?_)
  split
  · refine .ite (fun _ => .of_same rfl rfl) fun _ => .ite (fun _ => .of_same rfl rfl) fun _ => ?_
    split
    · exact .of_same rfl rfl
    · next choice => exact (closeShort_ids t (forceChoice_filling choice)).answered _ _ _
  · exact .of_same rfl rfl

/-! ### The outfeed and the slots (chapter 7) -/

theorem execClearOutfeed_ids : OutcomeIds s (execClearOutfeed r s) := by
  refine .next (ids_blind.serve fun t => .ite (fun _ => ?_) fun _ => ids_blind.refuse _ _ _ t)
  refine IdsKept.answered ?_ r .clearOutfeed .plain
  exact .of_same rfl rfl

/-- A slot brought to a state that holds no lift record. -/
theorem emptySlot_ids (n : SlotNo) {x : SlotState} (empty : x.lift? = none) :
    IdsKept s (setSlot n (fun y => { y with state := x }) s) :=
  setSlot_ids (.inl empty)

theorem execSlotOnline_ids (n : Nat) : OutcomeIds s (execSlotOnline r n s) := by
  refine .next (ids_blind.serve fun t => ?_)
  split
  · exact .of_same rfl rfl
  · exact .ite (fun _ => .of_same rfl rfl) fun _ => .ite (fun _ => .of_same rfl rfl) fun _ =>
      (emptySlot_ids t _ rfl).answered _ _ _

theorem execSlotOffline_ids (n : Nat) : OutcomeIds s (execSlotOffline r n s) := by
  refine .next (ids_blind.serve fun t => ?_)
  split
  · exact .of_same rfl rfl
  · exact .ite (fun _ => ids_blind.done (emptySlot_ids t _ rfl) _ _ _) fun _ => .of_same rfl rfl

theorem execClearSlot_ids (n : Nat) : OutcomeIds s (execClearSlot r n s) := by
  refine .next (ids_blind.serve fun t => ?_)
  split
  · exact .of_same rfl rfl
  · exact .ite (fun _ => .of_same rfl rfl) fun _ => .ite (fun _ => .of_same rfl rfl) fun _ =>
      (emptySlot_ids t _ rfl).answered _ _ _

theorem setSlotEye_ids (n : SlotNo) (eye : Bool) : IdsKept s (setSlot n (fun x => { x with eye := eye }) s) :=
  setSlot_ids (.inr rfl)

theorem execSlotEyeBlocked_ids (n : SlotNo) : OutcomeIds s (execSlotEyeBlocked n s) := by
  refine .next (.ite (fun _ => .refl s) fun _ => ?_)
  have blocked := setSlotEye_ids s n true
  dsimp only
  split
  · exact blocked.trans ((emptySlot_ids _ n rfl).trans (.of_same rfl rfl))
  · exact blocked.trans (completeEjection_ids _ n _)
  · exact blocked

theorem execSlotEyeClears_ids (n : SlotNo) : OutcomeIds s (execSlotEyeClears n s) := by
  refine .next (.ite (fun _ => .refl s) fun _ => ?_)
  have clears := setSlotEye_ids s n false
  dsimp only
  split
  · split
    · exact clears.trans (takenRemoval_ids n _ _ _)
    · exact clears.trans (unclaimedRemoval_ids n _ _)
  · exact clears

/-! ### The pulls (chapter 8) -/

theorem execPull_ids (code : Nat) (bank cls : Option Nat) (nowait : Bool) :
    OutcomeIds s (execPull r code bank cls nowait s) := by
  refine .next (ids_blind.take fun t => ?_)
  split
  · refine .ite (fun _ => .of_same rfl rfl) fun _ => .ite (fun _ => .of_same rfl rfl) fun _ =>
      .ite (fun _ => .of_same rfl rfl) fun _ => .ite (fun _ => .of_same rfl rfl) fun _ =>
        IdsKept.trans ?_ (matchingPass_ids _)
    exact .of_same rfl rfl
  · exact .of_same rfl rfl

theorem execRelease_ids (number : Nat) : OutcomeIds s (execRelease r number s) := by
  refine .next (ids_blind.take fun t => ?_)
  split
  · refine .ite (fun _ => .of_same rfl rfl) fun _ => ?_
    split
    · split
      · refine IdsKept.trans ?_ (matchingPass_ids _)
        exact (giveBackLift_ids number t).trans (.of_same rfl rfl)
      · exact .of_same rfl rfl
    · exact .ite (fun _ => .of_same rfl rfl) fun _ => .of_same rfl rfl
  · exact .of_same rfl rfl

theorem execCancel_ids (number : Nat) : OutcomeIds s (execCancel r number s) := by
  refine .next (ids_blind.take fun t => ?_)
  split
  · refine .ite (fun _ => .of_same rfl rfl) fun _ => ?_
    split
    · split <;> exact .of_same rfl rfl
    · exact .of_same rfl rfl
  · exact .of_same rfl rfl

/-! ### The scan port and the entry eye (chapters 1 and 3) -/

theorem execSheetReport_ids (p : Port) (tag : Byte) (payload : List Byte) :
    OutcomeIds s (execSheetReport p tag payload s) := by
  rcases sheetReport_cases p tag payload s with ⟨-, is⟩ | outcome
  · rw [is]
    exact .next (.refl s)
  · have taken {t : State} (h : IdsKept (freeBuffer p s) t) : OutcomeIds s (.next t) :=
      .next ((ids_blind.freeBuffer p s).trans h)
    generalize execSheetReport p tag payload s = o at outcome
    cases outcome with
    | denied | invalid | outOfStep => exact taken (.of_same rfl rfl)
    | noSheet =>
      exact taken (IdsKept.trans (.ite (fun _ => (countMismatch_ids _).trans (finish_ids _)) fun _ => .refl _)
        (ids_blind.refuse _ _ _ _))
    | noBank => exact .fault _
    | mismatch raw e eye k =>
      have banked : IdsKept (freeBuffer p s) (setEntry e.id (fun x => { x with bank := some k }) (freeBuffer p s)) :=
        .of_same rfl rfl
      exact taken ((ids_blind.done ((banked.trans (rejectEntry_ids e.id .mismatch none _)).trans
        (countMismatch_ids _)) _ _ _).trans (finish_ids _))
    | good raw e eye k =>
      rw [bindGood_eq (reportReq p tag) k e raw (freeBuffer p s) rfl rfl]
      have bound (v : Verdict) : IdsKept (freeBuffer p s) (agreed e.id k v (freeBuffer p s)) :=
        (setMismatches_ids 0 _).trans (.of_same rfl rfl)
      exact taken ((ids_blind.done ((bound _).trans (applyRoute_ids e.id _ _)) _ _ _).trans (finish_ids _))

theorem execEntryEyeLeadingEdge_ids : OutcomeIds s (exec .entryEyeLeadingEdge s) := by
  rcases leadingEdge_cases s with ⟨-, is⟩ | ⟨-, -, is⟩ | ⟨-, -, -, is⟩ | ⟨-, -, -, is⟩ <;> rw [is]
  · exact .next (.refl s)
  · exact .next (.of_same rfl rfl)
  · refine .next (IdsKept.trans ?_ ((setMismatches_ids 3 _).trans (finish_ids _)))
    exact .of_same rfl rfl
  · exact .next (.of_same rfl rfl)

theorem execEntryEyeTrailingEdge_ids : OutcomeIds s (execEntryEyeTrailingEdge s) := by
  have measured : IdsKept s (measureNewest s) := by
    unfold measureNewest
    split
    · exact .of_same rfl rfl
    · exact .refl s
  exact .next (.ite (fun _ => .refl s) fun _ =>
    IdsKept.trans (.ite (fun _ => measured) fun _ => .refl s) (.of_same rfl rfl))

theorem execTravelPulse_ids : OutcomeIds s (execTravelPulse s) :=
  .next (IdsKept.trans (t := countTravel s) (.of_same rfl rfl) (duePassages_ids _))

theorem execLandedEyeBlocked_ids (b : BinNo) : OutcomeIds s (execLandedEyeBlocked b s) :=
  .next (.ite (fun _ => .refl s) fun _ => ((setBin_ids (.inr rfl)).trans (landedEdge_ids b _)).trans (finish_ids _))

/-- After a full reset no lift record is in use (R171). -/
theorem fullReset_ids (pins : Pins) : IdsKept s { State.resetWith pins with pending := s.pending } := by
  refine .of_holders (fun b => .inl ?_) fun n => .inl ?_
  · have bin : ({ State.resetWith pins with pending := s.pending } : State).bin b = Bin.reset pins.landed[b] :=
      Vector.getElem_ofFn b.isLt
    rw [bin]
    rfl
  · have slot : (State.resetWith pins).slots[n] = { state := .offline, eye := pins.slotEyes[n] } :=
      Vector.getElem_ofFn n.isLt
    rw [slot]
    rfl

/-! ### Every command, and the step -/

theorem exec_ids (c : Instr) : OutcomeIds s (exec c s) := by
  cases c with
  | fullReset pins => exact .next (fullReset_ids s pins)
  | sheetReport p tag payload => exact execSheetReport_ids s p tag payload
  | scanResync r =>
    exact .next (ids_blind.serve fun t => ids_blind.done (setMismatches_ids 0 t) _ _ _)
  | selectBank | readBank | eventRead | writeEjectTimeout | writePassLimit | writeHandoverTimeout =>
    refine .next (ids_blind.serve fun t => ?_)
    split <;> exact .of_same rfl rfl
  | validate | writeLine =>
    refine .next (ids_blind.serve fun t => ?_)
    split
    · split <;> exact .of_same rfl rfl
    · exact .of_same rfl rfl
  | readGrade =>
    refine .next (ids_blind.serve fun t => ?_)
    split
    · split
      · split <;> exact .of_same rfl rfl
      · exact .of_same rfl rfl
    · exact .of_same rfl rfl
  | tallyRead =>
    refine .next (ids_blind.serve fun t => ?_)
    split
    · exact .of_same rfl rfl
    · split <;> exact .of_same rfl rfl
  | tallyClear | writeEventMask =>
    refine .next (ids_blind.serve fun t => ?_)
    exact .of_same rfl rfl
  | writeClasses | writeWeights | writeLimits | writeGrade | deleteGrade =>
    refine .next (ids_blind.serveWrite fun t => ?_)
    split <;> exact .of_same rfl rfl
  | clearBank => exact .next (ids_blind.serveWrite fun t => .of_same rfl rfl)
  | activate r n => exact execActivate_ids r s n
  | writeGeometry r p v => exact execWriteGeometry_ids r s p v
  | clearBin r n => exact execClearBin_ids r s n
  | binOnline r n => exact execBinOnline_ids r s n
  | binOffline r n => exact execBinOffline_ids r s n
  | closeBin r n => exact execCloseBin_ids r s n
  | forceClose r code cls => exact execForceClose_ids r s code cls
  | clearOutfeed r => exact execClearOutfeed_ids r s
  | slotOnline r n => exact execSlotOnline_ids r s n
  | slotOffline r n => exact execSlotOffline_ids r s n
  | clearSlot r n => exact execClearSlot_ids r s n
  | pull r code bank cls nowait => exact execPull_ids r s code bank cls nowait
  | release r n => exact execRelease_ids r s n
  | cancel r n => exact execCancel_ids r s n
  | start r => exact execStart_ids r s
  | drain r => exact execDrain_ids r s
  | stop r => exact execStop_ids r s
  | restart r => exact execRestart_ids r s
  | queryTracker | queryBins | queryStoredLifts | queryPulls | queryOutfeed | querySettings | queryLines
  | queryRefusals | queryPorts | queryMode => exact .next (ids_blind.serveQuery _ _ _ _ _ _ s)
  | unknownRequest p tag what =>
    refine .next (ids_blind.takeFrame fun t => ?_)
    cases what with
    | kind => exact .of_same rfl rfl
    | subject => exact .ite (fun _ => .of_same rfl rfl) fun _ => .of_same rfl rfl
  | frameReceived | sendItem | interByteGapTimeout | partFrameEnds => exact .next (.of_same rfl rfl)
  | travelPulse => exact execTravelPulse_ids s
  | entryEyeLeadingEdge => exact execEntryEyeLeadingEdge_ids s
  | entryEyeTrailingEdge => exact execEntryEyeTrailingEdge_ids s
  | decisionPointPassage n => exact .next (passDecision_ids s n)
  | gateOpenPassage n => exact .next (passGateOpen_ids s n)
  | gateClosePassage n => exact .next (passGateClose_ids s n)
  | landingWindowEnd n => exact .next (passWindowEnd_ids s n)
  | redryGateOpenPassage n => exact .next (passRedryOpen_ids s n)
  | redryGateClosePassage n => exact .next (passRedryClose_ids s n)
  | beltEndPassage n => exact .next (passBeltEnd_ids s n)
  | eyeStuckPassage b => exact .next (passEyeStuck_ids s b)
  | landedEyeBlocked b => exact execLandedEyeBlocked_ids s b
  | landedEyeClears b => exact .next (setBin_ids (.inr rfl))
  | drainCompletion b => exact .next ((completeDrain_ids b s).trans (closeEvent_ids _))
  | endOfDrain => exact .next (finish_ids s)
  | ejectionStart => exact .next (ejectionTest_ids s)
  | slotEyeBlocked n => exact execSlotEyeBlocked_ids s n
  | slotEyeClears n => exact execSlotEyeClears_ids s n
  | ejectTimeout => exact .next (timeOutEjection_ids s)
  | handoverExpired line => exact .next (expireHandover_ids line s)

end

/-- Settles O42: a lift opens with an id that is not in use, and every other act leaves the records in use where they
are, moves one with its id, or frees it. -/
theorem liftIdsStayDistinct : Obligations.LiftIdsStayDistinct := by
  unfold Obligations.LiftIdsStayDistinct
  intro s t distinct h
  unfold step at h
  cases front : s.pending with
  | nil =>
    rw [front] at h
    cases h
    exact (tick_ids s).distinct distinct
  | cons c rest =>
    rw [front] at h
    have dequeued : IdsKept s { s with pending := rest } := .of_same rfl rfl
    exact (exec_ids _ c t h).distinct (dequeued.distinct distinct)

end Sys2Proof.Machine
end

section
/-! SUPPORT. The completion of a drain and FORCE_CLOSE (R121 to R127): what the end of the event leaves of a lift that
closes, and the lift that FORCE_CLOSE chooses; then the statements about them. -/

namespace Sys2Proof.Machine

/-! ### The completion of a drain (R121 to R124) -/

theorem exec_drainCompletion (b : BinNo) (s : State) :
    exec (.drainCompletion b) s = .next (closeEvent (completeDrain b s)) := rfl

theorem drainCompletion_beltFrame (b : BinNo) (s : State) : BeltFrame s (closeEvent (completeDrain b s)) :=
  (completeDrain_beltFrame b s).trans (closeEvent_beltFrame _)

/-- A closed lift waits at the end of the event as it is, or its ejection starts (R135). -/
theorem closeEvent_closed {s : State} {b : BinNo} {l : Lift} (waits : (s.bin b).state = .fullWait l) :
    ∃ m, (((closeEvent s).bin b).state = .fullWait m ∧ m.state = l.state ∧ m.slot = l.slot
        ∨ ((closeEvent s).bin b).state = .ejecting m ∧ m.state = .ejecting)
      ∧ ∃ state slot, m = { l with state := state, slot := slot } := by
  rcases closeEvent_bin_fullWait waits with is | ⟨n, is⟩
  · exact ⟨l, .inl ⟨is, rfl, rfl⟩, _, _, rfl⟩
  · exact ⟨_, .inr ⟨is, rfl⟩, _, _, rfl⟩

/-- Settles O41: the discard, the close, and an event that finds nothing to do. -/
theorem drainCompletes : Obligations.DrainCompletes := by
  intro b s
  have belt := drainCompletion_beltFrame b s
  rw [exec_drainCompletion]
  refine ⟨fun why l drains still empty => ?_, fun why l drains still landed => ?_, fun undue gates outfeed => ?_⟩
  · have ready := congrArg Bin.state (discardLift_bin b (.close why) l .ready s)
    rw [completeDrain_discards drains still empty] at belt ⊢
    refine ⟨_, rfl, belt, ?_, closeEvent_tracker _, closeEvent_tallies _, closeEvent_store _, closeEvent_events _⟩
    rw [closeEvent_bin_state (by simp [ready]), ready]
  · rw [completeDrain_closes drains still landed] at belt ⊢
    obtain ⟨m, ends, state, slot, rfl⟩ := closeEvent_closed (congrArg Bin.state (closeLift_bin b why l s))
    refine ⟨_, _, rfl, belt, ends, rfl, rfl, rfl, rfl, rfl, closeEvent_tracker _, closeEvent_store _, ?_,
      closeEvent_events _⟩
    rw [closeEvent_tallies]
    exact countClosed_closed s.tallies why
  · rw [completeDrain_undue undue, closeEvent, syncGates_of_upToDate gates, ejectionTest_of_started outfeed.started]

/-! ### The choice of FORCE_CLOSE (R126) -/

/-- A FILLING lift that FORCE_CLOSE may choose (R126). -/
def ForceCandidate (s : State) (code : Nat) (cls : Option Nat) (b : BinNo) (l : Lift) : Prop :=
  ∃ k g, s.banks.active = some k ∧ ruleIn s k code = some g
    ∧ (s.bin b).state = .filling l ∧ l.key.bank = k ∧ l.key.code = code
    ∧ (∀ c, cls = some c → l.key.cls = c) ∧ g.shortMin ≤ l.landed

/-- The first of the candidates that no earlier one equals and no later one exceeds. -/
theorem mostLanded_append_cons {before after : List (BinNo × Lift)} {x : BinNo × Lift}
    (earlier : ∀ y ∈ before, y.2.landed < x.2.landed) (later : ∀ y ∈ after, y.2.landed ≤ x.2.landed) :
    mostLanded (before ++ x :: after) = some x := by
  induction before with
  | nil =>
    rw [List.nil_append, mostLanded]
    split
    · rfl
    · next y chosen => rw [if_neg (Nat.not_lt.mpr (later y (mostLanded_mem chosen)))]
  | cons y before ih =>
    rw [List.cons_append, mostLanded, ih fun z mem => earlier z (List.mem_cons_of_mem y mem)]
    exact if_pos (earlier y List.mem_cons_self)

theorem allBins_ordered (b : BinNo) :
    ∃ before after, allBins = before ++ b :: after ∧ (∀ c ∈ before, c < b) ∧ ∀ c ∈ after, b < c := by
  refine ⟨allBins.take b, allBins.drop (b + 1), ?_⟩
  revert b
  decide

section
variable {s : State} {code : Nat} {cls : Option Nat}

theorem forceCandidate_eq_some {k : BankNo} {least : Nat} {b : BinNo} {x : BinNo × Lift} :
    forceCandidate s k code cls least b = some x
      ↔ x.1 = b ∧ (s.bin b).state = .filling x.2 ∧ x.2.key.bank = k ∧ x.2.key.code = code
        ∧ (∀ c, cls = some c → x.2.key.cls = c) ∧ least ≤ x.2.landed := by
  obtain ⟨c, m⟩ := x
  have classes (l : Lift) : optMatches cls l.key.cls = true ↔ ∀ c, cls = some c → l.key.cls = c := by
    rw [optMatches_iff]
    exact forall₂_congr fun _ _ => eq_comm
  unfold forceCandidate
  split
  · next l fills =>
    rw [Option.ite_none_right_eq_some, classes, fills]
    constructor
    · rintro ⟨fits, ⟨⟩⟩
      exact ⟨rfl, rfl, fits⟩
    · rintro ⟨rfl, ⟨⟩, fits⟩
      exact ⟨fits, rfl⟩
  · next other => exact ⟨nofun, fun ⟨_, fills, _⟩ => absurd fills (other m)⟩

theorem forceChoice_eq_none (none_fits : ∀ b l, ¬ForceCandidate s code cls b l) : forceChoice s code cls = none := by
  unfold forceChoice
  split
  · rfl
  · next k active =>
    split
    · rfl
    · next g rule =>
      have empty : allBins.filterMap (forceCandidate s k code cls g.shortMin) = [] := by
        refine List.filterMap_eq_nil_iff.mpr fun b _ => Option.eq_none_iff_forall_ne_some.mpr fun x is => ?_
        exact none_fits b x.2 ⟨k, g, active, rule, (forceCandidate_eq_some.mp is).2⟩
      rw [empty]
      rfl

/-- The candidate of the largest landed count, the lowest bin on a tie (R126). -/
theorem forceChoice_eq_some {b : BinNo} {l : Lift} (fits : ForceCandidate s code cls b l)
    (best : ∀ c m, ForceCandidate s code cls c m → m.landed < l.landed ∨ m.landed = l.landed ∧ b ≤ c) :
    forceChoice s code cls = some (b, l) := by
  obtain ⟨k, g, active, rule, own⟩ := fits
  have chosen : forceCandidate s k code cls g.shortMin b = some (b, l) := forceCandidate_eq_some.mpr ⟨rfl, own⟩
  have told {bins : List BinNo} {x : BinNo × Lift}
      (mem : x ∈ bins.filterMap (forceCandidate s k code cls g.shortMin)) :
      x.1 ∈ bins ∧ (x.2.landed < l.landed ∨ x.2.landed = l.landed ∧ b ≤ x.1) := by
    obtain ⟨c, there, is⟩ := List.mem_filterMap.mp mem
    obtain ⟨rfl, fits⟩ := forceCandidate_eq_some.mp is
    exact ⟨there, best x.1 x.2 ⟨k, g, active, rule, fits⟩⟩
  obtain ⟨before, after, split, lower, -⟩ := allBins_ordered b
  simp only [forceChoice, active, rule]
  rw [split, List.filterMap_append, List.filterMap_cons_some chosen]
  refine mostLanded_append_cons (fun x mem => ?_) fun x mem => ?_
  · obtain ⟨there, fewer | ⟨-, le⟩⟩ := told mem
    · exact fewer
    · exact absurd (lower x.1 there) (not_lt.mpr le)
  · obtain ⟨-, fewer | ⟨same, -⟩⟩ := told mem
    · exact fewer.le
    · exact same.le

end

/-! ### FORCE_CLOSE (R125, R127) -/

theorem forceFormed_iff (code : Nat) (cls : Option Nat) :
    (inRange 1 250 code && optInRange 0 3 cls) = true ↔ 1 ≤ code ∧ code ≤ 250 ∧ ∀ c, cls = some c → c ≤ 3 := by
  simp only [Bool.and_eq_true, inRange_iff, optInRange_iff, Nat.zero_le, true_and, and_assoc]

section
variable {r : Req} {i : LineNo} {code : Nat} {cls : Option Nat} {s : State}
  (h : LineAdmitted r i (.forceClose r code cls) s)
include h

theorem forceClose_denied (right : s.arbiter.settings[i].force = false) :
    exec (.forceClose r code cls) s
      = .next (refusedRecorded (.line i) r.tag .forceClose .denied (some (.grade code)) s) := by
  obtain ⟨port, tag, formed⟩ := r
  obtain ⟨rfl, taken, -⟩ := h
  refine congrArg _ ((take_taken taken).trans ?_)
  simp only [freeBuffer_arbiter, right]
  exact refuseRecorded_freeBuffer _ _ _ _ s

variable (right : s.arbiter.settings[i].force = true)
include right

theorem forceClose_invalid (bad : code = 0 ∨ 250 < code ∨ ∃ c, cls = some c ∧ 3 < c) :
    exec (.forceClose r code cls) s = .next (answered r.port (refusedItem r .forceClose .invalid) s) := by
  obtain ⟨port, tag, formed⟩ := r
  obtain ⟨rfl, taken, rfl⟩ := h
  have unformed : (inRange 1 250 code && optInRange 0 3 cls) = false := by
    refine Bool.eq_false_iff.mpr fun formed => ?_
    obtain ⟨low, high, classes⟩ := (forceFormed_iff code cls).mp formed
    rcases bad with zero | above | ⟨c, is, above⟩
    · omega
    · omega
    · have := classes c is
      omega
  refine congrArg _ ((take_taken taken).trans ?_)
  simp only [freeBuffer_arbiter, right, Bool.true_and, unformed, Bool.not_true, Bool.not_false, Bool.false_eq_true,
    ↓reduceIte]
  exact refuse_freeBuffer _ _ _ s

variable (formed : (inRange 1 250 code && optInRange 0 3 cls) = true)
include formed

theorem forceClose_noneReady (none_fits : forceChoice s code cls = none) :
    exec (.forceClose r code cls) s = .next (answered r.port (refusedItem r .forceClose .noneReady) s) := by
  obtain ⟨port, tag, _⟩ := r
  obtain ⟨rfl, taken, rfl⟩ := h
  have none_fits' : forceChoice (freeBuffer (.line i) s) code cls = none := none_fits
  refine congrArg _ ((take_taken taken).trans ?_)
  simp only [freeBuffer_arbiter, right, Bool.true_and, formed, none_fits', Bool.not_true, Bool.false_eq_true,
    ↓reduceIte]
  exact refuse_freeBuffer _ _ _ s

/-- The lift chosen is sent to its drain, which is completed when it is due; the reply tells the state its bin is then
in. -/
theorem forceClose_closes {b : BinNo} {l : Lift} (choice : forceChoice s code cls = some (b, l)) {x : BinState}
    (becomes : ((closeShort b l (freeBuffer r.port s)).bin b).state = x) :
    exec (.forceClose r code cls) s
      = .next (closeEvent (done r .forceClose (.forced b l.id l.key l.landed l.inFlight x.tag)
          (closeShort b l (freeBuffer r.port s)))) := by
  obtain ⟨port, tag, _⟩ := r
  obtain ⟨rfl, taken, rfl⟩ := h
  have choice' : forceChoice (freeBuffer (.line i) s) code cls = some (b, l) := choice
  refine congrArg _ ((take_taken taken).trans ?_)
  simp only [freeBuffer_arbiter, right, Bool.true_and, formed, choice', ← becomes, Bool.not_true, Bool.false_eq_true,
    ↓reduceIte]

end

/-- Settles O40: the refusals in their order, and the chosen lift's close as CLOSE_BIN closes it. -/
theorem forceCloseChoosesAndCloses : Obligations.ForceCloseChoosesAndCloses := by
  intro r i code cls s h
  refine ⟨forceClose_denied h, forceClose_invalid h, fun right low high classes => ?_⟩
  have formed := (forceFormed_iff code cls).mpr ⟨low, high, classes⟩
  refine ⟨fun none_fits => forceClose_noneReady h right formed (forceChoice_eq_none none_fits),
    fun b l fits best => ?_⟩
  have choice : forceChoice s code cls = some (b, l) := forceChoice_eq_some fits best
  refine ⟨fun flies => ?_, fun still landed => ?_⟩
  · have is := congrArg Bin.state (sentShort_bin b l (freeBuffer r.port s))
    obtain ⟨belt, tracker, events, tallies, store, -⟩ := answered_closeEvent r .forceClose
      (.forced b l.id l.key l.landed l.inFlight (.drainClose .short)) (sentShort_beltFrame b l (freeBuffer r.port s))
    have runs := forceClose_closes h right formed choice (by rw [closeShort_drains flies, is])
    rw [closeShort_drains flies] at runs
    exact ⟨_, runs, belt, answered_bin_settled is (by simp), tracker, events, tallies, store⟩
  · have is := congrArg Bin.state (closeLift_bin b .short l (sentShort b l (freeBuffer r.port s)))
    obtain ⟨belt, tracker, events, -, -, -⟩ := answered_closeEvent r .forceClose
      (.forced b l.id l.key l.landed 0 .fullWait)
      ((sentShort_beltFrame b l (freeBuffer r.port s)).trans (closeLift_beltFrame b .short l _))
    have runs := forceClose_closes h right formed choice (by rw [closeShort_closes still landed, is])
    rw [closeShort_closes still landed, still] at runs
    obtain ⟨m, delivers, state, slot, rfl⟩ := answered_bin_delivers (r := r) (k := .forceClose)
      (x := .forced b l.id l.key l.landed 0 .fullWait) is
    exact ⟨_, _, runs, belt, delivers, rfl, rfl, rfl, tracker, events⟩

end Sys2Proof.Machine
end

section
/-! SUPPORT. The agreement of the outfeed, the ejection queue, the bins and the slots, and the order of the
queue (R123, R131, R132): what the outfeed sees of a bin, the acts that keep it, and what each operation does to
it. -/

namespace Sys2Proof.Machine

/-! ### What the outfeed sees of a bin -/

/-- A bin's part in the outfeed's work: none, waiting in the ejection queue with its lift's close order, ejecting, or
out of order. -/
inductive OutfeedRole where
  | apart
  | waiting (order : SeqNo)
  | ejecting
  | faulted

/-- The bin has no part in the outfeed's work. -/
def OutfeedRole.isApart : OutfeedRole → Bool
  | .apart => true
  | _ => false

theorem OutfeedRole.isApart_iff (x : OutfeedRole) : x.isApart = true ↔ x = .apart := by
  cases x <;> simp [OutfeedRole.isApart]

/-- The part that a bin's state gives it (R131, R132). -/
def BinState.role : BinState → OutfeedRole
  | .fullWait l => .waiting (l.closeOrder.getD 0)
  | .ejecting _ => .ejecting
  | .faulted _ _ => .faulted
  | _ => .apart

/-- A bin's part in the outfeed's work in a state of the machine. -/
def roleOf (s : State) (b : BinNo) : OutfeedRole := (s.bin b).state.role

theorem isFullWait_iff (x : BinState) : x.isFullWait = true ↔ ∃ o, x.role = .waiting o := by
  cases x <;> simp [BinState.isFullWait, BinState.role]

theorem isEjecting_iff (x : BinState) : x.isEjecting = true ↔ x.role = .ejecting := by
  cases x <;> simp [BinState.isEjecting, BinState.role]

theorem role_mapLift {f : Lift → Lift} (same : ∀ l, (f l).closeOrder = l.closeOrder) (x : BinState) :
    (x.mapLift f).role = x.role := by
  cases x <;> simp [BinState.mapLift, BinState.role, same]

theorem role_commit (x : BinState) : x.commit.role = x.role := by
  cases x with
  | filling l =>
    rw [commit_filling]
    split <;> rfl
  | _ => rfl

theorem closeOrderOf_of_role {s : State} {b : BinNo} {o : SeqNo} (waits : roleOf s b = .waiting o) :
    closeOrderOf s b = o := by
  unfold roleOf BinState.role at waits
  unfold closeOrderOf
  split at waits <;> cases waits
  next l is => rw [is]; rfl

/-! ### The agreement, and the order of the queue -/

/-- The outfeed, the ejection queue, the bins and the slots agree (R131, R132). -/
structure OutfeedAgrees (s : State) : Prop where
  waiting : ∀ b, b ∈ s.outfeed.queue ↔ ∃ o, roleOf s b = .waiting o
  once : s.outfeed.queue.Nodup
  busyBin : ∀ b, roleOf s b = .ejecting ↔ ∃ n, s.outfeed.state = .busy b n
  busySlot : ∀ (b : BinNo) (n : SlotNo), s.slots[n].state = .reserved b ↔ s.outfeed.state = .busy b n

/-- No ejection that could start has been left unstarted (R135). -/
def EjectionStarted (s : State) : Prop :=
  ¬(s.outfeed.state = .free ∧ s.outfeed.queue ≠ [] ∧ ∃ n : SlotNo, s.slots[n].state = .empty)

theorem outfeedConsistent_iff (s : State) : OutfeedConsistent s ↔ OutfeedAgrees s ∧ EjectionStarted s := by
  constructor
  · intro h
    exact ⟨⟨fun b => (h.waiting b).trans (isFullWait_iff _), h.once,
      fun b => (isEjecting_iff _).symm.trans (h.busyBin b), h.busySlot⟩, h.started⟩
  · rintro ⟨h, started⟩
    exact ⟨fun b => (h.waiting b).trans (isFullWait_iff _).symm, h.once,
      fun b => (isEjecting_iff _).trans (h.busyBin b), h.busySlot, started⟩

/-- The number of bins that have no part in the outfeed's work: no more lifts can close before one is ejected or given
up. -/
def apartBins (s : State) : Nat := (Finset.univ.filter fun b => (roleOf s b).isApart).card

/-- The queue stands in the order of the close orders, and the orders can still be compared when each bin apart, and
`spare` lifts more, have closed (R123). -/
structure QueueOrdered (spare : Nat) (s : State) : Prop where
  inOrder : EjectionInOrder s
  room : ∀ b o, roleOf s b = .waiting o → (s.store.closeCounter - o).toNat + apartBins s + spare < 2 ^ 31
  few : apartBins s + spare < 2 ^ 31

theorem apartBins_le (s : State) : apartBins s ≤ 16 := (Finset.card_filter_le _ _).trans (by simp)

/-- An act keeps the agreement, and the order of the queue with `spent` close orders fewer to spare. -/
structure OutfeedKept (spent : Nat) (s t : State) : Prop where
  agrees : OutfeedAgrees s → OutfeedAgrees t
  ordered : ∀ spare, OutfeedAgrees s → QueueOrdered (spare + spent) s → QueueOrdered spare t

/-- A whole event also leaves no ejection unstarted. -/
structure OutfeedEvent (spent : Nat) (s t : State) : Prop extends OutfeedKept spent s t where
  started : OutfeedAgrees s → EjectionStarted s → EjectionStarted t

/-- An act leaves the outfeed, the queue, the bins' parts and the close orders alone, empties no slot and reserves
none. -/
structure OutfeedUnmoved (s t : State) : Prop where
  state : t.outfeed.state = s.outfeed.state
  queue : t.outfeed.queue = s.outfeed.queue
  roles : ∀ b, roleOf t b = roleOf s b
  counter : t.store.closeCounter = s.store.closeCounter
  reserved : ∀ (n : SlotNo) b, t.slots[n].state = .reserved b ↔ s.slots[n].state = .reserved b
  empties : ∀ n : SlotNo, t.slots[n].state = .empty → s.slots[n].state = .empty

section
variable {s t u : State}

theorem OutfeedAgrees.closeOrder_role (agrees : OutfeedAgrees s) {b : BinNo} (queued : b ∈ s.outfeed.queue) :
    roleOf s b = .waiting (closeOrderOf s b) := by
  obtain ⟨o, waits⟩ := (agrees.waiting b).mp queued
  rw [closeOrderOf_of_role waits, waits]

/-- A queue whose bins keep their parts, but for some that leave it, stays in order. -/
theorem EjectionInOrder.of_sublist (agrees : OutfeedAgrees s) (inOrder : EjectionInOrder s)
    (sub : t.outfeed.queue.Sublist s.outfeed.queue) (roles : ∀ b ∈ t.outfeed.queue, roleOf t b = roleOf s b) :
    EjectionInOrder t := by
  have same {b : BinNo} (queued : b ∈ t.outfeed.queue) : closeOrderOf t b = closeOrderOf s b :=
    closeOrderOf_of_role ((roles b queued).trans (agrees.closeOrder_role (sub.subset queued)))
  refine (List.Pairwise.sublist sub inOrder).imp_of_mem fun hb hc earlier => ?_
  rwa [same hb, same hc]

theorem apartBins_mono (apart : ∀ b, roleOf t b = .apart → roleOf s b = .apart) : apartBins t ≤ apartBins s :=
  Finset.card_le_card (Finset.monotone_filter_right _ fun b _ => by simpa only [OutfeedRole.isApart_iff] using apart b)

/-- One bin more that has no part in the outfeed's work. -/
theorem apartBins_le_succ {b : BinNo} (others : ∀ c, c ≠ b → roleOf t c = roleOf s c) :
    apartBins t ≤ apartBins s + 1 := by
  refine (Finset.card_le_card (t := insert b (Finset.univ.filter fun c => (roleOf s c).isApart)) fun c mem => ?_).trans
    (Finset.card_insert_le _ _)
  by_cases own : c = b
  · exact own ▸ Finset.mem_insert_self _ _
  · refine Finset.mem_insert_of_mem (Finset.mem_filter.mpr ⟨Finset.mem_univ c, ?_⟩)
    exact others c own ▸ (Finset.mem_filter.mp mem).2

theorem apartBins_lt {b : BinNo} (was : roleOf s b = .apart) (now : roleOf t b ≠ .apart)
    (others : ∀ c, c ≠ b → roleOf t c = roleOf s c) : apartBins t < apartBins s := by
  refine Finset.card_lt_card ⟨Finset.monotone_filter_right _ fun c _ => ?_, fun sub => ?_⟩
  · simp only [OutfeedRole.isApart_iff]
    by_cases own : c = b
    · exact fun _ => own ▸ was
    · exact fun apart => (others c own).symm.trans apart
  · have counted := sub (Finset.mem_filter.mpr ⟨Finset.mem_univ b, (OutfeedRole.isApart_iff _).mpr was⟩)
    exact now ((OutfeedRole.isApart_iff _).mp (Finset.mem_filter.mp counted).2)

namespace OutfeedUnmoved

theorem refl (s : State) : OutfeedUnmoved s s :=
  ⟨rfl, rfl, fun _ => rfl, rfl, fun _ _ => Iff.rfl, fun _ => id⟩

theorem trans (h : OutfeedUnmoved s t) (k : OutfeedUnmoved t u) : OutfeedUnmoved s u where
  state := k.state.trans h.state
  queue := k.queue.trans h.queue
  roles b := (k.roles b).trans (h.roles b)
  counter := k.counter.trans h.counter
  reserved n b := (k.reserved n b).trans (h.reserved n b)
  empties n x := h.empties n (k.empties n x)

theorem foldl {α : Type} (f : State → α → State) (h : ∀ s a, OutfeedUnmoved s (f s a)) (l : List α) (s : State) :
    OutfeedUnmoved s (l.foldl f s) :=
  foldl_rel OutfeedUnmoved refl (fun _ _ _ => trans) f h l s

theorem ite {c : Prop} [Decidable c] (h : c → OutfeedUnmoved s t) (k : ¬c → OutfeedUnmoved s u) :
    OutfeedUnmoved s (if c then t else u) :=
  rel_ite h k

theorem roles_of_bins (bins : t.bins = s.bins) (b : BinNo) : roleOf t b = roleOf s b := by
  rw [roleOf, roleOf, State.bin, State.bin, bins]

theorem of_bins (roles : ∀ b, roleOf t b = roleOf s b) (outfeed : t.outfeed = s.outfeed) (slots : t.slots = s.slots)
    (store : t.store.closeCounter = s.store.closeCounter) : OutfeedUnmoved s t :=
  ⟨by rw [outfeed], by rw [outfeed], roles, store, fun _ _ => by rw [slots], fun _ => by rw [slots]; exact id⟩

theorem of_same (bins : t.bins = s.bins) (outfeed : t.outfeed = s.outfeed) (slots : t.slots = s.slots)
    (store : t.store = s.store) : OutfeedUnmoved s t :=
  of_bins (roles_of_bins bins) outfeed slots (by rw [store])

/-- What follows the act leaves the outfeed, the bins, the slots and the lift store alone. -/
theorem same (h : OutfeedUnmoved s t) (bins : u.bins = t.bins) (outfeed : u.outfeed = t.outfeed)
    (slots : u.slots = t.slots) (store : u.store = t.store) : OutfeedUnmoved s u :=
  h.trans (of_same bins outfeed slots store)

theorem agrees (h : OutfeedUnmoved s t) (a : OutfeedAgrees s) : OutfeedAgrees t where
  waiting b := by rw [h.queue, h.roles, a.waiting]
  once := h.queue ▸ a.once
  busyBin b := by rw [h.roles, h.state, a.busyBin]
  busySlot b n := by rw [h.reserved, h.state, a.busySlot]

theorem event (h : OutfeedUnmoved s t) : OutfeedEvent 0 s t where
  agrees := h.agrees
  ordered spare a k := by
    have same : apartBins t = apartBins s := by simp only [apartBins, h.roles]
    refine ⟨k.inOrder.of_sublist a (h.queue ▸ .refl _) fun b _ => h.roles b, fun b o waits => ?_, same ▸ k.few⟩
    rw [h.roles] at waits
    rw [h.counter, same]
    exact k.room b o waits
  started _ k := by
    rintro ⟨free, queued, n, empty⟩
    exact k ⟨h.state ▸ free, h.queue ▸ queued, n, h.empties n empty⟩

theorem kept (h : OutfeedUnmoved s t) : OutfeedKept 0 s t := h.event.toOutfeedKept

end OutfeedUnmoved

namespace OutfeedKept

theorem refl (s : State) : OutfeedKept 0 s s := (OutfeedUnmoved.refl s).kept

theorem trans {m n : Nat} (h : OutfeedKept m s t) (k : OutfeedKept n t u) : OutfeedKept (m + n) s u where
  agrees a := k.agrees (h.agrees a)
  ordered spare a o := k.ordered spare (h.agrees a) (h.ordered (spare + n) a (by rwa [Nat.add_assoc, Nat.add_comm n m]))

/-- What follows the act leaves the outfeed, the bins, the slots and the lift store alone. -/
theorem same {spent : Nat} (h : OutfeedKept spent s t) (bins : u.bins = t.bins) (outfeed : u.outfeed = t.outfeed)
    (slots : u.slots = t.slots) (store : u.store = t.store) : OutfeedKept spent s u :=
  h.trans (OutfeedUnmoved.of_same bins outfeed slots store).kept

theorem foldl {α : Type} (f : State → α → State) (h : ∀ s a, OutfeedKept 0 s (f s a)) (l : List α) (s : State) :
    OutfeedKept 0 s (l.foldl f s) :=
  foldl_rel (OutfeedKept 0) refl (fun _ _ _ => trans) f h l s

theorem ite {c : Prop} [Decidable c] (h : c → OutfeedKept 0 s t) (k : ¬c → OutfeedKept 0 s u) :
    OutfeedKept 0 s (if c then t else u) :=
  rel_ite h k

/-- Bins that leave the ejection queue, or that find their parts in the outfeed's work again, keep it in order. -/
theorem of_leaving {spent : Nat} (agrees : OutfeedAgrees s → OutfeedAgrees t)
    (queue : t.outfeed.queue.Sublist s.outfeed.queue)
    (roles : OutfeedAgrees s → ∀ b o, roleOf t b = .waiting o → roleOf s b = .waiting o)
    (apart : apartBins t ≤ apartBins s + spent) (counter : t.store.closeCounter = s.store.closeCounter) :
    OutfeedKept spent s t := by
  refine ⟨agrees, fun spare a k => ⟨k.inOrder.of_sublist a queue fun b queued => ?_, fun b o waits => ?_, ?_⟩⟩
  · have waits := (agrees a).closeOrder_role queued
    rw [waits, roles a b _ waits]
  · have := k.room b o (roles a b o waits)
    rw [counter]
    omega
  · have := k.few
    omega

end OutfeedKept

namespace OutfeedEvent

theorem refl (s : State) : OutfeedEvent 0 s s := (OutfeedUnmoved.refl s).event

theorem trans {m n : Nat} (h : OutfeedEvent m s t) (k : OutfeedEvent n t u) : OutfeedEvent (m + n) s u :=
  ⟨h.toOutfeedKept.trans k.toOutfeedKept, fun a x => k.started (h.agrees a) (h.started a x)⟩

theorem foldl {α : Type} (f : State → α → State) (h : ∀ s a, OutfeedEvent 0 s (f s a)) (l : List α) (s : State) :
    OutfeedEvent 0 s (l.foldl f s) :=
  foldl_rel (OutfeedEvent 0) refl (fun _ _ _ => trans) f h l s

theorem ite {c : Prop} [Decidable c] (h : c → OutfeedEvent 0 s t) (k : ¬c → OutfeedEvent 0 s u) :
    OutfeedEvent 0 s (if c then t else u) :=
  rel_ite h k

end OutfeedEvent

end

end Sys2Proof.Machine
end

section
/-! SUPPORT. The bins and the ejection queue: the close orders that can be compared (R123), what leaves each
bin's part in the outfeed's work alone, and a bin that joins the queue at its lift's place (R131). -/

namespace Sys2Proof.Machine

/-! ### The order of close orders that can be compared (R123) -/

/-- Of two close orders that lie within half the counter's range before the same count, the earlier lies further
back. -/
theorem seqEarlier_iff_of_recent {k a b : SeqNo} (ha : (k - a).toNat < 2 ^ 31) (hb : (k - b).toNat < 2 ^ 31) :
    seqEarlier a b = true ↔ (k - b).toNat < (k - a).toNat := by
  have apart : b - a = (k - a) - (k - b) := by abel
  simp only [seqEarlier, Bool.and_eq_true, decide_eq_true_eq]
  rw [apart, BitVec.toNat_sub]
  generalize (k - a).toNat = x at *
  generalize (k - b).toNat = y at *
  omega

theorem toNat_succ_sub {k o : SeqNo} (recent : (k - o).toNat < 2 ^ 31) : (k + 1 - o).toNat = (k - o).toNat + 1 := by
  have next : k + 1 - o = (k - o) + 1 := by abel
  rw [next, BitVec.toNat_add]
  generalize (k - o).toNat = x at *
  simp
  omega

/-- An item placed into a list that stands in the order of a measure, the largest first. -/
theorem pairwise_insertBefore {α : Type} {d : α → Nat} {before : α → Bool} {a : α} {l : List α}
    (ordered : l.Pairwise fun x y => d y < d x) (test : ∀ x ∈ l, before x = true ↔ d x < d a)
    (other : ∀ x ∈ l, d x ≠ d a) : (insertBefore before a l).Pairwise fun x y => d y < d x := by
  induction l with
  | nil => exact List.pairwise_singleton _ _
  | cons x xs ih =>
    obtain ⟨first, rest⟩ := List.pairwise_cons.mp ordered
    obtain ⟨test_x, test_xs⟩ := List.forall_mem_cons.mp test
    obtain ⟨other_x, other_xs⟩ := List.forall_mem_cons.mp other
    unfold insertBefore
    split
    · next goes =>
      have less := test_x.mp goes
      refine List.pairwise_cons.mpr ⟨?_, ordered⟩
      exact List.forall_mem_cons.mpr ⟨less, fun y mem => (first y mem).trans less⟩
    · next stays =>
      have more : d a < d x := lt_of_le_of_ne (Nat.not_lt.mp fun less => stays (test_x.mpr less)) (Ne.symm other_x)
      refine List.pairwise_cons.mpr ⟨fun y mem => ?_, ih rest test_xs other_xs⟩
      rcases (mem_insertBefore _ _ _ _).mp mem with rfl | mem
      · exact more
      · exact first y mem

/-! ### One bin, and all bins -/

section
variable {s : State} {b : BinNo}

theorem roleOf_setBin (b c : BinNo) (f : Bin → Bin) (s : State) :
    roleOf (setBin b f s) c = if c = b then (f (s.bin b)).state.role else roleOf s c := by
  rw [roleOf, setBin_bin]
  split <;> rfl

theorem setBin_unmoved {f : Bin → Bin} (same : (f (s.bin b)).state.role = roleOf s b) :
    OutfeedUnmoved s (setBin b f s) := by
  refine .of_bins (fun c => ?_) rfl rfl rfl
  rw [roleOf_setBin]
  split
  · next own => rw [own, same]
  · rfl

theorem mapBinLift_unmoved (b : BinNo) {f : Lift → Lift} (same : ∀ l, (f l).closeOrder = l.closeOrder) (s : State) :
    OutfeedUnmoved s (mapBinLift b f s) :=
  setBin_unmoved (role_mapLift same _)

theorem syncGates_unmoved (s : State) : OutfeedUnmoved s (syncGates s) :=
  .of_bins (fun b => by rw [roleOf, syncGates_bin_state, roleOf]) rfl rfl rfl

theorem drainBins_unmoved (why : CloseReason) (p : BinNo → Lift → Bool) (s : State) :
    OutfeedUnmoved s (drainBins why p s) := by
  refine .of_bins (fun b => ?_) rfl rfl rfl
  rw [roleOf, roleOf]
  by_cases fills : ∃ l, (s.bin b).state = .filling l
  · obtain ⟨l, fills⟩ := fills
    rw [drainBins_bin_filling why p fills, fills]
    split <;> rfl
  · rw [drainBins_bin why p fun l e => fills ⟨l, e⟩]

theorem setMode_unmoved (m : SortMode) (s : State) : OutfeedUnmoved s (setMode m s) :=
  .ite (fun _ => .refl s) fun _ => .of_same rfl rfl rfl rfl

theorem discardLift_unmoved (why : DiscardReason) (l : Lift) {x : BinState} (same : x.role = roleOf s b) :
    OutfeedUnmoved s (discardLift b why l x s) :=
  (setBin_unmoved (f := fun y => { y with state := x }) same).trans (.of_same rfl rfl rfl rfl)

/-! ### A bin joins the ejection queue (R131) -/

theorem roleOf_waitForOutfeed (b c : BinNo) (l : Lift) (s : State) :
    roleOf (waitForOutfeed b l s) c = if c = b then .waiting (l.closeOrder.getD 0) else roleOf s c :=
  roleOf_setBin b c (fun x => { x with state := .fullWait l }) s

theorem waitForOutfeed_queue (b : BinNo) (l : Lift) (s : State) :
    (waitForOutfeed b l s).outfeed.queue
      = insertBefore
          (fun c => seqEarlier (closeOrderOf (waitForOutfeed b l s) b) (closeOrderOf (waitForOutfeed b l s) c)) b
          s.outfeed.queue :=
  rfl

section
variable {l : Lift} (idle : roleOf s b = .apart ∨ roleOf s b = .faulted)
include idle

theorem idle_not_queued (agrees : OutfeedAgrees s) : b ∉ s.outfeed.queue := by
  intro queued
  obtain ⟨o, waits⟩ := (agrees.waiting b).mp queued
  rcases idle with is | is <;> cases is.symm.trans waits

theorem waitForOutfeed_agrees (agrees : OutfeedAgrees s) : OutfeedAgrees (waitForOutfeed b l s) where
  waiting c := by
    rw [waitForOutfeed_queue, mem_insertBefore, roleOf_waitForOutfeed, agrees.waiting]
    by_cases own : c = b <;> simp [own]
  once := by
    rw [waitForOutfeed_queue]
    exact insertBefore_nodup _ _ _ agrees.once (idle_not_queued idle agrees)
  busyBin c := by
    rw [roleOf_waitForOutfeed]
    by_cases own : c = b
    · have not_busy : ¬∃ n, s.outfeed.state = .busy b n := by
        rw [← agrees.busyBin]
        rcases idle with is | is <;> rw [is] <;> nofun
      rw [if_pos own, own]
      exact ⟨nofun, fun busy => absurd busy not_busy⟩
    · rw [if_neg own]
      exact agrees.busyBin c
  busySlot := agrees.busySlot

/-- A bin that joins takes the place of its close order, when that can be compared with the others'. -/
theorem waitForOutfeed_inOrder (agrees : OutfeedAgrees s) (inOrder : EjectionInOrder s) {k : SeqNo}
    (own : (k - l.closeOrder.getD 0).toNat < 2 ^ 31)
    (recent : ∀ c o, roleOf s c = .waiting o → (k - o).toNat < 2 ^ 31 ∧ o ≠ l.closeOrder.getD 0) :
    EjectionInOrder (waitForOutfeed b l s) := by
  have agrees' := waitForOutfeed_agrees (l := l) idle agrees
  set t := waitForOutfeed b l s with ht
  have order_own : closeOrderOf t b = l.closeOrder.getD 0 :=
    closeOrderOf_of_role (by rw [ht, roleOf_waitForOutfeed, if_pos rfl])
  have order_other {c : BinNo} (queued : c ∈ s.outfeed.queue) :
      roleOf s c = .waiting (closeOrderOf s c) ∧ closeOrderOf t c = closeOrderOf s c := by
    have waits := agrees.closeOrder_role queued
    have apart : c ≠ b := fun is => idle_not_queued idle agrees (is ▸ queued)
    exact ⟨waits, closeOrderOf_of_role (by rw [ht, roleOf_waitForOutfeed, if_neg apart, waits])⟩
  have within {c : BinNo} (queued : c ∈ t.outfeed.queue) : (k - closeOrderOf t c).toNat < 2 ^ 31 := by
    rw [ht, waitForOutfeed_queue, mem_insertBefore] at queued
    rcases queued with rfl | queued
    · rwa [order_own]
    · obtain ⟨waits, same⟩ := order_other queued
      rw [same]
      exact (recent c _ waits).1
  have joined {c : BinNo} (queued : c ∈ s.outfeed.queue) : c ∈ t.outfeed.queue := by
    rw [ht, waitForOutfeed_queue, mem_insertBefore]
    exact .inr queued
  have own_joined : b ∈ t.outfeed.queue := by
    rw [ht, waitForOutfeed_queue, mem_insertBefore]
    exact .inl rfl
  have measured : t.outfeed.queue.Pairwise
      fun x y => (k - closeOrderOf t y).toNat < (k - closeOrderOf t x).toNat := by
    rw [ht, waitForOutfeed_queue, ← ht]
    refine pairwise_insertBefore (inOrder.imp_of_mem fun hx hy earlier => ?_) (fun c queued => ?_)
      fun c queued same => ?_
    · rw [← (order_other hx).2, ← (order_other hy).2] at earlier
      exact (seqEarlier_iff_of_recent (within (joined hx)) (within (joined hy))).mp earlier
    · exact seqEarlier_iff_of_recent (within own_joined) (within (joined queued))
    · obtain ⟨waits, is⟩ := order_other queued
      refine (recent c _ waits).2 ?_
      rw [← is, ← order_own]
      exact sub_right_injective (BitVec.eq_of_toNat_eq same)
  exact measured.imp_of_mem fun hx hy closer => (seqEarlier_iff_of_recent (within hx) (within hy)).mpr closer

end

end

end Sys2Proof.Machine
end

section
/-! SUPPORT. The lifts that close, the ejections that start and are completed, and the ends of an event: each
keeps the agreement of the outfeed and the order of its queue (R121 to R124, R135, R137). -/

namespace Sys2Proof.Machine

/-! ### A lift closes (R121 to R124) -/

section
variable {b : BinNo} {l : Lift} {s : State}

theorem roleOf_closeLift (b c : BinNo) (why : CloseReason) (l : Lift) (s : State) :
    roleOf (closeLift b why l s) c = if c = b then .waiting (s.store.closeCounter + 1) else roleOf s c :=
  roleOf_waitForOutfeed b c (l.closeAs why (s.store.closeCounter + 1)) _

/-- The lift that closes takes the latest close order, and joins at the end of the queue. -/
theorem closeLift_kept_of_pays {spent : Nat} (why : CloseReason) (idle : roleOf s b = .apart ∨ roleOf s b = .faulted)
    (pays : apartBins (closeLift b why l s) + 1 ≤ apartBins s + spent) :
    OutfeedKept spent s (closeLift b why l s) := by
  set u : State := raise (.liftClosed l.id b why l.landed l.mean l.moistureMax)
    (tally (fun t => t.countClosed why) { s with store := { s.store with closeCounter := s.store.closeCounter + 1 } })
    with hu
  have is : closeLift b why l s = waitForOutfeed b (l.closeAs why (s.store.closeCounter + 1)) u := rfl
  have agrees (a : OutfeedAgrees s) : OutfeedAgrees u := ⟨a.waiting, a.once, a.busyBin, a.busySlot⟩
  refine ⟨fun a => is ▸ waitForOutfeed_agrees idle (agrees a), fun spare a k => ?_⟩
  have later {c : BinNo} {o : SeqNo} (waits : roleOf s c = .waiting o) :
      (s.store.closeCounter + 1 - o).toNat = (s.store.closeCounter - o).toNat + 1
      ∧ (s.store.closeCounter - o).toNat + 1 + apartBins (closeLift b why l s) + spare < 2 ^ 31 := by
    have := k.room c o waits
    exact ⟨toNat_succ_sub (by omega), by omega⟩
  have inOrder : EjectionInOrder (closeLift b why l s) := by
    rw [is]
    refine waitForOutfeed_inOrder (k := s.store.closeCounter + 1) idle (agrees a) k.inOrder ?_ fun c o waits => ?_
    · simp [Lift.closeAs]
    · obtain ⟨next, room⟩ := later waits
      refine ⟨by omega, ?_⟩
      rintro rfl
      simp [Lift.closeAs] at next
  refine ⟨inOrder, fun c o waits => ?_, by have := k.few; omega⟩
  have counter : (closeLift b why l s).store.closeCounter = s.store.closeCounter + 1 := rfl
  rw [roleOf_closeLift] at waits
  rw [counter]
  split at waits
  · cases waits
    have := k.few
    simp
    omega
  · obtain ⟨next, room⟩ := later waits
    omega

theorem closeLift_kept (why : CloseReason) (apart : roleOf s b = .apart) : OutfeedKept 0 s (closeLift b why l s) := by
  refine closeLift_kept_of_pays why (.inl apart) (apartBins_lt apart ?_ fun c other => ?_)
  · rw [roleOf_closeLift, if_pos rfl]; nofun
  · rw [roleOf_closeLift, if_neg other]

/-- The lift of a FAULTED bin closes (R109). -/
theorem closeLift_kept_of_faulted (why : CloseReason) (faulted : roleOf s b = .faulted) :
    OutfeedKept 1 s (closeLift b why l s) := by
  refine closeLift_kept_of_pays why (.inr faulted) (Nat.add_le_add_right (apartBins_mono fun c apart => ?_) 1)
  rw [roleOf_closeLift] at apart
  split at apart
  · cases apart
  · exact apart

theorem completeDrain_kept (b : BinNo) (s : State) : OutfeedKept 0 s (completeDrain b s) := by
  rcases completeDrain_cases b s with ⟨e, -⟩ | ⟨why, l, drains, -, -, e⟩ | ⟨why, l, drains, -, -, e⟩ <;> rw [e]
  · exact .refl s
  · exact (discardLift_unmoved _ _ (by rw [roleOf, drains]; rfl)).kept
  · exact closeLift_kept why (by rw [roleOf, drains]; rfl)

theorem completeDrains_kept (s : State) : OutfeedKept 0 s (completeDrains s) :=
  .foldl _ (fun s b => completeDrain_kept b s) _ s

end

/-! ### An ejection starts and is completed (R135, R137) -/

section
variable {s : State} {b : BinNo} {l : Lift} {n : SlotNo}

theorem roleOf_startEjection (b c : BinNo) (l : Lift) (n : SlotNo) (s : State) :
    roleOf (startEjection b l n s) c = if c = b then .ejecting else roleOf s c := by
  rw [roleOf, startEjection_bin]
  split <;> rfl

theorem startEjection_slots (b : BinNo) (l : Lift) (n m : SlotNo) (s : State) :
    (startEjection b l n s).slots[m] = if m = n then { s.slots[n] with state := .reserved b } else s.slots[m] :=
  vset_get _ _ _ _

/-- With the outfeed FREE no bin ejects and no slot is reserved. -/
theorem OutfeedAgrees.of_free (agrees : OutfeedAgrees s) (free : s.outfeed.state = .free) :
    (∀ b, roleOf s b ≠ .ejecting) ∧ ∀ (n : SlotNo) b, s.slots[n].state ≠ .reserved b := by
  refine ⟨fun b is => ?_, fun n b is => ?_⟩
  · obtain ⟨n, busy⟩ := (agrees.busyBin b).mp is
    cases free.symm.trans busy
  · cases free.symm.trans ((agrees.busySlot b n).mp is)

theorem startEjection_kept {rest : List BinNo} (free : s.outfeed.state = .free) (queue : s.outfeed.queue = b :: rest) :
    OutfeedKept 0 s (startEjection b l n s) := by
  have queue' : (startEjection b l n s).outfeed.queue = rest := congrArg List.tail queue
  have state : (startEjection b l n s).outfeed.state = .busy b n := rfl
  have role (c : BinNo) := roleOf_startEjection b c l n s
  refine .of_leaving (fun a => ?_) (by rw [queue', queue]; exact List.sublist_cons_self _ _) (fun a c o waits => ?_)
    (apartBins_mono fun c apart => ?_) rfl
  · obtain ⟨not_ejecting, not_reserved⟩ := a.of_free free
    obtain ⟨fresh, once⟩ := List.nodup_cons.mp (queue ▸ a.once)
    refine ⟨fun c => ?_, queue' ▸ once, fun c => ?_, fun c m => ?_⟩
    · rw [queue', role]
      by_cases own : c = b
      · simp [own, fresh]
      · rw [if_neg own, ← a.waiting, queue]
        simp [own]
    · rw [state, role]
      by_cases own : c = b
      · simp [own]
      · rw [if_neg own]
        exact ⟨fun is => absurd is (not_ejecting c), fun ⟨m, is⟩ => absurd (by cases is; rfl) own⟩
    · rw [state, startEjection_slots]
      by_cases own : m = n
      · simp [own]
      · rw [if_neg own]
        exact ⟨fun is => absurd is (not_reserved m c), fun is => absurd (by cases is; rfl) own⟩
  · rw [role] at waits
    split at waits
    · cases waits
    · exact waits
  · rw [role] at apart
    split at apart
    · cases apart
    · exact apart

theorem ejectionTest_kept (s : State) : OutfeedKept 0 s (ejectionTest s) := by
  rcases ejectionTest_cases s with e | ⟨b, rest, n, l, free, queue, -, -, e⟩ <;> rw [e]
  · exact .refl s
  · exact startEjection_kept free queue

/-- After the test no ejection that could start is left unstarted (R135). -/
theorem ejectionTest_started (agrees : OutfeedAgrees s) : EjectionStarted (ejectionTest s) := by
  rcases ejectionTest_cases s with e | ⟨b, rest, n, l, -, -, -, -, e⟩
  · rintro ⟨free, queued, n, empty⟩
    rw [e] at free queued empty
    obtain ⟨b, rest, queue⟩ := List.exists_cons_of_ne_nil queued
    obtain ⟨m, lowest⟩ : ∃ m, lowestEmpty s = some m := by
      refine Option.ne_none_iff_exists'.mp fun none_empty => ?_
      exact lowestEmpty_none none_empty n empty
    obtain ⟨l, waits⟩ : ∃ l, (s.bin b).state = .fullWait l := by
      obtain ⟨o, waits⟩ := (agrees.waiting b).mp (queue ▸ List.mem_cons_self)
      unfold roleOf BinState.role at waits
      split at waits <;> cases waits
      exact ⟨_, ‹_›⟩
    have starts : ejectionTest s = startEjection b l m s := by
      unfold ejectionTest
      simp only [free, queue, lowest, waits]
    have state := congrArg (fun t : State => t.outfeed.state) (e.symm.trans starts)
    cases free.symm.trans state
  · rw [e]
    rintro ⟨free, -⟩
    cases free

theorem closeEvent_kept (s : State) : OutfeedKept 0 s (closeEvent s) :=
  (syncGates_unmoved s).kept.trans (ejectionTest_kept _)

/-- The act of an event, with the event's end. -/
theorem OutfeedKept.closeEvent {spent : Nat} {t : State} (h : OutfeedKept spent s t) :
    OutfeedEvent spent s (closeEvent t) :=
  ⟨h.trans (closeEvent_kept t), fun a _ => ejectionTest_started ((syncGates_unmoved t).agrees (h.agrees a))⟩

theorem endDrainIfDue_kept (s : State) : OutfeedKept 0 s (endDrainIfDue s) := by
  rcases endDrainIfDue_cases s with ⟨-, -, e⟩ | ⟨-, e⟩ <;> rw [e]
  · exact ((drainBins_unmoved _ _ s).kept.trans (completeDrains_kept _)).trans (setMode_unmoved _ _).kept
  · exact .refl s

theorem OutfeedKept.finish {spent : Nat} {t : State} (h : OutfeedKept spent s t) : OutfeedEvent spent s (finish t) :=
  (h.trans (endDrainIfDue_kept t)).closeEvent

theorem finish_event (s : State) : OutfeedEvent 0 s (finish s) := (OutfeedKept.refl s).finish

/-- The completed ejection frees the outfeed, its bin and, for a lift, its slot (R137). -/
theorem storeLift_kept (busy : s.outfeed.state = .busy b n) : OutfeedKept 1 s (storeLift b n l s) := by
  have role (c : BinNo) : roleOf (storeLift b n l s) c = if c = b then .apart else roleOf s c :=
    roleOf_setBin b c (fun x => { x with state := .ready, eject := false })
      { s with outfeed := { s.outfeed with state := .free, timer := none } }
  have state : (storeLift b n l s).outfeed.state = .free := rfl
  have slot (m : SlotNo) : (storeLift b n l s).slots[m]
      = if m = n then { s.slots[n] with state := .holding { l with state := .stored } } else s.slots[m] :=
    vset_get _ _ _ _
  refine .of_leaving (fun a => ⟨fun c => ?_, a.once, fun c => ?_, fun c m => ?_⟩) (.refl _) (fun a c o waits => ?_)
    (apartBins_le_succ (b := b) fun c other => by rw [role, if_neg other]) rfl
  · refine (a.waiting c).trans ?_
    rw [role]
    by_cases own : c = b
    · have ejects : roleOf s b = .ejecting := (a.busyBin b).mpr ⟨n, busy⟩
      simp [own, ejects]
    · rw [if_neg own]
  · rw [state, role]
    by_cases own : c = b
    · simp [own]
    · rw [if_neg own, a.busyBin, busy]
      simp [Ne.symm own]
  · rw [state, slot]
    by_cases own : m = n
    · simp [own]
    · rw [if_neg own, a.busySlot, busy]
      simp [Ne.symm own]
  · rw [role] at waits
    split at waits
    · cases waits
    · exact waits

end

end Sys2Proof.Machine
end

section
/-! SUPPORT. The slots, the entries, the faults of the bins, the landings, the passages, the pulls and one
millisecond: each keeps the agreement of the outfeed and the order of its queue (R51, R92, R93, R97 to R106,
R138 to R143). -/

namespace Sys2Proof.Machine

/-! ### Slots emptied, and the outfeed cleared (R139, R142, R143) -/

section
variable {s : State}

/-- A slot that is not reserved is emptied. -/
theorem emptySlot_kept {n : SlotNo} (unreserved : ∀ b, s.slots[n].state ≠ .reserved b) :
    OutfeedKept 0 s (setSlot n (fun x => { x with state := .empty }) s) := by
  refine .of_leaving (fun a => ⟨a.waiting, a.once, a.busyBin, fun c m => ?_⟩) (.refl _) (fun _ _ _ => id) le_rfl rfl
  rw [setSlot_slots, vset_get]
  split
  · next own => exact ⟨nofun, fun busy => absurd ((a.busySlot c m).mpr busy) (own ▸ unreserved c)⟩
  · exact a.busySlot c m

theorem clearOutfeed_kept (blocked : s.outfeed.state = .blocked) :
    OutfeedKept 0 s { s with outfeed := { s.outfeed with state := .free } } := by
  refine .of_leaving
    (fun a => ⟨a.waiting, a.once, fun b => (a.busyBin b).trans ?_, fun b n => (a.busySlot b n).trans ?_⟩)
    (.refl _) (fun _ _ _ => id) le_rfl rfl <;> simp [blocked]

/-- A FAULTED bin is given up (R109, R111). -/
theorem setBin_apart_kept {b : BinNo} {f : Bin → Bin} (faulted : roleOf s b = .faulted)
    (apart : (f (s.bin b)).state.role = .apart) : OutfeedKept 1 s (setBin b f s) := by
  have role (c : BinNo) : roleOf (setBin b f s) c = if c = b then .apart else roleOf s c := by
    rw [roleOf_setBin, apart]
  refine .of_leaving
    (fun a => ⟨fun c => (a.waiting c).trans ?_, a.once, fun c => Iff.trans ?_ (a.busyBin c), a.busySlot⟩)
    (.refl _) (fun a c o waits => ?_) (apartBins_le_succ (b := b) fun c other => by rw [role, if_neg other]) rfl
  · rw [role]
    by_cases own : c = b <;> simp [own, faulted]
  · rw [role]
    by_cases own : c = b <;> simp [own, faulted]
  · rw [role] at waits
    split at waits
    · cases waits
    · exact waits

end

/-! ### The entries, and routes (chapters 3 and 4) -/

theorem dropAtBeltEnd_unmoved (n : EntryId) (s : State) : OutfeedUnmoved s (dropAtBeltEnd n s) := by
  rcases dropAtBeltEnd_cases n s with e | ⟨x, -, -, -, e⟩ <;> rw [e]
  · exact .refl s
  · exact .of_same rfl rfl rfl rfl

theorem rejectEntry_unmoved (n : EntryId) (why : RejectReason) (values : Option Computed) (s : State) :
    OutfeedUnmoved s (rejectEntry n why values s) := by
  refine OutfeedUnmoved.trans ?_ (dropAtBeltEnd_unmoved n _)
  exact .of_same rfl rfl rfl rfl

theorem sweepEntry_unmoved (s : State) (n : EntryId) : OutfeedUnmoved s (sweepEntry s n) := by
  rcases sweepEntry_cases s n with ⟨e, -, -, is⟩ | ⟨-, is⟩ <;> rw [is]
  · exact rejectEntry_unmoved n _ _ s
  · exact .refl s

theorem setMismatches_unmoved (m : Nat) (s : State) : OutfeedUnmoved s (setMismatches m s) := by
  rcases setMismatches_cases m s with ⟨-, e⟩ | ⟨-, -, e⟩ | ⟨-, -, e⟩ <;> rw [e]
  · exact .of_same rfl rfl rfl rfl
  · exact .of_same rfl rfl rfl rfl
  · refine OutfeedUnmoved.trans ?_ (.foldl _ sweepEntry_unmoved _ _)
    exact .of_same rfl rfl rfl rfl

theorem countMismatch_unmoved (s : State) : OutfeedUnmoved s (countMismatch s) := setMismatches_unmoved _ s

theorem openLift_unmoved (b : BinNo) (key : Key) (target : Nat) (s : State) :
    OutfeedUnmoved s (openLift b key target s) := by
  by_cases ready : (s.bin b).state = .ready
  · have test : isReady s b = true := by simp [isReady, ready]
    rw [openLift, if_pos test]
    refine OutfeedUnmoved.trans (t := { s with store := { s.store with nextId := nextNumberAfter (freshLiftId s) } })
      (.of_bins (fun _ => rfl) rfl rfl rfl) (setBin_unmoved ?_)
    have was : roleOf s b = .apart := by rw [roleOf, ready]; rfl
    exact was.symm
  · rw [openLift_not_ready key target ready]
    exact .refl s

theorem commitTo_unmoved (n : EntryId) (b : BinNo) (key : Key) (target : Nat) (s : State) :
    OutfeedUnmoved s (commitTo n b key target s) := by
  refine ((openLift_unmoved b key target s).trans
    (setBin_unmoved (b := b) (f := fun x => { x with state := x.state.commit }) (role_commit _))).trans ?_
  exact .of_same rfl rfl rfl rfl

theorem applyRoute_unmoved (n : EntryId) (plan : RoutePlan) (s : State) : OutfeedUnmoved s (applyRoute n plan s) := by
  cases plan with
  | bin b key target => exact commitTo_unmoved n b key target s
  | redryGate p => exact .of_same rfl rfl rfl rfl
  | beltEnd why x => exact rejectEntry_unmoved n why x s

theorem loseSheet_unmoved (b : BinNo) (s : State) : OutfeedUnmoved s (mapBinLift b Lift.loseSheet s) :=
  mapBinLift_unmoved b (f := Lift.loseSheet) (fun _ => rfl) s

theorem rerouteEntry_unmoved (b : BinNo) (s : State) (n : EntryId) : OutfeedUnmoved s (rerouteEntry b s n) := by
  rcases rerouteEntry_cases b s n with ⟨e, -⟩ | ⟨x, v, plan, -, -, -, -, e⟩ <;> rw [e]
  · exact .refl s
  · exact (loseSheet_unmoved b s).trans (applyRoute_unmoved n plan _)

theorem turnAwayEntry_unmoved (b : BinNo) (s : State) (n : EntryId) : OutfeedUnmoved s (turnAwayEntry b s n) := by
  rcases turnAwayEntry_cases b s n with ⟨e, -⟩ | ⟨x, -, -, e⟩ <;> rw [e]
  · exact .refl s
  · exact (loseSheet_unmoved b s).trans (rejectEntry_unmoved n _ _ _)

theorem loseEntries_unmoved (b : BinNo) (s : State) : OutfeedUnmoved s (loseEntries b s) :=
  (OutfeedUnmoved.foldl _ (rerouteEntry_unmoved b) _ s).trans (.foldl _ (turnAwayEntry_unmoved b) _ _)

/-! ### The fault of a bin (R105, R138, R140) -/

section
variable (b : BinNo) (why : BinFault) (s : State)

theorem faultAnnounced_queue : (faultAnnounced b why s).outfeed.queue = s.outfeed.queue.filter (fun c => c != b) := by
  unfold faultAnnounced
  dsimp only
  split <;> rfl

theorem roleOf_faultAnnounced (c : BinNo) :
    roleOf (faultAnnounced b why s) c = if c = b then .faulted else roleOf s c := by
  rw [roleOf, faultAnnounced_bin]
  split <;> rfl

/-- A bin that faults while EJECTING gives up its ejection, and any other leaves the outfeed and the slots alone. -/
theorem faultAnnounced_ejection :
    (∃ l, (s.bin b).state = .ejecting l)
      ∧ (faultAnnounced b why s).outfeed.state = (if why = .ejectTimeout then .blocked else .free)
      ∧ (faultAnnounced b why s).outfeed.timer = none
      ∧ (∀ n : SlotNo, (faultAnnounced b why s).slots[n]
          = if s.slots[n].state == .reserved b then { s.slots[n] with state := .empty } else s.slots[n])
    ∨ (∀ l, (s.bin b).state ≠ .ejecting l)
      ∧ (faultAnnounced b why s).outfeed.state = s.outfeed.state
      ∧ (faultAnnounced b why s).slots = s.slots := by
  unfold faultAnnounced
  dsimp only
  split
  · next l ejects => exact .inl ⟨⟨l, ejects⟩, rfl, rfl, fun n => vmap_get _ _ n⟩
  · next other => exact .inr ⟨other, rfl, rfl⟩

theorem faultAnnounced_agrees {s : State} (agrees : OutfeedAgrees s) : OutfeedAgrees (faultAnnounced b why s) := by
  have role := roleOf_faultAnnounced b why s
  have waiting (c : BinNo) :
      c ∈ (faultAnnounced b why s).outfeed.queue ↔ ∃ o, roleOf (faultAnnounced b why s) c = .waiting o := by
    rw [faultAnnounced_queue, List.mem_filter, role]
    by_cases own : c = b
    · simp [own]
    · simp [own, agrees.waiting]
  have once : (faultAnnounced b why s).outfeed.queue.Nodup := by
    rw [faultAnnounced_queue]
    exact agrees.once.filter _
  rcases faultAnnounced_ejection b why s with ⟨⟨l, ejects⟩, state, -, slots⟩ | ⟨other, state, slots⟩
  · obtain ⟨n, busy⟩ := (agrees.busyBin b).mp (by rw [roleOf, ejects]; rfl)
    have not_busy (c : BinNo) (m : SlotNo) : (faultAnnounced b why s).outfeed.state ≠ .busy c m := by
      rw [state]
      split <;> nofun
    refine ⟨waiting, once, fun c => ?_, fun c m => ?_⟩
    · refine iff_of_false (fun is => ?_) fun ⟨m, is⟩ => not_busy c m is
      rw [role] at is
      split at is
      · cases is
      · next other =>
        obtain ⟨m, busy'⟩ := (agrees.busyBin c).mp is
        cases busy.symm.trans busy'
        exact other rfl
    · refine iff_of_false (fun is => ?_) (not_busy c m)
      rw [slots] at is
      split at is
      · cases is
      · next unreserved =>
        cases busy.symm.trans ((agrees.busySlot c m).mp is)
        exact unreserved (beq_iff_eq.mpr is)
  · refine ⟨waiting, once, fun c => ?_, fun c m => by rw [slots, state]; exact agrees.busySlot c m⟩
    rw [state, role]
    by_cases own : c = b
    · have not_ejecting : roleOf s b ≠ .ejecting := by
        intro is
        unfold roleOf BinState.role at is
        split at is <;> cases is
        exact other _ ‹_›
      rw [if_pos own, own]
      exact iff_of_false nofun fun busy => not_ejecting ((agrees.busyBin b).mpr busy)
    · rw [if_neg own]
      exact agrees.busyBin c

theorem faultAnnounced_kept : OutfeedKept 0 s (faultAnnounced b why s) := by
  have role := roleOf_faultAnnounced b why s
  have store : (faultAnnounced b why s).store = s.store := (faultAnnounced_alike b why s).store
  refine .of_leaving (faultAnnounced_agrees b why) ?_ (fun _ c o waits => ?_) (apartBins_mono fun c apart => ?_)
    (by rw [store])
  · rw [faultAnnounced_queue]
    exact List.filter_sublist
  · rw [role] at waits
    split at waits
    · cases waits
    · exact waits
  · rw [role] at apart
    split at apart
    · cases apart
    · exact apart

theorem faultBin_kept : OutfeedKept 0 s (faultBin b why s) := by
  rcases faultBin_cases b why s with e | ⟨-, -, e⟩ <;> rw [e]
  · exact .refl s
  · exact ((faultAnnounced_kept b why s).trans (loseEntries_unmoved b _).kept).trans (syncGates_unmoved _).kept

end

/-! ### Landings and anomalies (R97 to R103) -/

theorem anomalyTest_kept (b : BinNo) (what : Anomaly) (s : State) : OutfeedKept 0 s (anomalyTest b what s) := by
  rcases anomalyTest_cases b what s with ⟨-, e⟩ | ⟨-, e⟩ | ⟨-, -, e⟩ <;> rw [e]
  · exact (OutfeedKept.refl s).same rfl rfl rfl rfl
  · exact faultBin_kept b _ s
  · exact .refl s

theorem bumpSuspicion_unmoved (b : BinNo) (s : State) : OutfeedUnmoved s (bumpSuspicion b s) := setBin_unmoved rfl

theorem strayLanding_kept (b : BinNo) (s : State) : OutfeedKept 0 s (strayLanding b s) := by
  have counted : OutfeedUnmoved s (tally (fun t => { t with stray := tallyAdd 1 t.stray }) (bumpSuspicion b s)) :=
    (bumpSuspicion_unmoved b s).trans (.of_same rfl rfl rfl rfl)
  exact counted.kept.trans (anomalyTest_kept b .stray _)

theorem landEntry_kept (b : BinNo) (e : Entry) (s : State) : OutfeedKept 0 s (landEntry b e s) := by
  unfold landEntry
  dsimp only
  refine OutfeedKept.trans (m := 0) ?_ ((syncGates_unmoved _).kept.trans (completeDrain_kept b _))
  have counted := setBin_unmoved (s := s) (b := b)
    (f := fun x =>
      { x with
        state := x.state.mapLift (Lift.land ((e.verdict.bind Verdict.values).map fun v => v.meanM)), suspicion := 0 })
    (role_mapLift (f := Lift.land _) (fun _ => rfl) _)
  split
  · exact counted.kept.same rfl rfl rfl rfl
  · exact counted.kept.same rfl rfl rfl rfl

theorem landedEdge_kept (b : BinNo) (s : State) : OutfeedKept 0 s (landedEdge b s) := by
  rcases landedEdge_cases b s with e | ⟨x, -, -, e⟩ | e <;> rw [e]
  · exact .refl s
  · exact landEntry_kept b x s
  · exact strayLanding_kept b s

theorem missEntry_kept (b : BinNo) (n : EntryId) (s : State) : OutfeedKept 0 s (missEntry b n s) := by
  rw [missEntry_eq]
  have counted : OutfeedUnmoved s (missCounted b n s) :=
    ((mapBinLift_unmoved b (f := Lift.miss) (fun _ => rfl) s).trans (bumpSuspicion_unmoved b _)).trans
      (.of_same rfl rfl rfl rfl)
  exact ((counted.trans (syncGates_unmoved _)).kept.trans (anomalyTest_kept b .missed _)).trans
    (completeDrain_kept b _)

/-! ### The passages (R51) -/

section
variable (s : State) (n : EntryId)

theorem passDecision_event : OutfeedEvent 0 s (passDecision s n) :=
  .ite (fun _ => (OutfeedKept.ite
    (fun _ => ((rejectEntry_unmoved n _ _ s).trans (countMismatch_unmoved _)).kept) fun _ => .refl s).finish)
    fun _ => .refl s

/-- A change of one entry, with the gates brought up to date. -/
theorem setEntry_syncGates_event (f : Entry → Entry) : OutfeedEvent 0 s (syncGates (setEntry n f s)) := by
  refine (OutfeedUnmoved.trans ?_ (syncGates_unmoved _)).event
  exact .of_same rfl rfl rfl rfl

theorem passGateOpen_event : OutfeedEvent 0 s (passGateOpen s n) :=
  .ite (fun _ => setEntry_syncGates_event s n _) fun _ => .refl s

theorem passGateClose_event : OutfeedEvent 0 s (passGateClose s n) :=
  .ite (fun _ => setEntry_syncGates_event s n _) fun _ => .refl s

theorem passRedryOpen_event : OutfeedEvent 0 s (passRedryOpen s n) :=
  .ite (fun _ => setEntry_syncGates_event s n _) fun _ => .refl s

theorem expireWindow_kept : OutfeedKept 0 s (expireWindow s n) := by
  unfold expireWindow
  split
  · exact missEntry_kept _ n s
  · exact .refl s

theorem passWindowEnd_event : OutfeedEvent 0 s (passWindowEnd s n) :=
  .ite (fun _ => (expireWindow_kept s n).finish) fun _ => .refl s

theorem passRedryClose_event : OutfeedEvent 0 s (passRedryClose s n) := by
  refine .ite (fun _ => OutfeedKept.finish ?_) fun _ => .refl s
  exact (OutfeedKept.refl s).same rfl rfl rfl rfl

theorem passBeltEnd_event : OutfeedEvent 0 s (passBeltEnd s n) :=
  .ite (fun _ => (dropAtBeltEnd_unmoved n s).kept.finish) fun _ => .refl s

theorem passesOf_event : OutfeedEvent 0 s (passesOf s n) :=
  ((((((passDecision_event s n).trans (passGateOpen_event _ n)).trans (passRedryOpen_event _ n)).trans
    (passGateClose_event _ n)).trans (passWindowEnd_event _ n)).trans (passRedryClose_event _ n)).trans
    (passBeltEnd_event _ n)

end

theorem passEyeStuck_event (s : State) (b : BinNo) : OutfeedEvent 0 s (passEyeStuck s b) :=
  .ite (fun _ => (OutfeedKept.ite (fun _ => faultBin_kept b _ s) fun _ => .refl s).finish) fun _ => .refl s

theorem duePassages_event (s : State) : OutfeedEvent 0 s (duePassages s) :=
  (OutfeedEvent.foldl _ passesOf_event _ s).trans (.foldl _ passEyeStuck_event _ _)

theorem nearerPassages_event (p : GeomParam) (old : Geometry) (s : State) :
    OutfeedEvent 0 s (nearerPassages p old s) := by
  unfold nearerPassages
  refine .ite (fun _ => ?_) fun _ => .refl s
  split
  · exact .foldl _ passDecision_event _ s
  · exact .foldl _ passBeltEnd_event _ s
  · exact .foldl _ passWindowEnd_event _ s
  · exact .foldl _ passEyeStuck_event _ s
  · exact .refl s

theorem timeOutEjection_event (s : State) : OutfeedEvent 0 s (timeOutEjection s) := by
  unfold timeOutEjection
  split
  · exact (faultBin_kept _ _ s).finish
  · exact .refl s

/-! ### The slots and the pulls (chapters 7 and 8) -/

/-- A slot that is neither reserved, nor given up from a reservation, nor emptied. -/
theorem setSlot_unmoved {n : SlotNo} {f : Slot → Slot} {s : State}
    (reserved : ∀ b, (f s.slots[n]).state = .reserved b ↔ s.slots[n].state = .reserved b)
    (empties : (f s.slots[n]).state = .empty → s.slots[n].state = .empty) : OutfeedUnmoved s (setSlot n f s) := by
  refine ⟨rfl, rfl, fun _ => rfl, rfl, fun k b => ?_, fun k => ?_⟩ <;> rw [setSlot_slots, vset_get] <;> split
  · next own => exact own ▸ reserved b
  · rfl
  · next own => exact own ▸ empties
  · exact id

/-- A lift's record changed where its slot holds it. -/
theorem setSlotLift_unmoved {n : SlotNo} {l m : Lift} {s : State} (holds : s.slots[n].state = .holding l) :
    OutfeedUnmoved s (setSlot n (fun x => { x with state := .holding m }) s) :=
  setSlot_unmoved (fun b => by rw [holds]; simp) nofun

theorem assignLift_unmoved {n : SlotNo} {l : Lift} {s : State} (holds : s.slots[n].state = .holding l) (w : Pull) :
    OutfeedUnmoved s (assignLift n l w s) := by
  have assigned (f : Arbiter → Arbiter) : OutfeedUnmoved s
      (setSlot n (fun x => { x with state := .holding { l with state := .assigned, pull := some w.number } })
        (setArbiter f s)) :=
    OutfeedUnmoved.trans (t := setArbiter f s) (.of_same rfl rfl rfl rfl) (setSlotLift_unmoved (l := l) holds)
  exact (assigned _).trans (.of_same rfl rfl rfl rfl)

theorem matchSlot_unmoved (s : State) (n : SlotNo) : OutfeedUnmoved s (matchSlot s n) := by
  rcases matchSlot_cases s n with ⟨-, e⟩ | ⟨l, -, -, e⟩ | ⟨l, w, stored, -, e⟩ <;> rw [e]
  · exact .refl s
  · exact .refl s
  · exact assignLift_unmoved (stored?_holding stored) w

theorem matchingPass_unmoved (s : State) : OutfeedUnmoved s (matchingPass s) := .foldl _ matchSlot_unmoved _ s

theorem giveBackLift_unmoved (number : Nat) (s : State) : OutfeedUnmoved s (giveBackLift number s) := by
  unfold giveBackLift
  split
  · next found => exact setSlotLift_unmoved (slotOfPull_holding found)
  · exact .refl s

theorem expireHandover_unmoved (line : LineNo) (s : State) : OutfeedUnmoved s (expireHandover line s) := by
  unfold expireHandover
  split
  · next p n l handover =>
    refine OutfeedUnmoved.trans ?_ (matchingPass_unmoved _)
    have returned : OutfeedUnmoved (endPull line p.number s) (returnLift n l (endPull line p.number s)) :=
      setSlotLift_unmoved (s := endPull line p.number s) (handoverOf_holding (s := s) handover)
    have ended : OutfeedUnmoved s (endPull line p.number s) := .of_same rfl rfl rfl rfl
    exact (ended.trans returned).trans (.of_same rfl rfl rfl rfl)
  · exact .refl s

/-- RESTART's return of the ASSIGNED lifts keeps each in its slot (R162). -/
theorem discardPulls_unmoved (s : State) : OutfeedUnmoved s (discardPulls s) := by
  refine ⟨rfl, rfl, OutfeedUnmoved.roles_of_bins (by rw [discardPulls, setArbiter_bins]), rfl, fun n b => ?_,
    fun n => ?_⟩ <;>
    simp only [discardPulls, setArbiter_slots, vmap_get]
  · split
    · next l holds =>
      split
      · rw [holds]; simp
      · rfl
    · rfl
  · split
    · next l holds =>
      split
      · nofun
      · exact id
    · exact id

theorem discardQueue_kept (s : State) : OutfeedKept 0 s (discardQueue s) := by
  have emptied : OutfeedUnmoved s (queueEmptied s) := .of_same rfl rfl rfl rfl
  have cleared (t : State) : OutfeedUnmoved t (flightsCleared t) := by
    refine .of_bins (fun b => ?_) rfl rfl rfl
    rw [roleOf, flightsCleared_bin]
    exact role_mapLift (by exact fun _ => rfl) _
  rw [discardQueue_eq]
  exact (((emptied.trans (setMismatches_unmoved 0 _)).trans (cleared _)).trans (syncGates_unmoved _)).kept.trans
    (completeDrains_kept _)

theorem vacate_kept {n : SlotNo} {s : State} {l : Lift} (holds : s.slots[n].state = .holding l) :
    OutfeedKept 0 s (vacate n s) :=
  emptySlot_kept fun b => by rw [holds]; nofun

theorem takenRemoval_event {n : SlotNo} {s : State} {l : Lift} (holds : s.slots[n].state = .holding l) (p : Pull) :
    OutfeedEvent 0 s (takenRemoval n l p s) := by
  have ended : OutfeedUnmoved s (endPull p.line p.number s) := .of_same rfl rfl rfl rfl
  have vacated := ended.kept.trans (vacate_kept (s := endPull p.line p.number s) holds)
  refine OutfeedKept.closeEvent (OutfeedKept.trans (m := 0) ?_ (matchingPass_unmoved _).kept)
  exact vacated.same rfl rfl rfl rfl

theorem unclaimedRemoval_event {n : SlotNo} {s : State} {l : Lift} (holds : s.slots[n].state = .holding l) :
    OutfeedEvent 0 s (unclaimedRemoval n l s) := by
  unfold unclaimedRemoval
  refine OutfeedKept.closeEvent ?_
  exact (vacate_kept holds).same rfl rfl rfl rfl

/-- The completion of an ejection, of which the order keeps what it can spare (R137). -/
theorem completeEjection_event {b : BinNo} {n : SlotNo} {s : State} (busy : s.outfeed.state = .busy b n) {l : Lift}
    (ejects : (s.bin b).state = .ejecting l) : OutfeedEvent 1 s (completeEjection b n s) := by
  unfold completeEjection
  rw [ejects]
  refine OutfeedKept.closeEvent (OutfeedKept.trans (m := 1) ?_ (matchingPass_unmoved _).kept)
  exact (storeLift_kept busy).same rfl rfl rfl rfl

/-! ### One millisecond (log entry 1) -/

theorem tick_event (s : State) : OutfeedEvent 0 s (tick s) := by
  have settled (t : State) : OutfeedEvent 0 t (allFour.foldl settleHandover t) :=
    .foldl _ (fun t i => .ite (fun _ => (expireHandover_unmoved i t).event) fun _ => .refl t) _ t
  have timers : OutfeedUnmoved s (tickTimers s) :=
    ⟨rfl, rfl, OutfeedUnmoved.roles_of_bins rfl, rfl, fun _ _ => .rfl, fun _ => id⟩
  unfold tick
  refine OutfeedEvent.trans (m := 0) ?_ (settled _)
  exact timers.event.trans (.ite (fun _ => timeOutEjection_event _) fun _ => .refl _)

end Sys2Proof.Machine
end

section
/-! SUPPORT. Every command and one millisecond keep the outfeed, the ejection queue, the bins and the slots in
agreement, and the queue in order (R123, R131, R132, R134, R135); then the statement about every step. -/

namespace Sys2Proof.Machine

/-! ### What is said of every step -/

/-- An event that changes nothing of the outfeed, the bins, the slots and the lift store. -/
theorem OutfeedEvent.of_same {s t : State} (bins : t.bins = s.bins) (outfeed : t.outfeed = s.outfeed)
    (slots : t.slots = s.slots) (store : t.store = s.store) : OutfeedEvent 0 s t :=
  (OutfeedUnmoved.of_same bins outfeed slots store).event

/-- From one state to the next the outfeed stays consistent, and the queue in order while its order can be told. -/
structure OutfeedHolds (s t : State) : Prop where
  consistent : OutfeedConsistent s → OutfeedConsistent t
  inOrder : OutfeedConsistent s → EjectionInOrder s → CloseOrdersComparable s → EjectionInOrder t

section
variable {s t u : State}

theorem WaitsWith.of_role {b : BinNo} {o : SeqNo} (comparable : CloseOrdersComparable s)
    (waits : roleOf s b = .waiting o) : WaitsWith s b o := by
  unfold roleOf BinState.role at waits
  split at waits <;> cases waits
  next l is =>
    obtain ⟨o, order⟩ := comparable.present b l is
    exact ⟨l, .inl is, by rw [order]; rfl⟩

/-- Sixteen bins may close their lifts, and more orders than that are to spare. -/
theorem queueOrdered_of_comparable {spare : Nat} (few : spare ≤ 48)
    (recent : ∀ b o, roleOf s b = .waiting o → (s.store.closeCounter - o).toNat < 2 ^ 31 - 64)
    (inOrder : EjectionInOrder s) : QueueOrdered spare s := by
  have bins := apartBins_le s
  refine ⟨inOrder, fun b o waits => ?_, by omega⟩
  have := recent b o waits
  omega

theorem CloseOrdersComparable.recent_role (h : CloseOrdersComparable s) (b : BinNo) (o : SeqNo)
    (waits : roleOf s b = .waiting o) : (s.store.closeCounter - o).toNat < 2 ^ 31 - 64 :=
  h.recent b o (.of_role h waits)

theorem CloseOrdersComparable.of_same (bins : t.bins = s.bins) (store : t.store = s.store)
    (h : CloseOrdersComparable s) : CloseOrdersComparable t := by
  have bin (b : BinNo) : t.bin b = s.bin b := congrArg (fun v : Vector Bin 16 => v[b]) bins
  have waits (b : BinNo) (o : SeqNo) : WaitsWith t b o ↔ WaitsWith s b o := by simp only [WaitsWith, bin]
  refine ⟨fun b => bin b ▸ h.present b, fun b => bin b ▸ h.presentFaulted b, fun b o => ?_, fun b c o => ?_⟩
  · rw [waits, store]
    exact h.recent b o
  · rw [waits, waits]
    exact h.distinct b c o

theorem OutfeedEvent.holds {spent : Nat} (h : OutfeedEvent spent s t) (few : spent ≤ 48 := by decide) :
    OutfeedHolds s t where
  consistent c := by
    obtain ⟨agrees, started⟩ := (outfeedConsistent_iff s).mp c
    exact (outfeedConsistent_iff t).mpr ⟨h.agrees agrees, h.started agrees started⟩
  inOrder c inOrder comparable := by
    refine (h.ordered 0 ((outfeedConsistent_iff s).mp c).1 ?_).inOrder
    exact queueOrdered_of_comparable (by omega) comparable.recent_role inOrder

theorem OutfeedHolds.of_unchanged (bins : t.bins = s.bins) (outfeed : t.outfeed = s.outfeed)
    (slots : t.slots = s.slots) (store : t.store = s.store) : OutfeedHolds s t :=
  (OutfeedEvent.of_same bins outfeed slots store).holds

/-- The same from a state of the same outfeed, bins, slots and lift store. -/
theorem OutfeedHolds.of_same (h : OutfeedHolds u t) (bins : u.bins = s.bins) (outfeed : u.outfeed = s.outfeed)
    (slots : u.slots = s.slots) (store : u.store = s.store) : OutfeedHolds s t := by
  have same : OutfeedHolds s u := .of_unchanged bins outfeed slots store
  exact ⟨fun c => h.consistent (same.consistent c), fun c inOrder comparable =>
    h.inOrder (same.consistent c) (same.inOrder c inOrder comparable) (comparable.of_same bins store)⟩

/-- A request holds when its work does. -/
theorem serve_holds {r : Req} {k : ReqKind} {c : Instr} {g : Option Target} {f : State → State}
    (work : ∀ t, OutfeedHolds t (f t)) : OutfeedHolds s (serve r k c g f s) := by
  rcases serve_cases r k c g f s with ⟨-, e⟩ | ⟨-, e⟩ | ⟨-, -, e⟩ | ⟨-, -, -, e⟩ <;> rw [e]
  · exact (work (freeBuffer r.port s)).of_same rfl rfl rfl rfl
  · exact (OutfeedEvent.refl s).holds
  · exact .of_unchanged rfl rfl rfl rfl
  · exact .of_unchanged rfl rfl rfl rfl

end

theorem outfeed_blind : ReplyBlind (OutfeedEvent 0) :=
  ⟨.refl, .trans, fun _ _ _ => .of_same rfl rfl rfl rfl⟩

theorem OutfeedKept.done {spent : Nat} {s t : State} (h : OutfeedKept spent s t) (r : Req) (k : ReqKind)
    (x : Result) : OutfeedKept spent s (done r k x t) :=
  h.same rfl rfl rfl rfl

/-- What follows a request's work on the state: its reply, and the end of its event. -/
theorem OutfeedKept.answered {spent : Nat} {s t : State} (h : OutfeedKept spent s t) (r : Req) (k : ReqKind)
    (x : Result) : OutfeedEvent spent s (Machine.closeEvent (Machine.done r k x t)) :=
  (h.done r k x).closeEvent

/-- Every next state that an outcome answers keeps the outfeed consistent and the queue in order. -/
def OutcomeOutfeed (s : State) (o : Host.Outcome State Fault Refusal) : Prop := ∀ t, o = .next t → OutfeedHolds s t

theorem OutcomeOutfeed.holds {s t : State} (h : OutfeedHolds s t) : OutcomeOutfeed s (.next t) := by
  rintro _ ⟨⟩
  exact h

theorem OutcomeOutfeed.next {s t : State} (h : OutfeedEvent 0 s t) : OutcomeOutfeed s (.next t) := .holds h.holds

theorem OutcomeOutfeed.fault {s : State} (why : Fault) : OutcomeOutfeed s (.fault why) := by
  rintro _ ⟨⟩

section
variable (r : Req) (s : State)

/-! ### The recipe banks, the geometry and the modes (chapters 2, 4 and 9) -/

theorem execActivate_outfeed (n : Nat) : OutcomeOutfeed s (execActivate r n s) := by
  refine .next (outfeed_blind.serve fun t => ?_)
  split
  · next k _ =>
    refine .ite (fun _ => .of_same rfl rfl rfl rfl) fun _ => ?_
    split
    · exact .of_same rfl rfl rfl rfl
    · have switched : OutfeedUnmoved t (switchBank k t) := by
        rw [switchBank_eq]
        exact .of_same rfl rfl rfl rfl
      exact ((switched.trans (drainBins_unmoved _ _ _)).kept.trans (completeDrains_kept _)).answered _ _ _
  · exact .of_same rfl rfl rfl rfl

theorem execWriteGeometry_outfeed (p : GeomParam) (v : Option Nat) :
    OutcomeOutfeed s (execWriteGeometry r p v s) := by
  refine .next (outfeed_blind.serve fun t => .ite (fun _ => outfeed_blind.refuse _ _ _ t) fun _ =>
    .ite (fun _ => outfeed_blind.refuse _ _ _ t) fun _ => ?_)
  dsimp only
  split
  · exact .of_same rfl rfl rfl rfl
  · refine OutfeedEvent.trans (m := 0) ?_ (nearerPassages_event _ _ _)
    exact .of_same rfl rfl rfl rfl

theorem execStart_outfeed : OutcomeOutfeed s (execStart r s) := by
  refine .next (outfeed_blind.serve fun t => ?_)
  have runs := outfeed_blind.done (setMode_unmoved .run t).event r .start (.mode .run)
  split
  · exact .of_same rfl rfl rfl rfl
  · exact runs
  · exact .ite (fun _ => .of_same rfl rfl rfl rfl) fun _ => runs

theorem execDrain_outfeed : OutcomeOutfeed s (execDrain r s) :=
  .next (outfeed_blind.serve fun t => .ite
    (fun _ => ((setMode_unmoved .drain t).kept.trans (endDrainIfDue_kept _)).answered _ _ _)
    fun _ => outfeed_blind.refuse _ _ _ t)

theorem execStop_outfeed : OutcomeOutfeed s (execStop r s) :=
  .next (outfeed_blind.serve fun t => .ite (fun _ => outfeed_blind.refuse _ _ _ t)
    fun _ => ((discardQueue_kept t).trans (setMode_unmoved .idle _).kept).answered _ _ _)

theorem emptyQueues_unmoved : OutfeedUnmoved s (emptyQueues s) := .of_same rfl rfl rfl rfl

theorem execRestart_outfeed : OutcomeOutfeed s (execRestart r s) := by
  refine .next (outfeed_blind.serve fun t => ?_)
  refine OutfeedKept.answered ?_ r .restart _
  exact (((discardQueue_kept t).trans (discardPulls_unmoved _).kept).trans (setMode_unmoved .idle _).kept).trans
    (emptyQueues_unmoved _).kept

/-! ### The bins (chapters 5 and 6) -/

theorem unsuspected_unmoved (b : BinNo) : OutfeedUnmoved s (unsuspected b s) := setBin_unmoved rfl

section
variable {r s} {b : BinNo} {why : BinFault} {lift : Option Lift} (faulted : (s.bin b).state = .faulted why lift)
include faulted

/-- A closed lift that CLEAR_BIN sends back to the outfeed takes its old place in the queue (R109, R131). -/
theorem keptLift_holds {l : Lift} (is : lift = some l) (closed : l.state ≠ .opened) (x : Result) :
    OutfeedHolds s (closeEvent (done r .clearBin x (waitForOutfeed b l (unsuspected b s)))) := by
  subst is
  have unmoved := unsuspected_unmoved s b
  have role := unmoved.roles
  have idle : roleOf (unsuspected b s) b = .faulted := by rw [role, roleOf, faulted]; rfl
  have answers := (OutfeedKept.refl (waitForOutfeed b l (unsuspected b s))).done r .clearBin x
  have agrees (a : OutfeedAgrees s) : OutfeedAgrees (waitForOutfeed b l (unsuspected b s)) :=
    waitForOutfeed_agrees (.inr idle) (unmoved.agrees a)
  have ends := answers.closeEvent
  refine ⟨fun c => ?_, fun c inOrder comparable => ?_⟩
  · have a := ((outfeedConsistent_iff s).mp c).1
    exact (outfeedConsistent_iff _).mpr
      ⟨ends.agrees (agrees a), ejectionTest_started ((syncGates_unmoved _).agrees (answers.agrees (agrees a)))⟩
  · have a := ((outfeedConsistent_iff s).mp c).1
    obtain ⟨o, order⟩ := comparable.presentFaulted b why l faulted closed
    have own : WaitsWith s b o := ⟨l, .inr ⟨why, faulted, closed⟩, order⟩
    have order' : l.closeOrder.getD 0 = o := by rw [order]; rfl
    have own_recent := comparable.recent b o own
    have sent : EjectionInOrder (unsuspected b s) :=
      EjectionInOrder.of_sublist a inOrder (.refl _) fun c _ => role c
    have joined : EjectionInOrder (waitForOutfeed b l (unsuspected b s)) := by
      refine waitForOutfeed_inOrder (k := s.store.closeCounter) (.inr idle) (unmoved.agrees a) sent ?_
          fun d p waits => ?_
      · rw [order']; omega
      · rw [role] at waits
        have other := comparable.recent_role d p waits
        refine ⟨by omega, fun same => ?_⟩
        have same_bin := comparable.distinct d b o (same.trans order' ▸ .of_role comparable waits) own
        rw [same_bin, roleOf, faulted] at waits
        cases waits
    refine (ends.ordered 0 (agrees a) (queueOrdered_of_comparable (by decide) (fun d p waits => ?_) joined)).inOrder
    rw [roleOf_waitForOutfeed, role] at waits
    split at waits
    · cases waits
      rw [order']
      exact own_recent
    · exact comparable.recent_role d p waits

theorem clearFaulted_holds : OutfeedHolds s (closeEvent (clearFaulted r b lift s)) := by
  have cleared := unsuspected_unmoved s b
  have role : roleOf (unsuspected b s) b = .faulted := by
    rw [cleared.roles, roleOf, faulted]
    rfl
  have answers {t : State} (work : OutfeedKept 1 (unsuspected b s) t) (x : Result) :
      OutfeedHolds s (closeEvent (done r .clearBin x t)) := ((cleared.kept.trans work).answered r .clearBin x).holds
  cases is : lift with
  | none => exact answers (setBin_apart_kept role rfl) _
  | some l =>
    by_cases opened : l.state = .opened
    · by_cases landed : l.landed = 0
      · rw [clearFaulted_discards opened landed]
        have ready := setBin_apart_kept (f := fun y => { y with state := .ready }) role rfl
        refine answers ?_ _
        exact ready.same rfl rfl rfl rfl
      · rw [clearFaulted_closes opened landed]
        exact answers (closeLift_kept_of_faulted _ role) _
    · rw [clearFaulted_waits opened]
      exact keptLift_holds faulted is opened _

end

theorem execClearBin_outfeed (n : Nat) : OutcomeOutfeed s (execClearBin r n s) := by
  refine .holds (serve_holds fun t => ?_)
  have refused (why : RefusalReason) : OutfeedHolds t (refuse r .clearBin why t) :=
    (outfeed_blind.refuse r .clearBin why t).holds
  split
  · exact refused _
  · split
    · next faulted => exact rel_ite (fun _ => refused _) fun _ => clearFaulted_holds faulted
    · exact refused _

theorem execBinOnline_outfeed (n : Nat) : OutcomeOutfeed s (execBinOnline r n s) := by
  refine .next (outfeed_blind.serve fun t => ?_)
  split
  · exact .of_same rfl rfl rfl rfl
  · next b _ =>
    refine .ite (fun _ => .of_same rfl rfl rfl rfl) fun on => .ite (fun _ => .of_same rfl rfl rfl rfl) fun _ =>
      outfeed_blind.done (OutfeedUnmoved.event (setBin_unmoved ?_)) _ _ _
    rw [not_or, not_not] at on
    rw [roleOf, on.1]
    rfl

theorem takeOffline_again (b : BinNo) :
    (setBin b (fun x => { x with state := .offline }) (takeOffline b s)).bins = (takeOffline b s).bins := by
  simp only [takeOffline, setBin_bins, vset_vset, vset_get_self]

theorem execBinOffline_outfeed (n : Nat) : OutcomeOutfeed s (execBinOffline r n s) := by
  refine .holds (serve_holds fun t => ?_)
  have refused (why : RefusalReason) : OutfeedHolds t (refuse r .binOffline why t) :=
    (outfeed_blind.refuse r .binOffline why t).holds
  have given_up {b : BinNo} (faulted : roleOf t b = .faulted) {u : State} (bins : u.bins = (takeOffline b t).bins)
      (outfeed : u.outfeed = t.outfeed) (slots : u.slots = t.slots) (store : u.store = t.store) :
      OutfeedHolds t u := by
    have offline : OutfeedKept 1 t (takeOffline b t) := setBin_apart_kept faulted rfl
    refine OutfeedEvent.holds ⟨offline.same bins outfeed slots store, fun _ started => ?_⟩
    unfold EjectionStarted
    rwa [outfeed, slots]
  split
  · exact refused _
  · split
    · next ready =>
      refine (outfeed_blind.done (OutfeedUnmoved.event (setBin_unmoved ?_)) _ _ _).holds
      rw [roleOf, ready]
      rfl
    · next faulted => exact given_up (by rw [roleOf, faulted]; rfl) rfl rfl rfl rfl
    · next faulted =>
      refine given_up (by rw [roleOf, faulted]; rfl) ?_ rfl rfl rfl
      exact takeOffline_again t _
    · exact refused _

theorem closeShort_kept {b : BinNo} {l : Lift} (fills : (s.bin b).state = .filling l) :
    OutfeedKept 0 s (closeShort b l s) := by
  have sent : OutfeedUnmoved s (sentShort b l s) := setBin_unmoved (by rw [roleOf, fills]; rfl)
  exact sent.kept.trans (completeDrain_kept b _)

theorem execCloseBin_outfeed (n : Nat) : OutcomeOutfeed s (execCloseBin r n s) := by
  refine .next (outfeed_blind.serve fun t => ?_)
  split
  · exact .of_same rfl rfl rfl rfl
  · split
    · next fills => exact (closeShort_kept t fills).answered _ _ _
    · exact .of_same rfl rfl rfl rfl

theorem execForceClose_outfeed (code : Nat) (cls : Option Nat) : OutcomeOutfeed s (execForceClose r code cls s) := by
  refine .next (outfeed_blind.take fun t => ?_)
  split
  · refine .ite (fun _ => .of_same rfl rfl rfl rfl) fun _ => .ite (fun _ => .of_same rfl rfl rfl rfl) fun _ => ?_
    split
    · exact .of_same rfl rfl rfl rfl
    · next choice => exact (closeShort_kept t (forceChoice_filling choice)).answered _ _ _
  · exact .of_same rfl rfl rfl rfl

/-! ### The outfeed and the slots (chapter 7) -/

theorem execWriteEjectTimeout_outfeed (n : Nat) : OutcomeOutfeed s (execWriteEjectTimeout r n s) := by
  refine .next (outfeed_blind.serve fun t => .ite (fun _ => ?_) fun _ => outfeed_blind.refuse _ _ _ t)
  have written : OutfeedUnmoved t { t with outfeed := { t.outfeed with timeout := n } } :=
    ⟨rfl, rfl, OutfeedUnmoved.roles_of_bins rfl, rfl, fun _ _ => .rfl, fun _ => id⟩
  exact outfeed_blind.done written.event _ _ _

theorem execClearOutfeed_outfeed : OutcomeOutfeed s (execClearOutfeed r s) :=
  .next (outfeed_blind.serve fun t => .ite (fun blocked => (clearOutfeed_kept blocked).answered r .clearOutfeed .plain)
    fun _ => outfeed_blind.refuse _ _ _ t)

theorem execSlotOnline_outfeed (n : Nat) : OutcomeOutfeed s (execSlotOnline r n s) := by
  refine .next (outfeed_blind.serve fun t => ?_)
  split
  · exact .of_same rfl rfl rfl rfl
  · refine .ite (fun _ => .of_same rfl rfl rfl rfl) fun offline => .ite (fun _ => .of_same rfl rfl rfl rfl) fun _ =>
      (emptySlot_kept fun b => ?_).answered _ _ _
    rw [not_not.mp offline]
    nofun

theorem execSlotOffline_outfeed (n : Nat) : OutcomeOutfeed s (execSlotOffline r n s) := by
  refine .next (outfeed_blind.serve fun t => ?_)
  split
  · exact .of_same rfl rfl rfl rfl
  · next k _ =>
    refine .ite (fun idle => ?_) fun _ => .of_same rfl rfl rfl rfl
    have offline := setSlot_unmoved (s := t) (n := k) (f := fun x => { x with state := .offline })
      (fun b => by rcases idle with is | is <;> rw [is] <;> simp) nofun
    exact outfeed_blind.done offline.event _ _ _

theorem execClearSlot_outfeed (n : Nat) : OutcomeOutfeed s (execClearSlot r n s) := by
  refine .next (outfeed_blind.serve fun t => ?_)
  split
  · exact .of_same rfl rfl rfl rfl
  · refine .ite (fun _ => .of_same rfl rfl rfl rfl) fun faulted => .ite (fun _ => .of_same rfl rfl rfl rfl) fun _ =>
      (emptySlot_kept fun b => ?_).answered _ _ _
    rw [not_not.mp faulted]
    nofun

theorem setSlotEye_unmoved (n : SlotNo) (eye : Bool) :
    OutfeedUnmoved s (setSlot n (fun x => { x with eye := eye }) s) :=
  setSlot_unmoved (fun _ => Iff.rfl) id

theorem setSlotEye_state (n : SlotNo) (eye : Bool) :
    (setSlot n (fun x => { x with eye := eye }) s).slots[n].state = s.slots[n].state := by
  rw [setSlot_slots, vset_get_self]

theorem execSlotEyeBlocked_outfeed (n : SlotNo) : OutcomeOutfeed s (execSlotEyeBlocked n s) := by
  have blocked := setSlotEye_unmoved s n true
  have state := setSlotEye_state s n true
  refine .holds (rel_ite (fun _ => (OutfeedEvent.refl s).holds) fun _ => ?_)
  dsimp only
  split
  · next empty =>
    have faulted := setSlot_unmoved (s := setSlot n (fun x => { x with eye := true }) s) (n := n)
      (f := fun x => { x with state := .faulted }) (fun b => by rw [state, empty]; simp) nofun
    refine (OutfeedUnmoved.event ?_).holds
    exact (blocked.trans faulted).same rfl rfl rfl rfl
  · next b reserved =>
    have event (c : OutfeedConsistent s) :
        OutfeedEvent 1 s (completeEjection b n (setSlot n (fun x => { x with eye := true }) s)) := by
      have busy : s.outfeed.state = .busy b n := (c.busySlot b n).mp reserved
      obtain ⟨l, ejects⟩ : ∃ l, (s.bin b).state = .ejecting l := by
        have ejects := (c.busyBin b).mpr ⟨n, busy⟩
        unfold BinState.isEjecting at ejects
        split at ejects
        · exact ⟨_, ‹_›⟩
        · cases ejects
      exact blocked.event.trans (completeEjection_event busy ejects)
    exact ⟨fun c => (event c).holds.consistent c, fun c => (event c).holds.inOrder c⟩
  · exact blocked.event.holds

theorem execSlotEyeClears_outfeed (n : SlotNo) : OutcomeOutfeed s (execSlotEyeClears n s) := by
  refine .next (.ite (fun _ => .refl s) fun _ => ?_)
  have clears := (setSlotEye_unmoved s n false).event
  dsimp only
  split
  · next l holds =>
    have holds' := (setSlotEye_state s n false).trans holds
    split
    · exact clears.trans (takenRemoval_event holds' _)
    · exact clears.trans (unclaimedRemoval_event holds')
  · exact clears

/-! ### The pulls (chapter 8) -/

theorem execPull_outfeed (code : Nat) (bank cls : Option Nat) (nowait : Bool) :
    OutcomeOutfeed s (execPull r code bank cls nowait s) := by
  refine .next (outfeed_blind.take fun t => ?_)
  split
  · refine .ite (fun _ => .of_same rfl rfl rfl rfl) fun _ => .ite (fun _ => .of_same rfl rfl rfl rfl) fun _ =>
      .ite (fun _ => .of_same rfl rfl rfl rfl) fun _ => .ite (fun _ => .of_same rfl rfl rfl rfl) fun _ =>
        OutfeedEvent.trans (m := 0) ?_ (matchingPass_unmoved _).event
    exact .of_same rfl rfl rfl rfl
  · exact .of_same rfl rfl rfl rfl

theorem execRelease_outfeed (number : Nat) : OutcomeOutfeed s (execRelease r number s) := by
  refine .next (outfeed_blind.take fun t => ?_)
  split
  · refine .ite (fun _ => .of_same rfl rfl rfl rfl) fun _ => ?_
    split
    · split
      · refine OutfeedEvent.trans (m := 0) ?_ (matchingPass_unmoved _).event
        refine OutfeedUnmoved.event ?_
        exact (giveBackLift_unmoved number t).same rfl rfl rfl rfl
      · exact .of_same rfl rfl rfl rfl
    · exact .ite (fun _ => .of_same rfl rfl rfl rfl) fun _ => .of_same rfl rfl rfl rfl
  · exact .of_same rfl rfl rfl rfl

theorem execCancel_outfeed (number : Nat) : OutcomeOutfeed s (execCancel r number s) := by
  refine .next (outfeed_blind.take fun t => ?_)
  split
  · refine .ite (fun _ => .of_same rfl rfl rfl rfl) fun _ => ?_
    split
    · split <;> exact .of_same rfl rfl rfl rfl
    · exact .of_same rfl rfl rfl rfl
  · exact .of_same rfl rfl rfl rfl

/-! ### The scan port and the entry eye (chapters 1 and 3) -/

theorem execSheetReport_outfeed (p : Port) (tag : Byte) (payload : List Byte) :
    OutcomeOutfeed s (execSheetReport p tag payload s) := by
  rcases sheetReport_cases p tag payload s with ⟨-, is⟩ | outcome
  · rw [is]
    exact .next (.refl s)
  · have taken {t : State} (h : OutfeedEvent 0 (freeBuffer p s) t) : OutcomeOutfeed s (.next t) :=
      .next ((outfeed_blind.freeBuffer p s).trans h)
    generalize execSheetReport p tag payload s = o at outcome
    cases outcome with
    | denied | invalid | outOfStep => exact taken (.of_same rfl rfl rfl rfl)
    | noSheet =>
      refine taken (OutfeedEvent.trans (m := 0) (.ite (fun _ => ?_) fun _ => .refl _) (outfeed_blind.refuse _ _ _ _))
      exact (countMismatch_unmoved _).kept.finish
    | noBank => exact .fault _
    | mismatch raw e eye k =>
      have banked : OutfeedUnmoved (freeBuffer p s)
          (setEntry e.id (fun x => { x with bank := some k }) (freeBuffer p s)) := .of_same rfl rfl rfl rfl
      exact taken ((((banked.trans (rejectEntry_unmoved e.id .mismatch none _)).trans
        (countMismatch_unmoved _)).kept.done _ _ _).finish)
    | good raw e eye k =>
      rw [bindGood_eq (reportReq p tag) k e raw (freeBuffer p s) rfl rfl]
      have bound (v : Verdict) : OutfeedUnmoved (freeBuffer p s) (agreed e.id k v (freeBuffer p s)) :=
        (setMismatches_unmoved 0 _).trans (.of_same rfl rfl rfl rfl)
      exact taken ((((bound _).trans (applyRoute_unmoved e.id _ _)).kept.done _ _ _).finish)

theorem execEntryEyeLeadingEdge_outfeed : OutcomeOutfeed s (exec .entryEyeLeadingEdge s) := by
  rcases leadingEdge_cases s with ⟨-, is⟩ | ⟨-, -, is⟩ | ⟨-, -, -, is⟩ | ⟨-, -, -, is⟩ <;> rw [is]
  · exact .next (.refl s)
  · exact .next (.of_same rfl rfl rfl rfl)
  · refine .next (OutfeedKept.finish (OutfeedUnmoved.kept (OutfeedUnmoved.trans ?_ (setMismatches_unmoved 3 _))))
    exact .of_same rfl rfl rfl rfl
  · exact .next (.of_same rfl rfl rfl rfl)

theorem execEntryEyeTrailingEdge_outfeed : OutcomeOutfeed s (execEntryEyeTrailingEdge s) := by
  have measured : OutfeedUnmoved s (measureNewest s) := by
    unfold measureNewest
    split
    · exact .of_same rfl rfl rfl rfl
    · exact .refl s
  exact .next (.ite (fun _ => .refl s) fun _ => OutfeedUnmoved.event
    (OutfeedUnmoved.trans (.ite (fun _ => measured) fun _ => .refl s) (.of_same rfl rfl rfl rfl)))

theorem execLandedEyeBlocked_outfeed (b : BinNo) : OutcomeOutfeed s (execLandedEyeBlocked b s) := by
  refine .next (.ite (fun _ => .refl s) fun _ =>
      OutfeedKept.finish (OutfeedKept.trans (m := 0) ?_ (landedEdge_kept b _)))
  exact OutfeedUnmoved.kept (setBin_unmoved rfl)

/-- After a full reset the queue is empty, the outfeed FREE, and every bin and slot OFFLINE (R171). -/
theorem fullReset_holds (pins : Pins) : OutfeedHolds s { State.resetWith pins with pending := s.pending } := by
  set t : State := { State.resetWith pins with pending := s.pending }
  have queue : t.outfeed.queue = [] := rfl
  have bin (b : BinNo) : (t.bin b).state = .offline := by
    have is : t.bin b = Bin.reset pins.landed[b] := Vector.getElem_ofFn b.isLt
    rw [is]
    rfl
  have slot (n : SlotNo) : t.slots[n].state = .offline := by
    have is : t.slots[n] = { state := .offline, eye := pins.slotEyes[n] } := Vector.getElem_ofFn n.isLt
    rw [is]
  have state : t.outfeed.state = .free := rfl
  refine ⟨fun _ => ⟨fun b => ?_, List.nodup_nil, fun b => ?_, fun b n => ?_, fun unstarted => unstarted.2.1 queue⟩,
    fun _ _ _ => List.Pairwise.nil⟩
  · rw [queue, bin]
    simp [BinState.isFullWait]
  · rw [bin, state]
    simp [BinState.isEjecting]
  · rw [slot, state]
    simp

/-! ### Every command, and the step -/

theorem exec_outfeed (c : Instr) : OutcomeOutfeed s (exec c s) := by
  cases c with
  | fullReset pins => exact .holds (fullReset_holds s pins)
  | sheetReport p tag payload => exact execSheetReport_outfeed s p tag payload
  | scanResync r =>
    exact .next (outfeed_blind.serve fun t => outfeed_blind.done (setMismatches_unmoved 0 t).event _ _ _)
  | selectBank | readBank | eventRead | writePassLimit | writeHandoverTimeout =>
    refine .next (outfeed_blind.serve fun t => ?_)
    split <;> exact .of_same rfl rfl rfl rfl
  | validate | writeLine =>
    refine .next (outfeed_blind.serve fun t => ?_)
    split
    · split <;> exact .of_same rfl rfl rfl rfl
    · exact .of_same rfl rfl rfl rfl
  | readGrade =>
    refine .next (outfeed_blind.serve fun t => ?_)
    split
    · split
      · split <;> exact .of_same rfl rfl rfl rfl
      · exact .of_same rfl rfl rfl rfl
    · exact .of_same rfl rfl rfl rfl
  | tallyRead =>
    refine .next (outfeed_blind.serve fun t => ?_)
    split
    · exact .of_same rfl rfl rfl rfl
    · split <;> exact .of_same rfl rfl rfl rfl
  | tallyClear | writeEventMask =>
    refine .next (outfeed_blind.serve fun t => ?_)
    exact .of_same rfl rfl rfl rfl
  | writeClasses | writeWeights | writeLimits | writeGrade | deleteGrade =>
    refine .next (outfeed_blind.serveWrite fun t => ?_)
    split <;> exact .of_same rfl rfl rfl rfl
  | clearBank => exact .next (outfeed_blind.serveWrite fun t => .of_same rfl rfl rfl rfl)
  | activate r n => exact execActivate_outfeed r s n
  | writeGeometry r p v => exact execWriteGeometry_outfeed r s p v
  | clearBin r n => exact execClearBin_outfeed r s n
  | binOnline r n => exact execBinOnline_outfeed r s n
  | binOffline r n => exact execBinOffline_outfeed r s n
  | closeBin r n => exact execCloseBin_outfeed r s n
  | forceClose r code cls => exact execForceClose_outfeed r s code cls
  | writeEjectTimeout r n => exact execWriteEjectTimeout_outfeed r s n
  | clearOutfeed r => exact execClearOutfeed_outfeed r s
  | slotOnline r n => exact execSlotOnline_outfeed r s n
  | slotOffline r n => exact execSlotOffline_outfeed r s n
  | clearSlot r n => exact execClearSlot_outfeed r s n
  | pull r code bank cls nowait => exact execPull_outfeed r s code bank cls nowait
  | release r n => exact execRelease_outfeed r s n
  | cancel r n => exact execCancel_outfeed r s n
  | start r => exact execStart_outfeed r s
  | drain r => exact execDrain_outfeed r s
  | stop r => exact execStop_outfeed r s
  | restart r => exact execRestart_outfeed r s
  | queryTracker | queryBins | queryStoredLifts | queryPulls | queryOutfeed | querySettings | queryLines
  | queryRefusals | queryPorts | queryMode => exact .next (outfeed_blind.serveQuery _ _ _ _ _ _ s)
  | unknownRequest p tag what =>
    refine .next (outfeed_blind.takeFrame fun t => ?_)
    cases what with
    | kind => exact .of_same rfl rfl rfl rfl
    | subject => exact .ite (fun _ => .of_same rfl rfl rfl rfl) fun _ => .of_same rfl rfl rfl rfl
  | frameReceived | sendItem | interByteGapTimeout | partFrameEnds => exact .next (.of_same rfl rfl rfl rfl)
  | travelPulse =>
    have counted : OutfeedEvent 0 s (countTravel s) := .of_same rfl rfl rfl rfl
    exact .next (counted.trans (duePassages_event _))
  | entryEyeLeadingEdge => exact execEntryEyeLeadingEdge_outfeed s
  | entryEyeTrailingEdge => exact execEntryEyeTrailingEdge_outfeed s
  | decisionPointPassage n => exact .next (passDecision_event s n)
  | gateOpenPassage n => exact .next (passGateOpen_event s n)
  | gateClosePassage n => exact .next (passGateClose_event s n)
  | landingWindowEnd n => exact .next (passWindowEnd_event s n)
  | redryGateOpenPassage n => exact .next (passRedryOpen_event s n)
  | redryGateClosePassage n => exact .next (passRedryClose_event s n)
  | beltEndPassage n => exact .next (passBeltEnd_event s n)
  | eyeStuckPassage b => exact .next (passEyeStuck_event s b)
  | landedEyeBlocked b => exact execLandedEyeBlocked_outfeed s b
  | landedEyeClears b => exact .next (OutfeedUnmoved.event (setBin_unmoved rfl))
  | drainCompletion b => exact .next (completeDrain_kept b s).closeEvent
  | endOfDrain => exact .next (finish_event s)
  | ejectionStart => exact .next ⟨ejectionTest_kept s, fun a _ => ejectionTest_started a⟩
  | slotEyeBlocked n => exact execSlotEyeBlocked_outfeed s n
  | slotEyeClears n => exact execSlotEyeClears_outfeed s n
  | ejectTimeout => exact .next (timeOutEjection_event s)
  | handoverExpired line => exact .next (expireHandover_unmoved line s).event

end

/-- Settles O47: every act keeps the agreement, and the queue in order while each bin can close one lift more;
the end of every event that frees the outfeed, fills the queue or empties a slot tests whether an ejection
starts. -/
theorem outfeedStaysConsistent : Obligations.OutfeedStaysConsistent := by
  intro s t consistent h
  have holds : OutfeedHolds s t := by
    unfold step at h
    cases front : s.pending with
    | nil =>
      rw [front] at h
      cases h
      exact (tick_event s).holds
    | cons c rest =>
      rw [front] at h
      exact (exec_outfeed { s with pending := rest } c t h).of_same rfl rfl rfl rfl
  exact ⟨holds.consistent consistent, holds.inOrder consistent⟩

end Sys2Proof.Machine
end

section
/-! SUPPORT. The start of an ejection (R134 to R136) as its command; then the statement about it. -/

namespace Sys2Proof.Machine

/-! ### The lowest EMPTY slot (R135) -/

theorem allSlots_ordered (n : SlotNo) : ∃ before after, allSlots = before ++ n :: after ∧ ∀ m ∈ before, m < n := by
  refine ⟨allSlots.take n, allSlots.drop (n + 1), ?_⟩
  revert n
  decide

section
variable {s : State}

theorem lowestEmpty_eq_some {n : SlotNo} (empty : s.slots[n].state = .empty)
    (lowest : ∀ m : SlotNo, m < n → s.slots[m].state ≠ .empty) : lowestEmpty s = some n := by
  obtain ⟨before, after, split, below⟩ := allSlots_ordered n
  refine List.find?_eq_some_iff_append.mpr ⟨beq_iff_eq.mpr empty, before, after, split, fun m mem => ?_⟩
  exact Bool.not_eq_true' _ ▸ beq_false_of_ne (lowest m (below m mem))

/-! ### The command (log entry 6) -/

theorem exec_ejectionStart (s : State) : exec .ejectionStart s = .next (ejectionTest s) := rfl

theorem startEjection_eq {b : BinNo} {rest : List BinNo} (queue : s.outfeed.queue = b :: rest) (l : Lift) (n : SlotNo) :
    startEjection b l n s
      = { s with
          outfeed :=
            { state := .busy b n, queue := rest, timer := some (s.outfeed.timeout * 1000)
              timeout := s.outfeed.timeout }
          bins :=
            vset s.bins b
              { s.bin b with state := .ejecting { l with state := .ejecting, slot := some n }, eject := true }
          slots := vset s.slots n { s.slots[n] with state := .reserved b } } := by
  unfold startEjection
  rw [queue]
  rfl

end

/-- Settles O43: the test finds the head of the queue and the lowest EMPTY slot, or finds one of the three
missing. -/
theorem ejectionStarts : Obligations.EjectionStarts := by
  intro s
  refine ⟨fun b rest l n free queue waits empty lowest => ?_, fun missing => ?_⟩
  · rw [exec_ejectionStart, ← startEjection_eq queue]
    simp only [ejectionTest, free, queue, lowestEmpty_eq_some empty lowest, waits]
  · rw [exec_ejectionStart, ejectionTest_idle s missing]

end Sys2Proof.Machine
end

section
/-! SUPPORT. The parameter writes of the outfeed, the pull arbiter and the event list (R136, R145, R146, R181);
then the statement about them. -/

namespace Sys2Proof.Machine

/-! ### A parameter in its range -/

section
variable {r : Req} {k : ReqKind} {c : Instr} {target : Option Target} {s : State} (can : CanServe r k c s)
include can

/-- A request whose work does not see the ports is answered, and leaves its work beside the reply. -/
theorem serve_answers_work {f : State → State} {x : Result} {t : State}
    (answers : f (freeBuffer r.port s) = done r k x (freeBuffer r.port t)) :
    serve r k c target f s = answered r.port (doneItem r k x) t := by
  rw [serve_admitted can, answers, done_freeBuffer]

variable {low high n : Nat} {x : Result} {write : State → State}

theorem serve_in_range (blind : write (freeBuffer r.port s) = freeBuffer r.port (write s)) (above : low ≤ n)
    (below : n ≤ high) :
    serve r k c target
        (fun s => if inRange low high n then done r k x (write s) else refuse r k .invalid s) s
      = answered r.port (doneItem r k x) (write s) := by
  refine serve_answers_work can ?_
  rw [if_pos ((inRange_iff _ _ _).mpr ⟨above, below⟩), blind]

theorem serve_out_of_range (outside : n < low ∨ high < n) :
    serve r k c target
        (fun s => if inRange low high n then done r k x (write s) else refuse r k .invalid s) s
      = answered r.port (refusedItem r k .invalid) s := by
  refine serve_refuses can (if_neg fun inside => ?_)
  have := (inRange_iff _ _ _).mp inside
  omega

end

/-- A lowered pass limit cuts the pass counts above it (R146). -/
theorem limitTo_eq (n : Nat) (a : Arbiter) :
    a.limitTo n
      = { a with
          passLimit := n
          pulls := a.pulls.map (fun p =>
            { p with passCount := if n < a.passLimit then min n p.passCount else p.passCount }) } := by
  unfold Arbiter.limitTo
  split
  · rfl
  · simp

/-! ### A line's settings (R145) -/

theorem accessFormed_iff (access : AccessSet) :
    accessFormed access = true
      ↔ ∀ l, access = .codes l → 1 ≤ l.length ∧ l.length ≤ 8 ∧ l.Nodup ∧ ∀ c ∈ l, 1 ≤ c ∧ c ≤ 250 := by
  cases access with
  | all => exact iff_of_true rfl nofun
  | codes l =>
    simp only [accessFormed, Bool.and_eq_true, inRange_iff, decide_eq_true_eq, List.all_eq_true, and_assoc,
      AccessSet.codes.injEq, forall_eq']

/-- What WRITE_LINE is refused for, as the check of its fields sees it. -/
theorem unformed_of_bad {line rank : Nat} {access : AccessSet}
    (bad : 4 ≤ line ∨ 3 < rank
      ∨ ∃ l, access = .codes l ∧ (l = [] ∨ 8 < l.length ∨ ¬l.Nodup ∨ ∃ c ∈ l, c = 0 ∨ 250 < c)) :
    4 ≤ line ∨ (accessFormed access && inRange 0 3 rank) = false := by
  refine bad.imp_right fun unfit => Bool.eq_false_iff.mpr fun fit => ?_
  rw [Bool.and_eq_true, accessFormed_iff, inRange_iff] at fit
  obtain ⟨formed, -, ranked⟩ := fit
  obtain high | ⟨l, rfl, unformed⟩ := unfit
  · omega
  obtain ⟨some', few, distinct, range⟩ := formed l rfl
  rcases unformed with rfl | many | alike | ⟨c, mem, out⟩
  · exact absurd some' (by decide)
  · omega
  · exact alike distinct
  · have := range c mem
    omega

section
variable {r : Req} {access : AccessSet} {force : Bool} {rank : Nat} {s : State}

theorem writeLine_accepts {i : LineNo} (h : Admitted (.writeLine r i.val access force rank) s)
    (formed : accessFormed access = true) (ranked : rank ≤ 3) :
    exec (.writeLine r i.val access force rank) s
      = .next (answered r.port (doneItem r .writeLine (.line i ⟨access, force, rank⟩))
          (setArbiter (fun a => { a with settings := vset a.settings i ⟨access, force, rank⟩ }) s)) := by
  have admitted : (accessFormed access && inRange 0 3 rank) = true := by
    rw [formed, Bool.true_and, inRange_iff]
    exact ⟨Nat.zero_le _, ranked⟩
  refine congrArg _ (serve_answers_work (h.canServe rfl) ?_)
  simp only [asFour_val, admitted, ↓reduceIte]
  rfl

theorem writeLine_refuses {line : Nat} (h : Admitted (.writeLine r line access force rank) s)
    (bad : 4 ≤ line ∨ (accessFormed access && inRange 0 3 rank) = false) :
    exec (.writeLine r line access force rank) s
      = .next (answered r.port (refusedItem r .writeLine .invalid) s) := by
  refine congrArg _ (serve_refuses (h.canServe rfl) ?_)
  rcases bad with far | bad
  · rw [asFour_eq_none far]
  · split
    · rw [if_neg (by rw [bad]; nofun)]
    · rfl

end

/-! ### The events entered (R181) -/

/-- The three fates of an event by its enable and the room in the list. -/
theorem append_by_enable (l : EventLog) (e : Event) {enabled : Bool} (is : enabled = maskEnables l.mask e) :
    (enabled = false → l.append e = l)
    ∧ (enabled = true → l.list.length < 32 → l.append e = { l with list := l.list ++ [e] })
    ∧ (enabled = true → 32 ≤ l.list.length → l.append e = { l with overflow := true }) := by
  subst is
  refine ⟨fun off => ?_, fun on room => ?_, fun on full => ?_⟩
  · rw [EventLog.append, if_neg (by rw [off]; nofun)]
  · rw [EventLog.append, if_pos on, if_pos (show _ < Config.maxEvents from room)]
  · rw [EventLog.append, if_pos on, if_neg (show ¬_ < Config.maxEvents from Nat.not_lt.mpr full)]

/-- Settles O48: each value in its range is written and answered, and any other refused. -/
theorem parameterWrites : Obligations.ParameterWrites := by
  intro r s
  refine ⟨fun n h => ⟨fun low high => ?_, fun out => ?_⟩, fun n h => ⟨fun low high => ?_, fun out => ?_⟩,
    fun n h => ⟨fun low high => ?_, fun out => ?_⟩, fun i access force rank h formed ranked => ?_,
    fun line access force rank h bad => ?_, fun mask h => ?_, fun l e => ?_⟩
  · exact congrArg _ (serve_in_range (h.canServe rfl)
      (write := fun s => { s with outfeed := { s.outfeed with timeout := n } }) rfl low high)
  · exact congrArg _ (serve_out_of_range (h.canServe rfl) out)
  · rw [← limitTo_eq]
    exact congrArg _ (serve_in_range (h.canServe rfl) (write := setArbiter (Arbiter.limitTo n)) rfl low high)
  · exact congrArg _ (serve_out_of_range (h.canServe rfl) out)
  · exact congrArg _ (serve_in_range (h.canServe rfl)
      (write := setArbiter (fun a => { a with handoverTimeout := n })) rfl low high)
  · exact congrArg _ (serve_out_of_range (h.canServe rfl) out)
  · exact writeLine_accepts h ((accessFormed_iff access).mpr formed) ranked
  · exact writeLine_refuses h (unformed_of_bad bad)
  · exact congrArg _ (serve_answers_work (t := { s with events := { s.events with mask := mask } }) (h.canServe rfl)
      rfl)
  · exact append_by_enable l e (by cases e <;> rfl)

end Sys2Proof.Machine
end

section
/-! SUPPORT. The matching pass as R152 and R153 state it: the STORED lifts in the order of their close orders,
each given to the candidate that stands before every other. -/

namespace Sys2Proof.Machine

/-! ### The winner among the candidates (R152) -/

theorem seqEarlier_asymm {a b : SeqNo} (h : seqEarlier a b = true) : seqEarlier b a = false := by
  have opposite : a - b = -(b - a) := by abel
  simp only [seqEarlier, Bool.and_eq_true, decide_eq_true_eq] at h
  simp only [seqEarlier, Bool.and_eq_false_iff, decide_eq_false_iff_not, opposite, BitVec.toNat_neg]
  omega

section
variable {s : State} {p q w : Pull}

theorem preferred_iff : preferred s p q = true ↔ StandsBefore s p q := by
  simp only [preferred, StandsBefore, Bool.or_eq_true, Bool.and_eq_true, decide_eq_true_eq, beq_iff_eq]
  exact Iff.rfl

theorem StandsBefore.asymm (h : StandsBefore s p q) : ¬StandsBefore s q p := by
  rcases h with higher | ⟨level, earlier⟩
  · rintro (lower | ⟨same, -⟩) <;> omega
  · rintro (lower | ⟨-, later⟩)
    · omega
    · exact Bool.false_ne_true ((seqEarlier_asymm earlier).symm.trans later)

/-- A pull that stands before every other of a list is its winner. -/
theorem winnerOf_eq_some {l : List Pull} (mem : w ∈ l) (first : ∀ q ∈ l, q ≠ w → StandsBefore s w q) :
    winnerOf s l = some w := by
  induction l with
  | nil => cases mem
  | cons p rest ih =>
    obtain ⟨first_p, first_rest⟩ := List.forall_mem_cons.mp first
    rw [winnerOf]
    by_cases own : p = w
    · subst own
      split
      · rfl
      · next q found =>
        by_cases same : q = p
        · rw [same, ite_self]
        · rw [if_neg fun h => (first_rest q (winnerOf_mem found) same).asymm (preferred_iff.mp h)]
    · rw [ih ((List.mem_cons.mp mem).resolve_left fun e => own e.symm) first_rest]
      exact if_pos (preferred_iff.mpr (first_p own))

end

/-! ### One lift of a pass (R153) -/

theorem stored?_eq_some {x : Slot} {l : Lift} (holds : x.state = .holding l) (stored : l.state = .stored) :
    x.stored? = some l := by
  unfold Slot.stored?
  rw [holds]
  exact if_pos (beq_iff_eq.mpr stored)

theorem stored?_state {x : Slot} {l : Lift} (h : x.stored? = some l) : l.state = .stored := by
  unfold Slot.stored? at h
  split at h
  · split at h
    · next is => exact Option.some.inj h ▸ beq_iff_eq.mp is
    · cases h
  · cases h

theorem stored?_isSome_iff {x : Slot} : x.stored?.isSome ↔ ∃ l, x.state = .holding l ∧ l.state = .stored := by
  rw [Option.isSome_iff_exists]
  exact exists_congr fun l =>
    ⟨fun h => ⟨stored?_holding h, stored?_state h⟩, fun ⟨holds, stored⟩ => stored?_eq_some holds stored⟩

theorem mean_getD (l : Lift) : l.mean.getD 0 = l.moistureSum / l.landed := by
  unfold Lift.mean
  split
  · next zero => rw [zero, Nat.div_zero]; rfl
  · rfl

theorem line_idx_ne {p : Port} {i : LineNo} (apart : p ≠ .line i) : p.idx ≠ (Port.line i).idx := by
  cases p with
  | scan => exact line_idx_ne_scan i
  | setup => exact line_idx_ne_setup i
  | line j =>
    intro same
    have next : j.val + 1 = i.val + 1 := congrArg Fin.val same
    exact apart (congrArg Port.line (Fin.ext (Nat.succ.inj next)))

section
variable {s : State} {n : SlotNo} {l : Lift}

theorem assignLift_givenTo (w : Pull) : GivenTo n l w s (assignLift n l w s) where
  slots := rfl
  arbiter := rfl
  length := List.length_map _
  winner i p at_i own := by
    refine (List.getElem?_map ..).trans ?_
    rw [at_i]
    exact congrArg some (if_pos (beq_iff_eq.mpr own))
  passed i p at_i other candidate := by
    refine (List.getElem?_map ..).trans ?_
    rw [at_i]
    refine congrArg some ((if_neg fun own => other (beq_iff_eq.mp own)).trans ?_)
    exact if_pos ((candidateFor_iff s l p).mp candidate)
  others i p at_i other candidate := by
    refine (List.getElem?_map ..).trans ?_
    rw [at_i]
    refine congrArg some ((if_neg fun own => other (beq_iff_eq.mp own)).trans ?_)
    exact if_neg fun h => candidate ((candidateFor_iff s l p).mpr h)
  notice := by
    rw [← mean_getD]
    exact vset_get_self ..
  ports p apart := setPort_port_ne _ _ _ _ (line_idx_ne apart)
  rest := rfl

theorem matchSlot_matched (stored : s.slots[n].stored?.isSome) : Matched n s (matchSlot s n) := by
  obtain ⟨m, found⟩ := Option.isSome_iff_exists.mp stored
  have own {l : Lift} (holds : s.slots[n].state = .holding l) : m = l := by
    have := (stored?_holding found).symm.trans holds
    injection this
  refine ⟨fun l holds none_left => ?_, fun l w holds mem candidate first => ?_⟩
  · obtain rfl := own holds
    have empty : s.arbiter.pulls.filter (isCandidate s m) = [] :=
      List.filter_eq_nil_iff.mpr fun p mem h => none_left p mem ((candidateFor_iff s m p).mpr h)
    simp only [matchSlot, found, empty, winnerOf]
  · obtain rfl := own holds
    have won : winnerOf s (s.arbiter.pulls.filter (isCandidate s m)) = some w := by
      refine winnerOf_eq_some (List.mem_filter.mpr ⟨mem, (candidateFor_iff s m w).mp candidate⟩) fun q hq apart => ?_
      obtain ⟨mem_q, is⟩ := List.mem_filter.mp hq
      exact first q mem_q ((candidateFor_iff s m q).mpr is) apart
    simp only [matchSlot, found, won]
    exact assignLift_givenTo w

theorem matchSlot_slots_ne {k : SlotNo} (apart : k ≠ n) : (matchSlot s n).slots[k] = s.slots[k] := by
  rcases matchSlot_cases s n with ⟨-, e⟩ | ⟨l, -, -, e⟩ | ⟨l, w, -, -, e⟩ <;> rw [e]
  exact vset_get_ne _ _ _ _ apart

end

/-- The lifts of a pass in turn: a slot's lift stays STORED until its own turn. -/
theorem foldl_matchSlot_inTurn (order : List SlotNo) (s : State) (once : order.Nodup)
    (stored : ∀ n ∈ order, s.slots[n].stored?.isSome) : InTurn Matched order s (order.foldl matchSlot s) := by
  induction order generalizing s with
  | nil => rfl
  | cons n rest ih =>
    obtain ⟨apart, once_rest⟩ := List.nodup_cons.mp once
    obtain ⟨stored_n, stored_rest⟩ := List.forall_mem_cons.mp stored
    refine ⟨matchSlot s n, matchSlot_matched stored_n, ih _ once_rest fun k mem => ?_⟩
    rw [matchSlot_slots_ne (ne_of_mem_of_not_mem mem apart)]
    exact stored_rest k mem

/-! ### The order of a pass (R152) -/

section
variable {α : Type} (before : α → α → Bool)

theorem insertBefore_perm (p : α → Bool) (a : α) (l : List α) : (insertBefore p a l).Perm (a :: l) := by
  induction l with
  | nil => exact .refl _
  | cons x xs ih =>
    unfold insertBefore
    split
    · exact .refl _
    · exact (ih.cons x).trans (.swap a x xs)

theorem foldl_insertBefore_perm (todo acc : List α) :
    (todo.foldl (fun l a => insertBefore (before a) a l) acc).Perm (todo ++ acc) := by
  induction todo generalizing acc with
  | nil => exact .refl _
  | cons a rest ih => exact (ih _).trans (((insertBefore_perm _ a acc).append_left rest).trans List.perm_middle)

/-- Items inserted one after the other stand in the order of a measure that tells them apart, the largest first. -/
theorem foldl_insertBefore_pairwise {d : α → Nat} (todo acc : List α) (once : (todo ++ acc).Nodup)
    (test : ∀ a ∈ todo ++ acc, ∀ x ∈ todo ++ acc, before a x = true ↔ d x < d a)
    (other : ∀ a ∈ todo ++ acc, ∀ x ∈ todo ++ acc, d x = d a → x = a)
    (ordered : acc.Pairwise fun x y => d y < d x) :
    (todo.foldl (fun l a => insertBefore (before a) a l) acc).Pairwise fun x y => d y < d x := by
  induction todo generalizing acc with
  | nil => exact ordered
  | cons a rest ih =>
    have perm : (rest ++ insertBefore (before a) a acc).Perm (a :: rest ++ acc) :=
      ((insertBefore_perm _ a acc).append_left rest).trans List.perm_middle
    have held {x : α} (mem : x ∈ rest ++ insertBefore (before a) a acc) : x ∈ a :: rest ++ acc := perm.mem_iff.mp mem
    have own : a ∈ a :: rest ++ acc := List.mem_cons_self
    have queued {x : α} (mem : x ∈ acc) : x ∈ a :: rest ++ acc := List.mem_append_right _ mem
    refine ih _ (perm.nodup_iff.mpr once) (fun b hb x hx => test b (held hb) x (held hx))
      (fun b hb x hx => other b (held hb) x (held hx)) ?_
    refine pairwise_insertBefore ordered (fun x mem => test a own x (queued mem)) fun x mem same => ?_
    have is := other a own x (queued mem) same
    exact (List.nodup_cons.mp once).1 (is ▸ List.mem_append_right rest mem)

end

/-- The close order that the pass sorts a slot by. -/
def storedOrder (s : State) (n : SlotNo) : SeqNo :=
  match s.slots[n].stored? with
  | some x => x.closeOrder.getD 0
  | none => 0

section
variable {s : State}

theorem StoredWith.storedOrder_eq {n : SlotNo} {o : SeqNo} (h : StoredWith s n o) : storedOrder s n = o := by
  obtain ⟨l, holds, stored, order⟩ := h
  rw [storedOrder, stored?_eq_some holds stored]
  exact congrArg (·.getD 0) order

theorem storedSlots_eq (s : State) :
    storedSlots s
      = (allSlots.filter (fun n => s.slots[n].stored?.isSome)).foldl
          (fun l n => insertBefore (fun m => seqEarlier (storedOrder s n) (storedOrder s m)) n l) [] :=
  rfl

theorem storedSlots_perm (s : State) :
    (storedSlots s).Perm (allSlots.filter (fun n => s.slots[n].stored?.isSome)) := by
  rw [storedSlots_eq]
  exact (foldl_insertBefore_perm (fun n m => seqEarlier (storedOrder s n) (storedOrder s m)) _ _).trans
    (by rw [List.append_nil])

theorem filter_allSlots_nodup (p : SlotNo → Bool) : (allSlots.filter p).Nodup := (List.nodup_finRange 24).filter p

theorem storedSlots_nodup (s : State) : (storedSlots s).Nodup :=
  (storedSlots_perm s).nodup_iff.mpr (filter_allSlots_nodup _)

theorem mem_storedSlots {n : SlotNo} : n ∈ storedSlots s ↔ s.slots[n].stored?.isSome := by
  rw [(storedSlots_perm s).mem_iff, List.mem_filter]
  exact and_iff_right (List.mem_finRange n)

/-- The STORED lifts stand in the order of their close orders, when those can be compared (R123). -/
theorem storedSlots_ordered
    (recent : ∀ n ∈ storedSlots s, ∃ o, StoredWith s n o ∧ (s.store.closeCounter - o).toNat < 2 ^ 31)
    (distinct : ∀ m n o, StoredWith s m o → StoredWith s n o → m = n) :
    (storedSlots s).Pairwise fun m n => seqEarlier (storedOrder s m) (storedOrder s n) = true := by
  have within {n : SlotNo} (mem : n ∈ storedSlots s) :
      StoredWith s n (storedOrder s n) ∧ (s.store.closeCounter - storedOrder s n).toNat < 2 ^ 31 := by
    obtain ⟨o, holds, near⟩ := recent n mem
    rw [holds.storedOrder_eq]
    exact ⟨holds, near⟩
  have held {n : SlotNo} (mem : n ∈ allSlots.filter (fun n => s.slots[n].stored?.isSome) ++ []) :
      n ∈ storedSlots s := by
    rw [List.append_nil] at mem
    exact (storedSlots_perm s).mem_iff.mpr mem
  have measured : (storedSlots s).Pairwise fun m n =>
      (s.store.closeCounter - storedOrder s n).toNat < (s.store.closeCounter - storedOrder s m).toNat := by
    rw [storedSlots_eq]
    refine foldl_insertBefore_pairwise (fun n m => seqEarlier (storedOrder s n) (storedOrder s m)) _ _ ?_ ?_ ?_ .nil
    · rw [List.append_nil]
      exact filter_allSlots_nodup _
    · exact fun a ha x hx => seqEarlier_iff_of_recent (within (held ha)).2 (within (held hx)).2
    · intro a ha x hx same
      have orders : storedOrder s x = storedOrder s a := sub_right_injective (BitVec.eq_of_toNat_eq same)
      exact distinct x a _ (within (held hx)).1 (orders ▸ (within (held ha)).1)
  exact measured.imp_of_mem fun hm hn closer =>
    (seqEarlier_iff_of_recent (within hm).2 (within hn).2).mpr closer

end

/-- The model's matching pass is the one of R152 and R153. -/
theorem matchingPass_isPass (s : State) : MatchingPass s (matchingPass s) := by
  refine ⟨storedSlots s, storedSlots_nodup s, fun n => mem_storedSlots.trans stored?_isSome_iff,
    fun recent distinct => ?_, foldl_matchSlot_inTurn _ s (storedSlots_nodup s) fun n => mem_storedSlots.mp⟩
  refine (storedSlots_ordered recent distinct).imp fun earlier a b hold_m hold_n => ?_
  rwa [hold_m.storedOrder_eq, hold_n.storedOrder_eq] at earlier

end Sys2Proof.Machine
end

section
/-! SUPPORT. What the end of an event leaves of the outfeed and of the slots; the requests on a slot (R143); then the
statement about them. -/

namespace Sys2Proof.Machine

/-! ### The outfeed and the slots at the end of an event (R135) -/

/-- The test reserves an EMPTY slot at most. -/
theorem ejectionTest_slots (s : State) (n : SlotNo) :
    (ejectionTest s).slots[n] = s.slots[n]
    ∨ s.slots[n].state = .empty ∧ ∃ b, (ejectionTest s).slots[n] = { s.slots[n] with state := .reserved b } := by
  rcases ejectionTest_cases s with e | ⟨b, rest, m, l, -, -, lowest, -, e⟩ <;> rw [e]
  · exact .inl rfl
  · rw [startEjection_slots]
    by_cases own : n = m
    · subst own
      exact .inr ⟨lowestEmpty_some lowest, b, if_pos rfl⟩
    · exact .inl (if_neg own)

/-- The test takes up a FREE outfeed at most. -/
theorem ejectionTest_outfeed (s : State) :
    (ejectionTest s).outfeed = s.outfeed
    ∨ s.outfeed.state = .free ∧ ∃ b n, (ejectionTest s).outfeed.state = .busy b n := by
  rcases ejectionTest_cases s with e | ⟨b, rest, n, l, free, -, -, -, e⟩ <;> rw [e]
  · exact .inl rfl
  · exact .inr ⟨free, b, n, rfl⟩

section
variable {s : State} {n : SlotNo}

theorem ejectionTest_slot_taken (taken : s.slots[n].state ≠ .empty) : (ejectionTest s).slots[n] = s.slots[n] :=
  (ejectionTest_slots s n).resolve_right fun ⟨empty, _⟩ => taken empty

theorem ejectionTest_slot_empty (empty : s.slots[n].state = .empty) :
    (ejectionTest s).slots[n].state = .empty ∨ ∃ b, (ejectionTest s).slots[n].state = .reserved b := by
  rcases ejectionTest_slots s n with same | ⟨-, b, is⟩
  · exact .inl (by rw [same, empty])
  · exact .inr ⟨b, by rw [is]⟩

theorem ejectionTest_outfeed_free (free : s.outfeed.state = .free) :
    (ejectionTest s).outfeed.state = .free ∨ ∃ b n, (ejectionTest s).outfeed.state = .busy b n := by
  rcases ejectionTest_outfeed s with same | ⟨-, busy⟩
  · exact .inl (by rw [same, free])
  · exact .inr busy

theorem closeEvent_slot_taken (taken : s.slots[n].state ≠ .empty) : (closeEvent s).slots[n] = s.slots[n] :=
  ejectionTest_slot_taken (s := syncGates s) taken

theorem closeEvent_slot_empty (empty : s.slots[n].state = .empty) :
    (closeEvent s).slots[n].state = .empty ∨ ∃ b, (closeEvent s).slots[n].state = .reserved b :=
  ejectionTest_slot_empty (s := syncGates s) empty

theorem closeEvent_outfeed_free (free : s.outfeed.state = .free) :
    (closeEvent s).outfeed.state = .free ∨ ∃ b n, (closeEvent s).outfeed.state = .busy b n :=
  ejectionTest_outfeed_free (s := syncGates s) free

/-! ### The slot a number names -/

theorem asSlot_val (n : SlotNo) : asSlot n.val = some n := dif_pos n.isLt

theorem asSlot_eq_none {k : Nat} (h : 24 ≤ k) : asSlot k = none := dif_neg (Nat.not_lt.mpr h)

theorem setSlot_state_self (n : SlotNo) (x : SlotState) (s : State) :
    (setSlot n (fun y => { y with state := x }) s).slots[n] = { s.slots[n] with state := x } :=
  vset_get_self ..

/-! ### A slot brought to EMPTY (R143) -/

/-- What SLOT_ONLINE and CLEAR_SLOT do alike: the slot is EMPTY, the request answered, and the event ends. -/
theorem emptied_slot (r : Req) (k : ReqKind) (n : SlotNo) (s : State) :
    let t :=
      closeEvent (done r k (.slot n .empty) (setSlot n (fun x => { x with state := .empty }) (freeBuffer r.port s)))
    BeltFrame (answered r.port (doneItem r k (.slot n .empty)) s) t
    ∧ (t.slots[n].state = .empty ∨ ∃ b, t.slots[n].state = .reserved b)
    ∧ t.tracker = s.tracker ∧ t.events = s.events ∧ t.tallies = s.tallies := by
  obtain ⟨frame, tracker, events, tallies, -, -⟩ := answered_closeEvent r k (.slot n .empty)
    (setSlot_beltFrame n (fun x => { x with state := .empty }) (freeBuffer r.port s) fun _ => rfl)
  have empty := congrArg Slot.state (setSlot_state_self n .empty (freeBuffer r.port s))
  exact ⟨frame, closeEvent_slot_empty empty, tracker, events, tallies⟩

end

section
variable {r : Req} {n : SlotNo} {s : State}

theorem slotOnline_empties (h : Admitted (.slotOnline r n.val) s) (offline : s.slots[n].state = .offline)
    (clear : s.slots[n].eye = false) :
    exec (.slotOnline r n.val) s
      = .next (closeEvent (done r .slotOnline (.slot n .empty)
          (setSlot n (fun x => { x with state := .empty }) (freeBuffer r.port s)))) := by
  refine congrArg _ ((serve_admitted (h.canServe rfl)).trans ?_)
  rw [asSlot_val]
  exact (if_neg fun other => other offline).trans (if_neg (by rw [freeBuffer_slots, clear]; nofun))

theorem slotOnline_refuses {why : RefusalReason} (h : Admitted (.slotOnline r n.val) s)
    (cause : s.slots[n].state = .offline ∧ s.slots[n].eye = true ∧ why = .notClear
      ∨ s.slots[n].state ≠ .offline ∧ why = .notNow) :
    exec (.slotOnline r n.val) s = .next (answered r.port (refusedItem r .slotOnline why) s) := by
  refine congrArg _ (serve_refuses (h.canServe rfl) ?_)
  rw [asSlot_val]
  rcases cause with ⟨offline, blocked, rfl⟩ | ⟨other, rfl⟩
  · exact (if_neg fun other => other offline).trans (if_pos blocked)
  · exact if_pos other

theorem clearSlot_empties (h : Admitted (.clearSlot r n.val) s) (faulted : s.slots[n].state = .faulted)
    (clear : s.slots[n].eye = false) :
    exec (.clearSlot r n.val) s
      = .next (closeEvent (done r .clearSlot (.slot n .empty)
          (setSlot n (fun x => { x with state := .empty }) (freeBuffer r.port s)))) := by
  refine congrArg _ ((serve_admitted (h.canServe rfl)).trans ?_)
  rw [asSlot_val]
  exact (if_neg fun other => other faulted).trans (if_neg (by rw [freeBuffer_slots, clear]; nofun))

theorem clearSlot_refuses {why : RefusalReason} (h : Admitted (.clearSlot r n.val) s)
    (cause : s.slots[n].state = .faulted ∧ s.slots[n].eye = true ∧ why = .notClear
      ∨ s.slots[n].state ≠ .faulted ∧ why = .notNow) :
    exec (.clearSlot r n.val) s = .next (answered r.port (refusedItem r .clearSlot why) s) := by
  refine congrArg _ (serve_refuses (h.canServe rfl) ?_)
  rw [asSlot_val]
  rcases cause with ⟨faulted, blocked, rfl⟩ | ⟨other, rfl⟩
  · exact (if_neg fun other => other faulted).trans (if_pos blocked)
  · exact if_pos other

theorem slotOffline_accepts (h : Admitted (.slotOffline r n.val) s)
    (idle : s.slots[n].state = .empty ∨ s.slots[n].state = .faulted) :
    exec (.slotOffline r n.val) s
      = .next (answered r.port (doneItem r .slotOffline (.slot n .offline))
          (setSlot n (fun x => { x with state := .offline }) s)) := by
  refine congrArg _ (serve_answers_work (h.canServe rfl) ?_)
  rw [asSlot_val]
  exact if_pos idle

theorem slotOffline_refuses (h : Admitted (.slotOffline r n.val) s) (not_empty : s.slots[n].state ≠ .empty)
    (not_faulted : s.slots[n].state ≠ .faulted) :
    exec (.slotOffline r n.val) s = .next (answered r.port (refusedItem r .slotOffline .notNow) s) := by
  refine congrArg _ (serve_refuses (h.canServe rfl) ?_)
  rw [asSlot_val]
  exact if_neg fun idle => idle.elim not_empty not_faulted

end

/-- Settles O46: each request by the state and the eye of the slot that its number names. -/
theorem slotServiceRequests : Obligations.SlotServiceRequests := by
  intro r n s
  refine ⟨fun h offline clear => ?_, fun h offline blocked => ?_, fun h other => ?_, fun h faulted clear => ?_,
    fun h faulted blocked => ?_, fun h other => ?_, fun h idle => ?_, fun h not_empty not_faulted => ?_,
    fun k far => ⟨fun h => ?_, fun h => ?_, fun h => ?_⟩⟩
  · exact ⟨_, slotOnline_empties h offline clear, emptied_slot r .slotOnline n s⟩
  · exact slotOnline_refuses h (.inl ⟨offline, blocked, rfl⟩)
  · exact slotOnline_refuses h (.inr ⟨other, rfl⟩)
  · exact ⟨_, clearSlot_empties h faulted clear, emptied_slot r .clearSlot n s⟩
  · exact clearSlot_refuses h (.inl ⟨faulted, blocked, rfl⟩)
  · exact clearSlot_refuses h (.inr ⟨other, rfl⟩)
  · exact slotOffline_accepts h idle
  · exact slotOffline_refuses h not_empty not_faulted
  all_goals exact congrArg _ (serve_refuses (h.canServe rfl) (by rw [asSlot_eq_none far]))

end Sys2Proof.Machine
end

section
/-! SUPPORT. The running out of the eject timer (R138) and CLEAR_OUTFEED (R139); then the statement about them. -/

namespace Sys2Proof.Machine

/-! ### The lift of a bin whose entries are lost (R92, R93, R106) -/

/-- A lift that bin `b`'s fault keeps is the same in `t` but for its sheets in flight. -/
def FaultLiftKept (b : BinNo) (s t : State) : Prop :=
  ∀ why l, (s.bin b).state = .faulted why (some l) →
    ∃ flying, (t.bin b).state = .faulted why (some { l with inFlight := flying })

namespace FaultLiftKept

variable {b : BinNo} {s t : State}

theorem refl (b : BinNo) (s : State) : FaultLiftKept b s s := fun _ l holds => ⟨l.inFlight, holds⟩

theorem trans {u : State} (h : FaultLiftKept b s t) (k : FaultLiftKept b t u) : FaultLiftKept b s u := by
  intro why l holds
  obtain ⟨flying, holds'⟩ := h why l holds
  obtain ⟨flying', holds''⟩ := k why _ holds'
  exact ⟨flying', holds''⟩

theorem foldl {α : Type} {act : State → α → State} (h : ∀ s a, FaultLiftKept b s (act s a)) (l : List α) (s : State) :
    FaultLiftKept b s (l.foldl act s) :=
  foldl_rel (FaultLiftKept b) (refl b) (fun _ _ _ => trans) act h l s

theorem of_bin (same : t.bin b = s.bin b) : FaultLiftKept b s t := fun why l holds =>
  ⟨l.inFlight, by rw [same, holds]⟩

theorem loseSheet (b : BinNo) (s : State) : FaultLiftKept b s (mapBinLift b Lift.loseSheet s) := by
  intro why l holds
  refine ⟨l.inFlight - 1, ?_⟩
  rw [mapBinLift, setBin_bin_self, holds]
  rfl

theorem rerouteEntry (b : BinNo) (s : State) (n : EntryId) : FaultLiftKept b s (rerouteEntry b s n) := by
  rcases rerouteEntry_cases b s n with ⟨e, -⟩ | ⟨x, v, plan, -, -, -, route, e⟩ <;> rw [e]
  · exact refl b s
  · refine (loseSheet b s).trans (of_bin (applyRoute_bin_ne (fun key target is => ?_) _))
    exact planRoute_bin_ne (route.trans is) rfl

theorem turnAwayEntry (b : BinNo) (s : State) (n : EntryId) : FaultLiftKept b s (turnAwayEntry b s n) := by
  rcases turnAwayEntry_cases b s n with ⟨e, -⟩ | ⟨x, -, -, e⟩ <;> rw [e]
  · exact refl b s
  · refine (loseSheet b s).trans (of_bin ?_)
    exact congrArg (fun v : Vector Bin 16 => v[b]) (rejectEntry_bins n _ _ _)

theorem loseEntries (b : BinNo) (s : State) : FaultLiftKept b s (loseEntries b s) :=
  (foldl (rerouteEntry b) _ s).trans (foldl (turnAwayEntry b) _ _)

end FaultLiftKept

/-! ### What the loss of the entries and the end of a drain leave of the ejection -/

/-- The outfeed's state and timer and the slots are as they were: no ejection starts or ends. -/
structure EjectionHeld (s t : State) : Prop where
  state : t.outfeed.state = s.outfeed.state
  timer : t.outfeed.timer = s.outfeed.timer
  slots : t.slots = s.slots

namespace EjectionHeld

variable {s t : State}

theorem refl (s : State) : EjectionHeld s s := ⟨rfl, rfl, rfl⟩

theorem trans {u : State} (h : EjectionHeld s t) (k : EjectionHeld t u) : EjectionHeld s u :=
  ⟨k.state.trans h.state, k.timer.trans h.timer, k.slots.trans h.slots⟩

theorem of_same (outfeed : t.outfeed = s.outfeed) (slots : t.slots = s.slots) : EjectionHeld s t :=
  ⟨by rw [outfeed], by rw [outfeed], slots⟩

theorem foldl {α : Type} {act : State → α → State} (h : ∀ s a, EjectionHeld s (act s a)) (l : List α) (s : State) :
    EjectionHeld s (l.foldl act s) :=
  foldl_rel EjectionHeld refl (fun _ _ _ => trans) act h l s

theorem completeDrain (b : BinNo) (s : State) : EjectionHeld s (completeDrain b s) := by
  rcases completeDrain_cases b s with ⟨e, -⟩ | ⟨why, l, -, -, -, e⟩ | ⟨why, l, -, -, -, e⟩ <;> rw [e]
  · exact refl s
  · exact ⟨rfl, rfl, rfl⟩
  · exact ⟨rfl, rfl, rfl⟩

theorem setMode (m : SortMode) (s : State) : EjectionHeld s (setMode m s) := by
  unfold Machine.setMode
  split
  · exact refl s
  · exact ⟨rfl, rfl, rfl⟩

theorem endDrainIfDue (s : State) : EjectionHeld s (endDrainIfDue s) := by
  rcases endDrainIfDue_cases s with ⟨-, -, e⟩ | ⟨-, e⟩ <;> rw [e]
  · have drained : EjectionHeld s (drainBins .shiftEnd (fun _ _ => true) s) := ⟨rfl, rfl, rfl⟩
    exact (drained.trans (foldl (fun s b => completeDrain b s) _ _)).trans (setMode _ _)
  · exact refl s

/-- With the outfeed BLOCKED no ejection starts at the end of an event. -/
theorem finish_of_blocked (blocked : s.outfeed.state = .blocked) : EjectionHeld s (finish s) := by
  have ended := endDrainIfDue s
  have idle : closeEvent (Machine.endDrainIfDue s) = syncGates (Machine.endDrainIfDue s) := by
    refine ejectionTest_idle _ (.inl ?_)
    rw [syncGates_outfeed, ended.state, blocked]
    nofun
  rw [finish, idle]
  exact ended.trans (of_same rfl rfl)

theorem rejectEntry (n : EntryId) (why : RejectReason) (values : Option Computed) (s : State) :
    EjectionHeld s (rejectEntry n why values s) := by
  rw [rejectEntry_eq]
  rcases dropAtBeltEnd_cases n (setEntry n (Entry.rejected why values) s) with e | ⟨x, -, -, -, e⟩ <;> rw [e]
  · exact ⟨rfl, rfl, rfl⟩
  · exact ⟨rfl, rfl, rfl⟩

theorem applyRoute (n : EntryId) (plan : RoutePlan) (s : State) : EjectionHeld s (applyRoute n plan s) := by
  cases plan with
  | bin b key target =>
    have opened : EjectionHeld s (openLift b key target s) := by
      unfold openLift
      split <;> exact ⟨rfl, rfl, rfl⟩
    exact opened.trans ⟨rfl, rfl, rfl⟩
  | redryGate p => exact ⟨rfl, rfl, rfl⟩
  | beltEnd why values => exact rejectEntry n why values s

theorem rerouteEntry (b : BinNo) (s : State) (n : EntryId) : EjectionHeld s (rerouteEntry b s n) := by
  rcases rerouteEntry_cases b s n with ⟨e, -⟩ | ⟨x, v, plan, -, -, -, -, e⟩ <;> rw [e]
  · exact refl s
  · exact trans (t := mapBinLift b Lift.loseSheet s) ⟨rfl, rfl, rfl⟩ (applyRoute n plan _)

theorem turnAwayEntry (b : BinNo) (s : State) (n : EntryId) : EjectionHeld s (turnAwayEntry b s n) := by
  rcases turnAwayEntry_cases b s n with ⟨e, -⟩ | ⟨x, -, -, e⟩ <;> rw [e]
  · exact refl s
  · exact trans (t := mapBinLift b Lift.loseSheet s) ⟨rfl, rfl, rfl⟩ (rejectEntry n _ _ _)

theorem loseEntries (b : BinNo) (s : State) : EjectionHeld s (loseEntries b s) :=
  (foldl (rerouteEntry b) _ s).trans (foldl (turnAwayEntry b) _ _)

end EjectionHeld

/-! ### The eject timer runs out (R138) -/

section
variable {b : BinNo} {l : Lift} {s : State} (ejects : (s.bin b).state = .ejecting l)
include ejects

theorem ejecting_on : (s.bin b).state ≠ .offline := by rw [ejects]; nofun

theorem ejecting_live (why : BinFault) (m : Option Lift) : (s.bin b).state ≠ .faulted why m := by rw [ejects]; nofun

/-- The fault that a timeout is: the outfeed is BLOCKED, the reserved slots are EMPTY again, and the bin keeps its
lift CLOSED. -/
theorem faultBin_ejectTimeout :
    let u := faultBin b .ejectTimeout s
    (∃ flying, (u.bin b).state
      = .faulted .ejectTimeout (some { l with state := .closed, slot := none, inFlight := flying }))
    ∧ u.outfeed.state = .blocked ∧ u.outfeed.timer = none
    ∧ ∀ n : SlotNo, u.slots[n]
        = if s.slots[n].state == .reserved b then { s.slots[n] with state := .empty } else s.slots[n] := by
  have is := faultBin_eq (ejecting_on ejects) (ejecting_live ejects) .ejectTimeout
  have held := EjectionHeld.loseEntries b (faultAnnounced b .ejectTimeout s)
  obtain ⟨-, state, timer, slots⟩ | ⟨other, -⟩ := faultAnnounced_ejection b .ejectTimeout s
  · refine ⟨?_, ?_, ?_, fun n => ?_⟩
    · rw [is, syncGates_bin_state]
      refine FaultLiftKept.loseEntries b _ .ejectTimeout { l with state := .closed, slot := none } ?_
      rw [faultAnnounced_bin, if_pos rfl, ejects]
      rfl
    · rw [is, syncGates_outfeed, held.state, state, if_pos rfl]
    · rw [is, syncGates_outfeed, held.timer, timer]
    · rw [is, syncGates_slots, held.slots, slots]
  · exact absurd ejects (other l)

theorem ejectTimeout_effect :
    let t := finish (faultBin b .ejectTimeout s)
    (∃ flying, (t.bin b).state
      = .faulted .ejectTimeout (some { l with state := .closed, slot := none, inFlight := flying }))
    ∧ t.outfeed.state = .blocked ∧ t.outfeed.timer = none
    ∧ ∀ n : SlotNo, t.slots[n]
        = if s.slots[n].state == .reserved b then { s.slots[n] with state := .empty } else s.slots[n] := by
  obtain ⟨⟨flying, faulted⟩, state, timer, slots⟩ := faultBin_ejectTimeout ejects
  have held := EjectionHeld.finish_of_blocked state
  obtain ⟨gate, settled⟩ := finish_bin_settled (.of_away (by rw [faulted]; rfl)) (by simp [faulted])
  refine ⟨⟨flying, ?_⟩, held.state.trans state, held.timer.trans timer, fun n => ?_⟩
  · rw [settled, faulted]
  · rw [held.slots, slots]

end

theorem exec_ejectTimeout_busy {b : BinNo} {n : SlotNo} {s : State} (busy : s.outfeed.state = .busy b n) :
    exec .ejectTimeout s = .next (finish (faultBin b .ejectTimeout s)) := by
  show Host.Outcome.next (timeOutEjection s) = _
  rw [timeOutEjection, busy]

theorem exec_ejectTimeout_idle {s : State} (idle : ∀ b n, s.outfeed.state ≠ .busy b n) :
    exec .ejectTimeout s = .next s := by
  show Host.Outcome.next (timeOutEjection s) = _
  unfold timeOutEjection
  split
  · next b n busy => exact absurd busy (idle b n)
  · rfl

/-! ### One millisecond with the eject timer at its last (log entry 1) -/

theorem settleHandover_bins_outfeed (s : State) (i : LineNo) :
    (settleHandover s i).bins = s.bins ∧ (settleHandover s i).outfeed = s.outfeed := by
  unfold settleHandover
  split
  · unfold expireHandover
    split <;> simp
  · exact ⟨rfl, rfl⟩

theorem tick_of_ejectOver {b : BinNo} {n : SlotNo} {s : State} (last : s.outfeed.timer = some 1)
    (busy : s.outfeed.state = .busy b n) :
    (tick s).bins = (finish (faultBin b .ejectTimeout (tickTimers s))).bins
    ∧ (tick s).outfeed = (finish (faultBin b .ejectTimeout (tickTimers s))).outfeed := by
  have settled (t : State) : (allFour.foldl settleHandover t).bins = t.bins
      ∧ (allFour.foldl settleHandover t).outfeed = t.outfeed :=
    foldl_rel (fun s t => t.bins = s.bins ∧ t.outfeed = s.outfeed) (fun _ => ⟨rfl, rfl⟩)
      (fun _ _ _ h k => ⟨k.1.trans h.1, k.2.trans h.2⟩) _ settleHandover_bins_outfeed _ t
  have ran_out : ejectOver (tickTimers s) = true := by
    simp [ejectOver, tickTimers, last]
  have busy' : (tickTimers s).outfeed.state = .busy b n := busy
  have acts : timeOutEjection (tickTimers s) = finish (faultBin b .ejectTimeout (tickTimers s)) := by
    rw [timeOutEjection, busy']
  have ticks : tick s = allFour.foldl settleHandover (finish (faultBin b .ejectTimeout (tickTimers s))) := by
    rw [tick, if_pos ran_out, acts]
  rw [ticks]
  exact settled _

/-! ### CLEAR_OUTFEED (R139) -/

theorem clearOutfeed_frees {r : Req} {s : State} (h : Admitted (.clearOutfeed r) s)
    (blocked : s.outfeed.state = .blocked) :
    exec (.clearOutfeed r) s
      = .next (closeEvent (done r .clearOutfeed .plain
          { freeBuffer r.port s with outfeed := { s.outfeed with state := .free } })) := by
  refine congrArg _ ((serve_admitted (h.canServe rfl)).trans ?_)
  exact if_pos blocked

theorem clearOutfeed_refuses {r : Req} {s : State} (h : Admitted (.clearOutfeed r) s)
    (other : s.outfeed.state ≠ .blocked) :
    exec (.clearOutfeed r) s = .next (answered r.port (refusedItem r .clearOutfeed .notNow) s) :=
  congrArg _ (serve_refuses (h.canServe rfl) (if_neg other))

/-- Settles O45: the timeout is the bin's fault with the outfeed left BLOCKED, as a command and by the clock. -/
theorem ejectTimeoutAndClearOutfeed : Obligations.EjectTimeoutAndClearOutfeed := by
  refine ⟨fun b n l s busy ejects => ?_, fun s => exec_ejectTimeout_idle,
    fun b n l s none_pending last busy ejects => ?_, fun r s h => ⟨clearOutfeed_refuses h, fun blocked => ?_⟩⟩
  · have on := ejecting_on ejects
    have live := ejecting_live ejects
    obtain ⟨⟨flying, faulted⟩, state, timer, slots⟩ := ejectTimeout_effect ejects
    obtain ⟨-, -, -, eject, unqueued, events, -⟩ := faultBin_effect on live .ejectTimeout
    have frame := faultBin_beltFrame b .ejectTimeout s
    refine ⟨_, _, exec_ejectTimeout_busy busy, frame.trans (finish_beltFrame _), faulted, eject, rfl, rfl, rfl, rfl,
      rfl, rfl, state, timer, unqueued, fun k reserved => ?_, fun k other => ?_, fun distinct => ⟨?_, ?_⟩, events,
      finish_idle frame⟩
    · rw [slots, if_pos (beq_iff_eq.mpr reserved)]
    · rw [slots, if_neg fun is => other (beq_iff_eq.mp is)]
    · exact faultBin_binLost on live .ejectTimeout distinct (.refl b s) rfl rfl
    · exact ((faultBin_bounded b .ejectTimeout s).leave.trans (.finish _)).eye distinct
  · obtain ⟨bins, outfeed⟩ := tick_of_ejectOver last busy
    obtain ⟨⟨flying, faulted⟩, state, timer, -⟩ := ejectTimeout_effect (s := tickTimers s) ejects
    refine ⟨tick s, by rw [step, none_pending], by rw [outfeed, state], by rw [outfeed, timer], ?_⟩
    rw [State.bin, bins]
    exact congrArg BinState.tag faulted
  · set u : State := { freeBuffer r.port s with outfeed := { s.outfeed with state := .free } } with hu
    have freed : BeltFrame (freeBuffer r.port s) u :=
      ⟨rfl, rfl, rfl, rfl, rfl, rfl, rfl, rfl, rfl, rfl, rfl, fun _ => rfl, fun _ => rfl, .inl rfl⟩
    obtain ⟨frame, tracker, events, tallies, -, -⟩ := answered_closeEvent r .clearOutfeed .plain freed
    exact ⟨_, clearOutfeed_frees h blocked, frame, closeEvent_outfeed_free rfl, 
      fun b settled => closeEvent_bin_state (s := done r .clearOutfeed .plain u) settled,
      fun k taken => closeEvent_slot_taken (s := done r .clearOutfeed .plain u) taken, tracker, events, tallies⟩

end Sys2Proof.Machine
end

section
/-! SUPPORT. The edges of a slot eye (R137, R141, R142, R156): the state each act leaves for the pass and the
test after it; then the statement about them. -/

namespace Sys2Proof.Machine

/-! ### What a matching pass leaves of a slot, of the pulls and of a port (R153) -/

/-- A lift that lies in a slot, STORED or ASSIGNED, with the marks that an assignment leaves. -/
structure LiesIn (l : Lift) (x : Slot) (m : Lift) : Prop where
  holds : x.state = .holding m
  id : m.id = l.id
  key : m.key = l.key
  landed : m.landed = l.landed
  order : m.closeOrder = l.closeOrder
  state : m.state = .stored ∨ m.state = .assigned

/-- What one lift's turn in a pass leaves of a slot: as it is, or its STORED lift ASSIGNED. -/
theorem matchSlot_slots (s : State) (m n : SlotNo) :
    (matchSlot s m).slots[n] = s.slots[n]
    ∨ ∃ l w, s.slots[n].state = .holding l
        ∧ (matchSlot s m).slots[n]
          = { s.slots[n] with state := .holding { l with state := .assigned, pull := some w } } := by
  by_cases own : n = m
  · subst own
    rcases matchSlot_cases s n with ⟨-, e⟩ | ⟨l, -, -, e⟩ | ⟨l, w, stored, -, e⟩ <;> rw [e]
    · exact .inl rfl
    · exact .inl rfl
    · exact .inr ⟨l, w.number, stored?_holding stored, vset_get_self ..⟩
  · exact .inl (matchSlot_slots_ne own)

theorem matchingPass_slot_holding {s : State} {n : SlotNo} {l m : Lift} (lies : LiesIn l s.slots[n] m) :
    ∃ k, LiesIn l (matchingPass s).slots[n] k := by
  refine foldl_rel (fun s t => (∃ m, LiesIn l s.slots[n] m) → ∃ k, LiesIn l t.slots[n] k) (fun _ => id)
    (fun _ _ _ h k => k ∘ h) _ (fun s k ⟨m, lies⟩ => ?_) _ s ⟨m, lies⟩
  rcases matchSlot_slots s k n with same | ⟨m', w, holds, same⟩ <;> rw [same]
  · exact ⟨m, lies⟩
  · obtain rfl : m = m' := by
      have := lies.holds.symm.trans holds
      injection this
    exact ⟨_, rfl, lies.id, lies.key, lies.landed, lies.order, .inr rfl⟩

theorem matchingPass_slot_other {s : State} {n : SlotNo} (other : ∀ l, s.slots[n].state ≠ .holding l) :
    (matchingPass s).slots[n] = s.slots[n] := by
  refine foldl_keeps (fun t => t.slots[n] = s.slots[n]) _ (fun t k same => ?_) _ s rfl
  rcases matchSlot_slots t k n with same' | ⟨l, w, holds, -⟩
  · rw [same', same]
  · exact absurd (same ▸ holds) (other l)

theorem matchingPass_slot_eye (s : State) (n : SlotNo) : (matchingPass s).slots[n].eye = s.slots[n].eye := by
  refine foldl_keeps (fun t => t.slots[n].eye = s.slots[n].eye) _ (fun t k same => ?_) _ s rfl
  rcases matchSlot_slots t k n with same' | ⟨l, w, -, same'⟩ <;> rw [same', same]

/-- A pass assigns pulls and raises pass counts; it renumbers none. -/
theorem matchingPass_numbers (s : State) :
    (matchingPass s).arbiter.pulls.map (fun q => q.number) = s.arbiter.pulls.map (fun q => q.number) := by
  refine foldl_keeps (fun t => t.arbiter.pulls.map (fun q => q.number) = s.arbiter.pulls.map (fun q => q.number)) _
    (fun t k same => Eq.trans ?_ same) _ s rfl
  rcases matchSlot_cases t k with ⟨-, e⟩ | ⟨l, -, -, e⟩ | ⟨l, w, -, -, e⟩ <;> rw [e]
  refine (List.map_map ..).trans (List.map_congr_left fun p _ => ?_)
  dsimp only [Function.comp]
  split
  · rfl
  · split <;> rfl

theorem queueNotice_port (i : LineNo) (x : Notice) (s : State) :
    (queueNotice i x s).port (.line i)
      = if (s.port (.line i)).queue.length < 16 then
          { s.port (.line i) with queue := (s.port (.line i)).queue ++ [.notice x] }
        else { s.port (.line i) with lost := true } :=
  vset_get_self ..

theorem queueNotice_queue (i : LineNo) (x : Notice) (s : State) (p : Port) :
    ∃ more, ((queueNotice i x s).port p).queue = (s.port p).queue ++ more := by
  by_cases own : p = .line i
  · subst own
    rw [queueNotice_port]
    split
    · exact ⟨_, rfl⟩
    · exact ⟨[], (List.append_nil _).symm⟩
  · exact ⟨[], by rw [queueNotice, setPort_port_ne _ _ _ _ (line_idx_ne own), List.append_nil]⟩

/-- A pass queues its notices behind what a port's queue holds. -/
theorem matchingPass_queue (s : State) (p : Port) :
    ∃ more, ((matchingPass s).port p).queue = (s.port p).queue ++ more := by
  refine foldl_rel (fun s t => ∃ more, (t.port p).queue = (s.port p).queue ++ more)
    (fun _ => ⟨[], (List.append_nil _).symm⟩) (fun _ _ _ ⟨x, h⟩ ⟨y, k⟩ => ⟨x ++ y, by rw [k, h, List.append_assoc]⟩) _
    (fun s n => ?_) _ s
  rcases matchSlot_cases s n with ⟨-, e⟩ | ⟨l, -, -, e⟩ | ⟨l, w, -, -, e⟩ <;> rw [e]
  · exact ⟨[], (List.append_nil _).symm⟩
  · exact ⟨[], (List.append_nil _).symm⟩
  · exact queueNotice_queue ..

/-! ### The end of an event whose gates stand (R89, R135) -/

section
variable {s : State} {n : SlotNo}

theorem closeEvent_of_upToDate (up : GatesUpToDate s) : exec .ejectionStart s = .next (closeEvent s) := by
  rw [exec_ejectionStart, closeEvent, syncGates_of_upToDate up]

theorem GatesUpToDate.matchingPass (up : GatesUpToDate s) : GatesUpToDate (matchingPass s) := by
  have bin (b : BinNo) : (Machine.matchingPass s).bin b = s.bin b := by rw [State.bin, matchingPass_bins]; rfl
  exact up.of_same (fun b => by rw [bin]) (fun b => by rw [bin]) (by rw [matchingPass_tracker])
    (matchingPass_redryGate s)

theorem closeEvent_bin_settled {b : BinNo} (settled : ∀ l, (s.bin b).state ≠ .fullWait l) :
    (closeEvent s).bin b = { s.bin b with gate := gateDue s b } := by
  unfold closeEvent
  rcases ejectionTest_cases (syncGates s) with e | ⟨c, rest, k, l, -, -, -, waits, e⟩ <;> rw [e]
  · exact syncGates_bin s b
  · have other : b ≠ c := by
      rintro rfl
      rw [syncGates_bin_state] at waits
      exact settled l waits
    rw [startEjection_bin, if_neg other, syncGates_bin]

end

/-- What a pass and the test after it leave alone. -/
theorem passed_frame (s : State) :
    let t := closeEvent (matchingPass s)
    t.events = s.events ∧ t.tracker = s.tracker ∧ t.banks = s.banks ∧ t.geometry = s.geometry ∧ t.mode = s.mode
    ∧ t.tallies = s.tallies ∧ t.refusal = s.refusal ∧ t.pending = s.pending := by
  have ended := closeEvent_beltFrame (matchingPass s)
  have passed := matchingPass_passFrame s
  exact ⟨(closeEvent_events _).trans passed.events, (closeEvent_tracker _).trans passed.tracker,
    ended.banks.trans passed.banks, ended.geometry.trans passed.geometry, (closeEvent_mode _).trans passed.mode,
    (closeEvent_tallies _).trans passed.tallies, ended.refusal.trans passed.refusal,
    ended.pending.trans passed.pending⟩

/-! ### The edges of a slot eye, by the slot's state (R141) -/

section
variable {s : State} {n : SlotNo}

theorem slotEyeBlocked_blocked (blocked : s.slots[n].eye = true) : exec (.slotEyeBlocked n) s = .next s :=
  congrArg _ (if_pos blocked)

theorem slotEyeClears_clear (clear : s.slots[n].eye = false) : exec (.slotEyeClears n) s = .next s :=
  congrArg _ (if_pos (by rw [clear]; rfl))

/-- The eye of slot `n` moves. -/
def slotSeen (n : SlotNo) (x : Bool) (s : State) : State := setSlot n (fun y => { y with eye := x }) s

theorem slotEyeBlocked_moves (clear : s.slots[n].eye = false)
    (apart : s.slots[n].state = .offline ∨ s.slots[n].state = .faulted) :
    exec (.slotEyeBlocked n) s = .next (slotSeen n true s) := by
  refine congrArg _ ((if_neg (by rw [clear]; nofun)).trans ?_)
  rcases apart with is | is <;> rw [is] <;> rfl

theorem slotEyeBlocked_empty (clear : s.slots[n].eye = false) (empty : s.slots[n].state = .empty) :
    exec (.slotEyeBlocked n) s
      = .next { s with
          slots := vset s.slots n { state := .faulted, eye := true }
          events := s.events.append (.slotFaulted n) } := by
  refine congrArg _ ((if_neg (by rw [clear]; nofun)).trans ?_)
  rw [empty]
  dsimp only [raise, setSlot]
  rw [vset_get_self, vset_vset]

theorem slotEyeBlocked_reserved {b : BinNo} (clear : s.slots[n].eye = false)
    (reserved : s.slots[n].state = .reserved b) :
    exec (.slotEyeBlocked n) s = .next (completeEjection b n (slotSeen n true s)) := by
  refine congrArg _ ((if_neg (by rw [clear]; nofun)).trans ?_)
  rw [reserved]
  rfl

theorem slotEyeClears_moves (blocked : s.slots[n].eye = true) (other : ∀ l, s.slots[n].state ≠ .holding l) :
    exec (.slotEyeClears n) s = .next (slotSeen n false s) := by
  refine congrArg _ ((if_neg (by rw [blocked]; nofun)).trans ?_)
  split
  · next l holds => exact absurd holds (other l)
  · rfl

theorem slotEyeClears_holding {l : Lift} (blocked : s.slots[n].eye = true) (holds : s.slots[n].state = .holding l) :
    (takerOf s l = none → exec (.slotEyeClears n) s = .next (unclaimedRemoval n l (slotSeen n false s)))
    ∧ ∀ p, takerOf s l = some p → exec (.slotEyeClears n) s = .next (takenRemoval n l p (slotSeen n false s)) := by
  refine ⟨fun none => ?_, fun p taken => ?_⟩
  · refine congrArg _ ((if_neg (by rw [blocked]; nofun)).trans ?_)
    rw [holds]
    dsimp only
    rw [none]
    rfl
  · refine congrArg _ ((if_neg (by rw [blocked]; nofun)).trans ?_)
    rw [holds]
    dsimp only
    rw [taken]
    rfl

end

/-! ### An ejection completed (R137) -/

/-- The state that the completion of an ejection leaves for the pass and the test after it. -/
def ejectionDone (b : BinNo) (n : SlotNo) (l : Lift) (s : State) : State :=
  { s with
    slots := vset s.slots n { state := .holding { l with state := .stored }, eye := true }
    bins := vset s.bins b { s.bin b with state := .ready, eject := false }
    outfeed := { s.outfeed with state := .free, timer := none }
    events := s.events.append (.liftStored l.id n) }

section
variable {b : BinNo} {n : SlotNo} {l : Lift} {s : State} (ejects : (s.bin b).state = .ejecting l)
include ejects

theorem completeEjection_eq :
    completeEjection b n (slotSeen n true s) = closeEvent (matchingPass (ejectionDone b n l s)) := by
  have ejects' : ((slotSeen n true s).bin b).state = .ejecting l := ejects
  unfold completeEjection
  rw [ejects']
  dsimp only [ejectionDone, slotSeen, raise, storeLift, setSlot, setBin]
  rw [vset_get_self, vset_vset]
  rfl

theorem ejectionDone_upToDate (up : GatesUpToDate s) : GatesUpToDate (ejectionDone b n l s) := by
  have bin (c : BinNo) : (ejectionDone b n l s).bin c
      = if c = b then { s.bin b with state := .ready, eject := false } else s.bin c := vset_get _ _ _ _
  refine up.of_same (fun c => ?_) (fun c => ?_) rfl rfl <;> rw [bin] <;> split
  · next own => rw [own]
  · rfl
  · next own => rw [own, ejects]; rfl
  · rfl

end

/-- What the pass and the test after a completed ejection leave. -/
theorem ejectionDone_effect (b : BinNo) (n : SlotNo) (l : Lift) (s : State) :
    let t := closeEvent (matchingPass (ejectionDone b n l s))
    (∃ m, LiesIn l t.slots[n] m) ∧ t.slots[n].eye = true ∧ (t.bin b).state = .ready ∧ (t.bin b).eject = false
    ∧ (t.outfeed.state = .free ∨ ∃ c k, t.outfeed.state = .busy c k) := by
  have slot : (ejectionDone b n l s).slots[n] = { state := .holding { l with state := .stored }, eye := true } :=
    vset_get_self ..
  obtain ⟨m, lies⟩ := matchingPass_slot_holding (s := ejectionDone b n l s) (n := n) (l := l)
    (m := { l with state := .stored }) (by rw [slot]; exact ⟨rfl, rfl, rfl, rfl, rfl, .inl rfl⟩)
  have kept := closeEvent_slot_taken (s := matchingPass (ejectionDone b n l s)) (n := n) (by rw [lies.holds]; nofun)
  have bin : (matchingPass (ejectionDone b n l s)).bin b = { s.bin b with state := .ready, eject := false } := by
    rw [State.bin, matchingPass_bins]
    exact vset_get_self ..
  have settled := closeEvent_bin_settled (s := matchingPass (ejectionDone b n l s)) (b := b) (by rw [bin]; nofun)
  refine ⟨⟨m, by rwa [kept]⟩, ?_, ?_, ?_, closeEvent_outfeed_free (by rw [matchingPass_outfeed]; rfl)⟩
  · rw [kept, matchingPass_slot_eye, slot]
  · rw [settled, bin]
  · rw [settled, bin]

/-! ### A removal that no line is assigned (R142) -/

/-- The state that an unclaimed removal leaves for the test after it. -/
def removedUnclaimed (n : SlotNo) (l : Lift) (s : State) : State :=
  { s with
    slots := vset s.slots n { state := .empty, eye := false }
    events := s.events.append (.liftUnclaimed l.id n)
    tallies := { s.tallies with unclaimed := min 4294967295 (s.tallies.unclaimed + 1) } }

theorem removedUnclaimed_eq (n : SlotNo) (l : Lift) (s : State) :
    tally (fun t => { t with unclaimed := tallyAdd 1 t.unclaimed })
        (raise (.liftUnclaimed l.id n) (vacate n (slotSeen n false s)))
      = removedUnclaimed n l s := by
  dsimp only [removedUnclaimed, slotSeen, raise, tally, vacate, setSlot]
  rw [vset_get_self, vset_vset]
  rfl

theorem unclaimedRemoval_eq (n : SlotNo) (l : Lift) (s : State) :
    unclaimedRemoval n l (slotSeen n false s) = closeEvent (removedUnclaimed n l s) :=
  congrArg closeEvent (removedUnclaimed_eq n l s)

theorem removedUnclaimed_beltFrame (n : SlotNo) (l : Lift) (s : State) :
    BeltFrame (slotSeen n false s) (removedUnclaimed n l s) := by
  rw [← removedUnclaimed_eq]
  have emptied : BeltFrame (slotSeen n false s) (vacate n (slotSeen n false s)) :=
    setSlot_beltFrame n (fun x => { x with state := .empty }) _ fun _ => rfl
  exact (emptied.trans (raise_beltFrame _ _)).trans (tally_beltFrame _ _)

theorem takerOf_stored {l : Lift} (s : State) (stored : l.state = .stored) : takerOf s l = none :=
  if_neg (by rw [stored]; nofun)

/-! ### A removal by the line of an ASSIGNED lift (R156) -/

/-- The state that a TAKEN removal leaves for the pass and the test after it. -/
def removedTaken (n : SlotNo) (l : Lift) (p : Pull) (s : State) : State :=
  { s with
    slots := vset s.slots n { state := .empty, eye := false }
    arbiter :=
      { s.arbiter with
        pulls := s.arbiter.pulls.eraseP (fun q => q.number == p.number && q.line == p.line) }
    ports := noticed p.line (.taken p.number l.id n) s
    events := s.events.append (.liftTaken l.id n p.line)
    tallies := { s.tallies with taken := min 4294967295 (s.tallies.taken + 1) } }

theorem takenRemoval_eq (n : SlotNo) (l : Lift) (p : Pull) (s : State) :
    takenRemoval n l p (slotSeen n false s) = closeEvent (matchingPass (removedTaken n l p s)) := by
  dsimp only [takenRemoval, removedTaken, slotSeen, raise, tally, vacate, setSlot, endPull, setArbiter, queueNotice,
    setPort]
  rw [vset_get_self, vset_vset]
  rfl

theorem takerOf_assigned {s : State} {l : Lift} {p : Pull} (assigned : l.state = .assigned)
    (pull : l.pull = some p.number) (found : s.arbiter.pulls.find? (fun q => q.number == p.number) = some p) :
    takerOf s l = some p := by
  have test : (fun q : Pull => l.pull == some q.number) = fun q => q.number == p.number := by
    funext q
    rw [pull, Option.some_beq_some, BEq.comm]
  rw [takerOf, if_pos assigned, test, found]

/-- The pull that ends is the first of its number, so the table loses that record. -/
theorem eraseP_taken {pulls : List Pull} {p : Pull} (found : pulls.find? (fun q => q.number == p.number) = some p) :
    pulls.eraseP (fun q => q.number == p.number && q.line == p.line) = pulls.erase p := by
  obtain ⟨-, before, after, rfl, apart⟩ := List.find?_eq_some_iff_append.mp found
  have other (q : Pull) (mem : q ∈ before) : (q.number == p.number) = false := by simpa using apart q mem
  have absent : p ∉ before := fun mem => by simpa using other p mem
  rw [List.eraseP_append_right _ fun q mem => by simp [other q mem], List.erase_append_right _ absent,
    List.eraseP_cons_of_pos (by simp), List.erase_cons_head]

/-- What the pass and the test after a TAKEN removal leave. -/
theorem removedTaken_effect (n : SlotNo) (l : Lift) (p : Pull) (s : State) :
    let t := closeEvent (matchingPass (removedTaken n l p s))
    (t.slots[n].state = .empty ∨ ∃ b, t.slots[n].state = .reserved b) ∧ t.slots[n].eye = false
    ∧ t.arbiter.pulls.map (fun q => q.number)
      = (s.arbiter.pulls.eraseP (fun q => q.number == p.number && q.line == p.line)).map (fun q => q.number)
    ∧ ∃ more, (t.port (.line p.line)).queue
        = (if (s.port (.line p.line)).queue.length < 16
            then (s.port (.line p.line)).queue ++ [.notice (.taken p.number l.id n)]
            else (s.port (.line p.line)).queue) ++ more := by
  have frame := closeEvent_beltFrame (matchingPass (removedTaken n l p s))
  have slot : (removedTaken n l p s).slots[n] = { state := .empty, eye := false } := vset_get_self ..
  have empty : (matchingPass (removedTaken n l p s)).slots[n] = { state := .empty, eye := false } := by
    rw [matchingPass_slot_other (by rw [slot]; nofun), slot]
  refine ⟨closeEvent_slot_empty (by rw [empty]), ?_, ?_, ?_⟩
  · rw [frame.slotEyes, empty]
  · rw [frame.arbiter, matchingPass_numbers]
    rfl
  · obtain ⟨more, queue⟩ := matchingPass_queue (removedTaken n l p s) (.line p.line)
    have noticed : (removedTaken n l p s).port (.line p.line) = _ :=
      queueNotice_port p.line (.taken p.number l.id n) s
    refine ⟨more, ?_⟩
    rw [State.port, frame.ports]
    refine queue.trans (congrArg (· ++ more) ?_)
    rw [noticed]
    split <;> rfl

/-- Settles O44: each edge by the state of the slot, with the pass and the test of R135 and R153 after it. -/
theorem slotEyeEdges : Obligations.SlotEyeEdges := by
  intro n s seen
  refine ⟨slotEyeBlocked_blocked, slotEyeBlocked_moves, slotEyeBlocked_empty, fun b l clear reserved ejects => ?_,
    slotEyeClears_clear, slotEyeClears_moves, fun l blocked holds stored => ?_,
    fun l p blocked holds assigned pull found => ?_⟩
  · obtain ⟨⟨m, lies⟩, eye, ready, eject, outfeed⟩ := ejectionDone_effect b n l s
    have acts := (slotEyeBlocked_reserved clear reserved).trans (congrArg _ (completeEjection_eq ejects))
    exact ⟨_, m, acts, lies.holds, eye, lies.id, lies.key, lies.landed, lies.order, lies.state, ready, eject, outfeed,
      ⟨matchingPass (ejectionDone b n l s), matchingPass_isPass _,
        fun up => closeEvent_of_upToDate (ejectionDone_upToDate ejects up).matchingPass⟩, passed_frame _⟩
  · have acts := (slotEyeClears_holding blocked holds).1 (takerOf_stored s stored)
    rw [unclaimedRemoval_eq] at acts
    have up (gates : GatesUpToDate s) : GatesUpToDate (removedUnclaimed n l s) :=
      gates.of_same (fun _ => rfl) (fun _ => rfl) rfl rfl
    exact ⟨_, acts, (removedUnclaimed_beltFrame n l s).trans (closeEvent_beltFrame _),
      closeEvent_slot_empty (congrArg Slot.state (vset_get_self ..)), closeEvent_events _, closeEvent_tallies _,
      closeEvent_tracker _, fun gates => closeEvent_of_upToDate (up gates)⟩
  · obtain ⟨slot, eye, numbers, queue⟩ := removedTaken_effect n l p s
    have acts := (slotEyeClears_holding blocked holds).2 p (takerOf_assigned assigned pull found)
    rw [takenRemoval_eq] at acts
    have up (gates : GatesUpToDate s) : GatesUpToDate (removedTaken n l p s) :=
      gates.of_same (fun _ => rfl) (fun _ => rfl) rfl rfl
    refine ⟨_, acts, slot, eye, ⟨matchingPass (removedTaken n l p s), matchingPass_isPass _,
      fun gates => closeEvent_of_upToDate (up gates).matchingPass⟩, by rw [numbers, eraseP_taken found], queue, ?_⟩
    obtain ⟨events, tracker, banks, geometry, mode, tallies, refusal, pending⟩ := passed_frame (removedTaken n l p s)
    exact ⟨events, tallies, tracker, banks, geometry, mode, refusal, pending⟩

end Sys2Proof.Machine
end

section
/-! SUPPORT. No command but START brings RUN (R164 to R169): what every operation of the part leaves of the mode, then
every command and one millisecond. -/

namespace Sys2Proof.Machine

/-- The mode is RUN only where it was RUN before. -/
def RunKept (s t : State) : Prop := t.mode = .run → s.mode = .run

namespace RunKept

variable {s t u : State}

theorem trans (h : RunKept s t) (k : RunKept t u) : RunKept s u := fun run => h (k run)

theorem of_mode (same : t.mode = s.mode) : RunKept s t := fun run => same.symm.trans run

theorem refl (s : State) : RunKept s s := of_mode rfl

/-- A mode other than RUN is set after any act. -/
theorem of_live {m : SortMode} (live : m ≠ .run) (mode : t.mode = m) : RunKept s t := fun run =>
  absurd (mode.symm.trans run) live

/-- The end of an event keeps the mode (R89, R135). -/
theorem closeEvent (h : RunKept s t) : RunKept s (closeEvent t) := h.trans (of_mode (closeEvent_mode t))

end RunKept

/-- The events of the belt and the bins bring no mode but IDLE (R167). -/
theorem BeltFrame.runKept {s t : State} (h : BeltFrame s t) : RunKept s t := by
  rcases h.mode with same | ⟨-, idle⟩
  · exact .of_mode same
  · exact .of_live (by decide) idle

theorem PassFrame.runKept {s t : State} (h : PassFrame s t) : RunKept s t := .of_mode h.mode

theorem runKept_blind : ReplyBlind RunKept := ⟨.refl, .trans, fun _ _ _ => .of_mode rfl⟩

/-- Every next state that an outcome answers is in RUN only where the state before was. -/
def OutcomeRun (s : State) (o : Host.Outcome State Fault Refusal) : Prop := ∀ t, o = .next t → RunKept s t

theorem OutcomeRun.next {s t : State} (h : RunKept s t) : OutcomeRun s (.next t) := by
  rintro _ ⟨⟩
  exact h

theorem OutcomeRun.fault {s : State} (why : Fault) : OutcomeRun s (.fault why) := by
  rintro _ ⟨⟩

section
variable (r : Req) (s : State)

/-! ### The recipe banks, the geometry and the modes (chapters 2, 4 and 9) -/

theorem execActivate_runKept (n : Nat) : OutcomeRun s (execActivate r n s) := by
  refine .next (runKept_blind.serve fun t => ?_)
  split
  · refine rel_ite (fun _ => .of_mode rfl) fun _ => ?_
    split
    · exact .of_mode rfl
    · exact .of_mode (by
        rw [closeEvent_mode, done_mode, completeDrains_mode, drainBins_mode, switchBank_eq])
  · exact .of_mode rfl

theorem execWriteGeometry_runKept (p : GeomParam) (v : Option Nat) : OutcomeRun s (execWriteGeometry r p v s) := by
  refine .next (runKept_blind.serve fun t => rel_ite (fun _ => runKept_blind.refuse _ _ _ t) fun _ =>
    rel_ite (fun _ => runKept_blind.refuse _ _ _ t) fun _ => ?_)
  dsimp only
  split
  · exact .of_mode rfl
  · refine RunKept.trans ?_ (nearerPassages_beltFrame _ _ _).runKept
    exact .of_mode rfl

theorem execDrain_runKept : OutcomeRun s (execDrain r s) := by
  refine .next (runKept_blind.serve fun t => rel_ite (fun _ => ?_) fun _ => runKept_blind.refuse _ _ _ t)
  have drains : RunKept t (setMode .drain t) := .of_live (by decide) (setMode_mode _ _)
  exact (runKept_blind.done (drains.trans (endDrainIfDue_beltFrame _).runKept) _ _ _).closeEvent

theorem execStop_runKept : OutcomeRun s (execStop r s) :=
  .next (runKept_blind.serve fun t => rel_ite (fun _ => runKept_blind.refuse _ _ _ t) fun _ =>
    (runKept_blind.done (.of_live (by decide) (setMode_mode .idle (discardQueue t))) _ _ _).closeEvent)

theorem emptyQueues_mode : (emptyQueues s).mode = s.mode := rfl

theorem execRestart_runKept : OutcomeRun s (execRestart r s) := by
  refine .next (runKept_blind.serve fun t => ?_)
  have stops : (emptyQueues (setMode .idle (discardPulls (discardQueue t)))).mode = .idle := by
    rw [emptyQueues_mode, setMode_mode]
  exact (runKept_blind.done (.of_live (by decide) stops) _ _ _).closeEvent

/-! ### The bins (chapters 5 and 6) -/

theorem discardLift_mode (b : BinNo) (why : DiscardReason) (l : Lift) (x : BinState) :
    (discardLift b why l x s).mode = s.mode := rfl

theorem closeLift_mode (b : BinNo) (why : CloseReason) (l : Lift) : (closeLift b why l s).mode = s.mode := rfl

theorem waitForOutfeed_mode (b : BinNo) (l : Lift) : (waitForOutfeed b l s).mode = s.mode := rfl

theorem clearFaulted_mode (b : BinNo) (lift : Option Lift) : (clearFaulted r b lift s).mode = s.mode := by
  unfold clearFaulted
  split
  · rfl
  · simp only [apply_ite State.mode, done_mode, discardLift_mode, closeLift_mode, waitForOutfeed_mode, setBin_mode,
      ite_self]

theorem execClearBin_runKept (n : Nat) : OutcomeRun s (execClearBin r n s) := by
  refine .next (runKept_blind.serve fun t => ?_)
  split
  · exact .of_mode rfl
  · split
    · exact rel_ite (fun _ => .of_mode rfl) fun _ => (RunKept.of_mode (clearFaulted_mode r t _ _)).closeEvent
    · exact .of_mode rfl

theorem execBinOnline_runKept (n : Nat) : OutcomeRun s (execBinOnline r n s) := by
  refine .next (runKept_blind.serve fun t => ?_)
  split
  · exact .of_mode rfl
  · exact rel_ite (fun _ => .of_mode rfl) fun _ => rel_ite (fun _ => .of_mode rfl) fun _ => .of_mode rfl

theorem execBinOffline_runKept (n : Nat) : OutcomeRun s (execBinOffline r n s) := by
  refine .next (runKept_blind.serve fun t => ?_)
  split
  · exact .of_mode rfl
  · split <;> exact .of_mode rfl

theorem closeShort_mode (b : BinNo) (l : Lift) : (closeShort b l s).mode = s.mode := completeDrain_mode b _

theorem execCloseBin_runKept (n : Nat) : OutcomeRun s (execCloseBin r n s) := by
  refine .next (runKept_blind.serve fun t => ?_)
  split
  · exact .of_mode rfl
  · split
    · exact (runKept_blind.done (.of_mode (closeShort_mode t _ _)) _ _ _).closeEvent
    · exact .of_mode rfl

theorem execForceClose_runKept (code : Nat) (cls : Option Nat) : OutcomeRun s (execForceClose r code cls s) := by
  refine .next (runKept_blind.take fun t => ?_)
  split
  · refine rel_ite (fun _ => .of_mode rfl) fun _ => rel_ite (fun _ => .of_mode rfl) fun _ => ?_
    split
    · exact .of_mode rfl
    · exact (runKept_blind.done (.of_mode (closeShort_mode t _ _)) _ _ _).closeEvent
  · exact .of_mode rfl

/-! ### The outfeed and the slots (chapter 7) -/

theorem execClearOutfeed_runKept : OutcomeRun s (execClearOutfeed r s) := by
  refine .next (runKept_blind.serve fun t => rel_ite (fun _ => ?_) fun _ => runKept_blind.refuse _ _ _ t)
  exact .of_mode (closeEvent_mode _)

theorem execSlotOnline_runKept (n : Nat) : OutcomeRun s (execSlotOnline r n s) := by
  refine .next (runKept_blind.serve fun t => ?_)
  split
  · exact .of_mode rfl
  · exact rel_ite (fun _ => .of_mode rfl) fun _ => rel_ite (fun _ => .of_mode rfl) fun _ =>
      .of_mode (closeEvent_mode _)

theorem execSlotOffline_runKept (n : Nat) : OutcomeRun s (execSlotOffline r n s) := by
  refine .next (runKept_blind.serve fun t => ?_)
  split
  · exact .of_mode rfl
  · exact rel_ite (fun _ => .of_mode rfl) fun _ => .of_mode rfl

theorem execClearSlot_runKept (n : Nat) : OutcomeRun s (execClearSlot r n s) := by
  refine .next (runKept_blind.serve fun t => ?_)
  split
  · exact .of_mode rfl
  · exact rel_ite (fun _ => .of_mode rfl) fun _ => rel_ite (fun _ => .of_mode rfl) fun _ =>
      .of_mode (closeEvent_mode _)

theorem completeEjection_mode (b : BinNo) (n : SlotNo) : (completeEjection b n s).mode = s.mode := by
  unfold completeEjection
  split
  · rw [closeEvent_mode, matchingPass_mode]
    rfl
  · rfl

theorem execSlotEyeBlocked_runKept (n : SlotNo) : OutcomeRun s (execSlotEyeBlocked n s) := by
  refine .next (rel_ite (fun _ => .refl s) fun _ => ?_)
  dsimp only
  split
  · exact .of_mode rfl
  · exact .of_mode (completeEjection_mode _ _ n)
  · exact .of_mode rfl

theorem takenRemoval_mode (n : SlotNo) (l : Lift) (p : Pull) : (takenRemoval n l p s).mode = s.mode := by
  rw [takenRemoval, closeEvent_mode, matchingPass_mode]
  rfl

theorem unclaimedRemoval_mode (n : SlotNo) (l : Lift) : (unclaimedRemoval n l s).mode = s.mode := closeEvent_mode _

theorem execSlotEyeClears_runKept (n : SlotNo) : OutcomeRun s (execSlotEyeClears n s) := by
  refine .next (rel_ite (fun _ => .refl s) fun _ => ?_)
  dsimp only
  split
  · split
    · exact .of_mode (takenRemoval_mode _ n _ _)
    · exact .of_mode (unclaimedRemoval_mode _ n _)
  · exact .of_mode rfl

/-! ### The pulls (chapter 8) -/

theorem matchingPass_runKept {s t : State} (same : t.mode = s.mode) : RunKept s (matchingPass t) :=
  .of_mode ((matchingPass_mode t).trans same)

theorem execPull_runKept (code : Nat) (bank cls : Option Nat) (nowait : Bool) :
    OutcomeRun s (execPull r code bank cls nowait s) := by
  refine .next (runKept_blind.take fun t => ?_)
  split
  · exact rel_ite (fun _ => .of_mode rfl) fun _ => rel_ite (fun _ => .of_mode rfl) fun _ =>
      rel_ite (fun _ => .of_mode rfl) fun _ => rel_ite (fun _ => .of_mode rfl) fun _ => matchingPass_runKept rfl
  · exact .of_mode rfl

theorem giveBackLift_mode (number : Nat) : (giveBackLift number s).mode = s.mode := by
  unfold giveBackLift
  split <;> rfl

theorem execRelease_runKept (number : Nat) : OutcomeRun s (execRelease r number s) := by
  refine .next (runKept_blind.take fun t => ?_)
  split
  · refine rel_ite (fun _ => .of_mode rfl) fun _ => ?_
    split
    · split
      · exact matchingPass_runKept (giveBackLift_mode t number)
      · exact .of_mode rfl
    · exact rel_ite (fun _ => .of_mode rfl) fun _ => .of_mode rfl
  · exact .of_mode rfl

theorem execCancel_runKept (number : Nat) : OutcomeRun s (execCancel r number s) := by
  refine .next (runKept_blind.take fun t => ?_)
  split
  · refine rel_ite (fun _ => .of_mode rfl) fun _ => ?_
    split
    · split <;> exact .of_mode rfl
    · exact .of_mode rfl
  · exact .of_mode rfl

theorem expireHandover_runKept (i : LineNo) : RunKept s (expireHandover i s) := by
  unfold expireHandover
  split
  · exact matchingPass_runKept rfl
  · exact .refl s

/-! ### The scan port and the entry eye (chapters 1 and 3) -/

theorem execSheetReport_runKept (p : Port) (tag : Byte) (payload : List Byte) :
    OutcomeRun s (execSheetReport p tag payload s) := by
  rcases sheetReport_cases p tag payload s with ⟨-, is⟩ | outcome
  · rw [is]
    exact .next (.refl s)
  · have taken {t : State} (h : RunKept (freeBuffer p s) t) : OutcomeRun s (.next t) :=
      .next ((runKept_blind.freeBuffer p s).trans h)
    generalize execSheetReport p tag payload s = o at outcome
    cases outcome with
    | denied | invalid | outOfStep => exact taken (.of_mode rfl)
    | noSheet =>
      have counted := (countMismatch_beltFrame (freeBuffer p s)).trans (finish_beltFrame _)
      exact taken (RunKept.trans (rel_ite (fun _ => counted.runKept) fun _ => .refl _) (runKept_blind.refuse _ _ _ _))
    | noBank => exact .fault _
    | mismatch raw e eye k =>
      have work := ((setEntry_beltFrame e.id (fun x => { x with bank := some k }) (freeBuffer p s)).trans
        (rejectEntry_beltFrame e.id .mismatch none _)).trans (countMismatch_beltFrame _)
      exact taken ((runKept_blind.done work.runKept _ _ _).trans (finish_beltFrame _).runKept)
    | good raw e eye k =>
      rw [bindGood_eq (reportReq p tag) k e raw (freeBuffer p s) rfl rfl]
      have work (v : Verdict) (plan : RoutePlan) := (agreed_beltFrame e.id k v (freeBuffer p s)).trans
        (applyRoute_beltFrame e.id plan _)
      exact taken ((runKept_blind.done (work _ _).runKept _ _ _).trans (finish_beltFrame _).runKept)

theorem execEntryEyeLeadingEdge_runKept : OutcomeRun s (exec .entryEyeLeadingEdge s) := by
  rcases leadingEdge_cases s with ⟨-, is⟩ | ⟨-, -, is⟩ | ⟨-, -, -, is⟩ | ⟨-, -, -, is⟩ <;> rw [is]
  · exact .next (.refl s)
  · exact .next (.of_mode rfl)
  · refine .next (RunKept.trans ?_ ((setMismatches_beltFrame 3 _).trans (finish_beltFrame _)).runKept)
    exact .of_mode rfl
  · exact .next (.of_mode rfl)

theorem execEntryEyeTrailingEdge_runKept : OutcomeRun s (execEntryEyeTrailingEdge s) := by
  have measured : RunKept s (measureNewest s) := by
    unfold measureNewest
    split <;> exact .of_mode rfl
  exact .next (rel_ite (fun _ => .refl s) fun _ =>
    RunKept.trans (rel_ite (fun _ => measured) fun _ => .refl s) (.of_mode rfl))

/-! ### Every command, and one millisecond -/

/-- Only START brings RUN (R165). -/
theorem exec_runKept (c : Instr) (other : ∀ r, c ≠ .start r) : OutcomeRun s (exec c s) := by
  cases c with
  | start r => exact absurd rfl (other r)
  | fullReset pins => exact .next (.of_live (m := .idle) (by decide) rfl)
  | sheetReport p tag payload => exact execSheetReport_runKept s p tag payload
  | scanResync r =>
    exact .next (runKept_blind.serve fun t => runKept_blind.done (setMismatches_beltFrame 0 t).runKept _ _ _)
  | selectBank | readBank | eventRead | writeEjectTimeout | writePassLimit | writeHandoverTimeout =>
    refine .next (runKept_blind.serve fun t => ?_)
    split <;> exact .of_mode rfl
  | validate | writeLine =>
    refine .next (runKept_blind.serve fun t => ?_)
    split
    · split <;> exact .of_mode rfl
    · exact .of_mode rfl
  | readGrade =>
    refine .next (runKept_blind.serve fun t => ?_)
    split
    · split
      · split <;> exact .of_mode rfl
      · exact .of_mode rfl
    · exact .of_mode rfl
  | tallyRead =>
    refine .next (runKept_blind.serve fun t => ?_)
    split
    · exact .of_mode rfl
    · split <;> exact .of_mode rfl
  | tallyClear | writeEventMask =>
    refine .next (runKept_blind.serve fun t => ?_)
    exact .of_mode rfl
  | writeClasses | writeWeights | writeLimits | writeGrade | deleteGrade =>
    refine .next (runKept_blind.serveWrite fun t => ?_)
    split <;> exact .of_mode rfl
  | clearBank => exact .next (runKept_blind.serveWrite fun t => .of_mode rfl)
  | activate r n => exact execActivate_runKept r s n
  | writeGeometry r p v => exact execWriteGeometry_runKept r s p v
  | clearBin r n => exact execClearBin_runKept r s n
  | binOnline r n => exact execBinOnline_runKept r s n
  | binOffline r n => exact execBinOffline_runKept r s n
  | closeBin r n => exact execCloseBin_runKept r s n
  | forceClose r code cls => exact execForceClose_runKept r s code cls
  | clearOutfeed r => exact execClearOutfeed_runKept r s
  | slotOnline r n => exact execSlotOnline_runKept r s n
  | slotOffline r n => exact execSlotOffline_runKept r s n
  | clearSlot r n => exact execClearSlot_runKept r s n
  | pull r code bank cls nowait => exact execPull_runKept r s code bank cls nowait
  | release r n => exact execRelease_runKept r s n
  | cancel r n => exact execCancel_runKept r s n
  | drain r => exact execDrain_runKept r s
  | stop r => exact execStop_runKept r s
  | restart r => exact execRestart_runKept r s
  | queryTracker | queryBins | queryStoredLifts | queryPulls | queryOutfeed | querySettings | queryLines
  | queryRefusals | queryPorts | queryMode => exact .next (runKept_blind.serveQuery _ _ _ _ _ _ s)
  | unknownRequest p tag what =>
    refine .next (runKept_blind.takeFrame fun t => ?_)
    cases what with
    | kind => exact .of_mode rfl
    | subject => exact rel_ite (fun _ => .of_mode rfl) fun _ => .of_mode rfl
  | frameReceived | sendItem | interByteGapTimeout | partFrameEnds => exact .next (.of_mode rfl)
  | travelPulse => exact .next (RunKept.trans (.of_mode (countTravel_mode s)) (duePassages_beltFrame _).runKept)
  | entryEyeLeadingEdge => exact execEntryEyeLeadingEdge_runKept s
  | entryEyeTrailingEdge => exact execEntryEyeTrailingEdge_runKept s
  | decisionPointPassage n => exact .next (passDecision_beltFrame s n).runKept
  | gateOpenPassage n => exact .next (passGateOpen_beltFrame s n).runKept
  | gateClosePassage n => exact .next (passGateClose_beltFrame s n).runKept
  | landingWindowEnd n => exact .next (passWindowEnd_beltFrame s n).runKept
  | redryGateOpenPassage n => exact .next (passRedryOpen_beltFrame s n).runKept
  | redryGateClosePassage n => exact .next (passRedryClose_beltFrame s n).runKept
  | beltEndPassage n => exact .next (passBeltEnd_beltFrame s n).runKept
  | eyeStuckPassage b => exact .next (passEyeStuck_beltFrame s b).runKept
  | landedEyeBlocked b =>
    refine .next (rel_ite (fun _ => .refl s) fun _ => ?_)
    refine RunKept.trans ?_ ((landedEdge_beltFrame b _).trans (finish_beltFrame _)).runKept
    exact .of_mode rfl
  | landedEyeClears b => exact .next (.of_mode rfl)
  | drainCompletion b => exact .next ((completeDrain_beltFrame b s).trans (closeEvent_beltFrame _)).runKept
  | endOfDrain => exact .next (finish_beltFrame s).runKept
  | ejectionStart => exact .next (ejectionTest_beltFrame s).runKept
  | slotEyeBlocked n => exact execSlotEyeBlocked_runKept s n
  | slotEyeClears n => exact execSlotEyeClears_runKept s n
  | ejectTimeout => exact .next (timeOutEjection_beltFrame s).runKept
  | handoverExpired line => exact .next (expireHandover_runKept s line)

theorem tick_runKept : RunKept s (tick s) := by
  have settled (t : State) : RunKept t (allFour.foldl settleHandover t) :=
    foldl_rel RunKept RunKept.refl (fun _ _ _ => RunKept.trans) settleHandover
      (fun t i => rel_ite (fun _ => expireHandover_runKept t i) fun _ => .refl t) _ t
  have timers : RunKept s (tickTimers s) := .of_mode rfl
  unfold tick
  refine RunKept.trans ?_ (settled _)
  exact timers.trans (rel_ite (fun _ => (timeOutEjection_beltFrame _).runKept) fun _ => .refl _)

end

/-- Settles O55: every other command sets IDLE or DRAIN, or leaves the mode to the end of a drain. -/
theorem runOnlyByStart : Obligations.RunOnlyByStart := by
  unfold Obligations.RunOnlyByStart
  intro s t h stood run
  unfold step at h
  cases front : s.pending with
  | nil =>
    rw [front] at h
    cases h
    exact absurd (tick_runKept s run) stood
  | cons c rest =>
    rw [front] at h
    by_contra other
    have kept : RunKept { s with pending := rest } t :=
      exec_runKept _ c (fun r is => other ⟨r, rest, is ▸ rfl⟩) t h
    exact stood (kept run)

end Sys2Proof.Machine
end

section
/-! SUPPORT. START and DRAIN in each mode, and the end of a drain (R164 to R167); then the statement about them. -/

namespace Sys2Proof.Machine

/-! ### The mode (R164) -/

/-- A change of the mode raises MODE_CHANGED (R164). -/
theorem setMode_of_ne {m : SortMode} {s : State} (other : s.mode ≠ m) :
    setMode m s = { s with mode := m, events := s.events.append (.modeChanged m) } := by
  rw [setMode, if_neg other]
  rfl

/-- The reply to a taken request that changes the mode and nothing else. -/
theorem done_setMode_freeBuffer (r : Req) (k : ReqKind) (x : Result) {m : SortMode} {s : State} (other : s.mode ≠ m) :
    done r k x (setMode m (freeBuffer r.port s))
      = answered r.port (doneItem r k x) { s with mode := m, events := s.events.append (.modeChanged m) } := by
  rw [setMode_of_ne (s := freeBuffer r.port s) other]
  exact done_freeBuffer r k x { s with mode := m, events := s.events.append (.modeChanged m) }

/-! ### START (R165) -/

section
variable {r : Req} {s : State}

theorem exec_start_runs (h : Admitted (.start r) s)
    (may : s.mode = .drain ∨ s.mode = .idle ∧ s.banks.active ≠ none ∧ s.geometry.beltEnd ≠ none) :
    exec (.start r) s
      = .next (answered r.port (doneItem r .start (.mode .run))
          { s with mode := .run, events := s.events.append (.modeChanged .run) }) := by
  have other : s.mode ≠ .run := by
    rcases may with mode | ⟨mode, -⟩ <;> rw [mode] <;> decide
  show Host.Outcome.next (serve r .start _ _ _ s) = _
  rw [serve_admitted (h.canServe rfl), ← done_setMode_freeBuffer r .start (.mode .run) other]
  rcases may with mode | ⟨mode, active, set⟩
  · simp only [freeBuffer_mode, mode]
  · simp only [freeBuffer_mode, mode, freeBuffer_banks, freeBuffer_geometry, active, set, or_self, ↓reduceIte]

theorem exec_start_refused (h : Admitted (.start r) s)
    (may_not : s.mode = .run ∨ s.mode = .idle ∧ (s.banks.active = none ∨ s.geometry.beltEnd = none)) :
    exec (.start r) s = .next (answered r.port (refusedItem r .start .notNow) s) := by
  refine congrArg Host.Outcome.next (serve_refuses (h.canServe rfl) ?_)
  rcases may_not with mode | ⟨mode, unready⟩
  · simp only [freeBuffer_mode, mode]
  · simp only [freeBuffer_mode, mode, freeBuffer_banks, freeBuffer_geometry, unready, ↓reduceIte]

end

/-! ### The end of an event that nothing is due at (R89, R135, R167) -/

theorem closeEvent_undue {s : State} (up : GatesUpToDate s) (outfeed : OutfeedConsistent s) : closeEvent s = s := by
  rw [closeEvent, syncGates_of_upToDate up, ejectionTest_of_started outfeed.started]

/-- A taken request that changes the mode alone, and ends no drain, leaves the gates and the outfeed as they stand. -/
theorem closeEvent_mode_answered {p : Port} {x : Item} {m : SortMode} {events : EventLog} {s : State}
    (up : GatesUpToDate s) (outfeed : OutfeedConsistent s) :
    closeEvent (answered p x { s with mode := m, events := events })
      = answered p x { s with mode := m, events := events } :=
  closeEvent_undue (up.of_same (fun _ => rfl) (fun _ => rfl) rfl rfl)
    ⟨outfeed.waiting, outfeed.once, outfeed.busyBin, outfeed.busySlot, outfeed.started⟩

/-! ### The end of a drain, bin by bin (R121, R167) -/

section
variable {b : BinNo} {l : Lift} {s : State} (fills : (s.bin b).state = .filling l) (still : l.inFlight = 0)
include fills still

theorem endDrain_empty_bin (empty : l.landed = 0) : ((endDrain s).bin b).state = .ready := by
  obtain ⟨u, drains, completes⟩ := endDrain_filling fills
  rw [completes, completeDrain_empty_bin drains still empty]

theorem endDrain_landed_bin (landed : l.landed ≠ 0) :
    ∃ order, ((endDrain s).bin b).state = .fullWait (l.closeAs .shiftEnd order) := by
  obtain ⟨u, drains, completes⟩ := endDrain_filling fills
  exact ⟨_, by rw [completes, completeDrain_landed_bin drains still landed]⟩

end

/-! ### DRAIN (R166) -/

section
variable {r : Req} {s : State}

theorem exec_drain_refused (h : Admitted (.drain r) s) (other : s.mode ≠ .run) :
    exec (.drain r) s = .next (answered r.port (refusedItem r .drain .notNow) s) :=
  congrArg Host.Outcome.next (serve_refuses (h.canServe rfl) (if_neg other))

theorem exec_drain_sheets (h : Admitted (.drain r) s) (run : s.mode = .run) (sheets : s.tracker.queue ≠ [])
    (up : GatesUpToDate s) (outfeed : OutfeedConsistent s) :
    exec (.drain r) s
      = .next (answered r.port (doneItem r .drain (.mode .drain))
          { s with mode := .drain, events := s.events.append (.modeChanged .drain) }) := by
  have other : s.mode ≠ .drain := by rw [run]; decide
  have stays : endDrainIfDue (setMode .drain (freeBuffer r.port s)) = setMode .drain (freeBuffer r.port s) := by
    rw [endDrainIfDue, if_neg]
    rintro ⟨-, empty⟩
    rw [setMode_tracker] at empty
    exact sheets empty
  show Host.Outcome.next (serve r .drain _ _ _ s) = _
  rw [serve_admitted (h.canServe rfl), if_pos (show (freeBuffer r.port s).mode = .run from run)]
  dsimp only
  rw [stays, setMode_mode, done_setMode_freeBuffer r .drain _ other, closeEvent_mode_answered up outfeed]

/-- The state in which a drain has begun. -/
def drainBegun (s : State) : State := { s with mode := .drain, events := s.events.append (.modeChanged .drain) }

/-- A DRAIN over an empty belt is over at once (R166, R167). -/
theorem exec_drain_empty (h : Admitted (.drain r) s) (run : s.mode = .run) (empty : s.tracker.queue = []) :
    exec (.drain r) s
      = .next (closeEvent (done r .drain (.mode .idle) (endDrain (freeBuffer r.port (drainBegun s))))) := by
  have other : (freeBuffer r.port s).mode ≠ .drain := by rw [freeBuffer_mode, run]; decide
  have begins : setMode .drain (freeBuffer r.port s) = freeBuffer r.port (drainBegun s) := setMode_of_ne other
  have ends : endDrainIfDue (freeBuffer r.port (drainBegun s)) = endDrain (freeBuffer r.port (drainBegun s)) :=
    if_pos ⟨rfl, empty⟩
  show Host.Outcome.next (serve r .drain _ _ _ s) = _
  rw [serve_admitted (h.canServe rfl), if_pos (show (freeBuffer r.port s).mode = .run from run), begins]
  dsimp only
  rw [ends, endDrain_mode]

end

theorem endDrain_tracker (s : State) : (endDrain s).tracker = s.tracker := by
  rw [endDrain, setMode_tracker, completeDrains_tracker, drainBins_tracker]

theorem endDrain_beltFrame {s : State} (mode : s.mode = .drain) : BeltFrame s (endDrain s) :=
  setMode_idle_beltFrame s _ mode ((drainBins_beltFrame _ _ s).trans (completeDrains_beltFrame _))

/-- Settles O53: a drain that is over sends every FILLING bin to its drain SHIFT_END and completes it, in the event of
the DRAIN request as in its own. -/
theorem startAndDrain : Obligations.StartAndDrain := by
  unfold Obligations.StartAndDrain
  intro r s
  refine ⟨exec_start_runs, exec_start_refused, exec_drain_refused, exec_drain_sheets, fun h run empty => ?_,
    fun mode empty => ?_, fun on up outfeed => ?_⟩
  · have ended := answered_closeEvent r .drain (.mode .idle)
      (endDrain_beltFrame (s := freeBuffer r.port (drainBegun s)) rfl)
    obtain ⟨frame, tracker, -⟩ := ended
    refine ⟨_, exec_drain_empty h run empty, frame.ports, ?_, tracker.trans (endDrain_tracker _), frame.banks,
      frame.geometry, frame.arbiter, frame.refusal, frame.pending, fun b l fills still => ⟨fun none_landed => ?_,
      fun landed => ?_⟩⟩
    · rw [closeEvent_mode, done_mode, endDrain_mode]
    · have fills' : ((freeBuffer r.port (drainBegun s)).bin b).state = .filling l := fills
      exact answered_bin_settled (endDrain_empty_bin fills' still none_landed) nofun
    · have fills' : ((freeBuffer r.port (drainBegun s)).bin b).state = .filling l := fills
      obtain ⟨order, waits⟩ := endDrain_landed_bin fills' still landed
      obtain ⟨_, delivers, _, _, rfl⟩ := answered_bin_delivers (r := r) (k := .drain) (x := .mode .idle) waits
      exact ⟨_, delivers, rfl, rfl⟩
  · have ended := finish_drainEnded (u := s) mode empty fun _ => rfl
    refine ⟨finish s, rfl, finish_beltFrame s, ended.mode, finish_tracker s, fun b l fills still =>
      ⟨ended.discarded b l fills still, fun landed => ?_⟩⟩
    obtain ⟨m, delivers, id, -, reason⟩ := ended.closed b l fills still landed
    exact ⟨m, delivers, id, reason⟩
  · exact congrArg Host.Outcome.next ((finish_eq_closeEvent s on).trans (closeEvent_undue up outfeed))

end Sys2Proof.Machine
end

section
/-! SUPPORT. STOP and RESTART (R162, R169, R170, R180): what the discard of the belt leaves, what RESTART does besides,
and the two requests; then the statement about them. -/

namespace Sys2Proof.Machine

/-! ### The belt discarded (R169) -/

/-- A lift with nothing in flight. -/
def Lift.grounded (l : Lift) : Lift := { l with inFlight := 0 }

/-- The belt of a STOP or a RESTART before the drains that it brings due are completed (R169, steps 1 to 4). -/
def beltCleared (s : State) : State := syncGates (flightsCleared (setMismatches 0 (queueEmptied s)))

theorem discardQueue_completes (s : State) : discardQueue s = completeDrains (beltCleared s) := rfl

theorem beltCleared_tracker (s : State) :
    (beltCleared s).tracker
      = { s.tracker with
          queue := []
          eye := if s.tracker.eye = .blockedTracked then .blockedUntracked else s.tracker.eye
          mismatches := 0 } := by
  rw [beltCleared, syncGates_tracker]
  refine (setMismatches_zero_tracker (queueEmptied s)).trans ?_
  by_cases tracked : s.tracker.eye = .blockedTracked <;> simp [queueEmptied, tracked]

theorem beltCleared_tallies (s : State) :
    (beltCleared s).tallies = s.tallies.countReject .modeStop s.tracker.queue.length := by
  rw [beltCleared, syncGates_tallies, flightsCleared, setMismatches_zero]
  rfl

theorem beltCleared_slots (s : State) : (beltCleared s).slots = s.slots := by
  rw [beltCleared, syncGates_slots, flightsCleared, setMismatches_zero]
  rfl

theorem beltCleared_bin (s : State) (b : BinNo) :
    ∃ gate, (beltCleared s).bin b
      = { s.bin b with suspicion := 0, state := (s.bin b).state.mapLift Lift.grounded, gate := gate } := by
  refine ⟨gateDue (flightsCleared (setMismatches 0 (queueEmptied s))) b, ?_⟩
  rw [beltCleared, syncGates_bin, flightsCleared_bin, setMismatches_zero]
  rfl

theorem completeDrains_slots (s : State) : (completeDrains s).slots = s.slots :=
  (EjectionHeld.foldl (fun s b => EjectionHeld.completeDrain b s) allBins s).slots

/-- What the discard of the belt leaves of the belt, the bins and the REJECT tallies, and what it leaves alone. -/
structure BeltDiscarded (s t : State) : Prop where
  tracker : t.tracker
    = { s.tracker with
        queue := []
        eye := if s.tracker.eye = .blockedTracked then .blockedUntracked else s.tracker.eye
        mismatches := 0 }
  rejects : t.tallies.rejects[RejectReason.modeStop.idx]
    = min 4294967295 (s.tallies.rejects[RejectReason.modeStop.idx] + s.tracker.queue.length)
  suspicion : ∀ b : BinNo, (t.bin b).suspicion = 0
  eyes : ∀ b : BinNo, (t.bin b).eyeMark = (s.bin b).eyeMark
  filling : ∀ b l, (s.bin b).state = .filling l → (t.bin b).state = .filling l.grounded
  emptied : ∀ b why l, (s.bin b).state = .drainClose why l → l.landed = 0 → (t.bin b).state = .ready
  closed : ∀ b why l, (s.bin b).state = .drainClose why l → l.landed ≠ 0 →
    ∃ order, (t.bin b).state = .fullWait (l.grounded.closeAs why order)
  banks : t.banks = s.banks
  geometry : t.geometry = s.geometry
  refusal : t.refusal = s.refusal
  pending : t.pending = s.pending

theorem discardQueue_discards (s : State) : BeltDiscarded s (discardQueue s) := by
  have frame := discardQueue_beltFrame s
  have drained (b : BinNo) : ∃ u : State, ∃ gate,
      u.bin b = { s.bin b with suspicion := 0, state := (s.bin b).state.mapLift Lift.grounded, gate := gate }
      ∧ (discardQueue s).bin b = (completeDrain b u).bin b := by
    obtain ⟨u, same, completes⟩ := completeDrains_bin b (beltCleared s)
    obtain ⟨gate, is⟩ := beltCleared_bin s b
    exact ⟨u, gate, same.trans is, completes⟩
  refine
    { tracker := ?_, rejects := ?_, suspicion := fun b => ?_, eyes := frame.binEyes, filling := fun b l fills => ?_
      emptied := fun b why l drains none_landed => ?_, closed := fun b why l drains landed => ?_
      banks := frame.banks, geometry := frame.geometry, refusal := frame.refusal, pending := frame.pending }
  · rw [discardQueue_completes, completeDrains_tracker, beltCleared_tracker]
  · rw [discardQueue_completes, completeDrains_rejects, beltCleared_tallies]
    exact vset_get_self _ _ _
  all_goals obtain ⟨u, gate, is, completes⟩ := drained b
  · rw [completes, completeDrain_suspicion, is]
  · have kept : (u.bin b).state = .filling l.grounded := by
      rw [is, fills]
      rfl
    rw [completes, completeDrain_idle (by simp [kept]), kept]
  · have drains' : (u.bin b).state = .drainClose why l.grounded := by
      rw [is, drains]
      rfl
    rw [completes, completeDrain_empty_bin drains' rfl none_landed]
  · have drains' : (u.bin b).state = .drainClose why l.grounded := by
      rw [is, drains]
      rfl
    exact ⟨_, by rw [completes, completeDrain_landed_bin drains' rfl landed]⟩

theorem discardQueue_slots (s : State) : (discardQueue s).slots = s.slots := by
  rw [discardQueue_completes, completeDrains_slots, beltCleared_slots]

theorem discardQueue_arbiter (s : State) : (discardQueue s).arbiter = s.arbiter := (discardQueue_beltFrame s).arbiter

/-- An act that leaves the belt, the bins and the tallies alone. -/
theorem BeltDiscarded.of_same {s t u : State} (h : BeltDiscarded s t) (tracker : u.tracker = t.tracker)
    (tallies : u.tallies = t.tallies) (bins : u.bins = t.bins) (banks : u.banks = t.banks)
    (geometry : u.geometry = t.geometry) (refusal : u.refusal = t.refusal) (pending : u.pending = t.pending) :
    BeltDiscarded s u := by
  have bin (b : BinNo) : u.bin b = t.bin b := congrArg (fun v : Vector Bin 16 => v[b]) bins
  obtain ⟨tracker', rejects, suspicion, eyes, filling, emptied, closed, banks', geometry', refusal', pending'⟩ := h
  simp only [← bin] at suspicion eyes filling emptied closed
  exact ⟨tracker.trans tracker', tallies ▸ rejects, suspicion, eyes, filling, emptied, closed, banks.trans banks',
    geometry.trans geometry', refusal.trans refusal', pending.trans pending'⟩

theorem BeltDiscarded.setMode {s t : State} (h : BeltDiscarded s t) (m : SortMode) :
    BeltDiscarded s (Machine.setMode m t) := by
  unfold Machine.setMode
  split
  · exact h
  · exact h.of_same rfl rfl rfl rfl rfl rfl rfl

/-- With the queue empty no gate is open after the event (R89, R90). -/
theorem closeEvent_gates_closed {s : State} (empty : s.tracker.queue = []) :
    (∀ b : BinNo, ((closeEvent s).bin b).gate = false) ∧ (closeEvent s).redryGate = false := by
  obtain ⟨gates, redry⟩ := closeEvent_gates s
  have empty' : (closeEvent s).tracker.queue = [] := by rw [closeEvent_tracker, empty]
  refine ⟨fun b => ?_, ?_⟩
  · rw [gates, gateDue, empty', List.any_nil, Bool.and_false]
  · rw [redry, redryDue, empty', List.any_nil]

/-! ### RESTART besides (R162, R170, R180) -/

theorem discardPulls_arbiter (s : State) :
    (discardPulls s).arbiter = { s.arbiter with pulls := [], expired := Vector.replicate 4 [] } := rfl

/-- A lift in its slot after RESTART has dropped the pulls: given back if it was ASSIGNED (R162). -/
def Lift.unassigned (l : Lift) : Lift := if l.state = .assigned then l.giveBack else l

/-- The lift keeps its identity; its assignment is dropped, and a lift without one stays as it is. -/
theorem Lift.unassigned_fields (l : Lift) :
    l.unassigned.id = l.id ∧ l.unassigned.key = l.key ∧ l.unassigned.closeOrder = l.closeOrder
    ∧ l.unassigned.landed = l.landed
    ∧ (l.state = .assigned → l.unassigned.state = .stored ∧ l.unassigned.pull = none)
    ∧ (l.state ≠ .assigned → l.unassigned = l) := by
  unfold Lift.unassigned
  split
  · next assigned => exact ⟨rfl, rfl, rfl, rfl, fun _ => ⟨rfl, rfl⟩, fun other => absurd assigned other⟩
  · next other => exact ⟨rfl, rfl, rfl, rfl, fun assigned => absurd assigned other, fun _ => rfl⟩

theorem discardPulls_holding {n : SlotNo} {l : Lift} {s : State} (holds : s.slots[n].state = .holding l) :
    (discardPulls s).slots[n].state = .holding l.unassigned := by
  simp only [discardPulls, setArbiter_slots, vmap_get, holds, Lift.unassigned]
  split
  · rfl
  · exact holds

theorem BeltDiscarded.discardPulls {s t : State} (h : BeltDiscarded s t) : BeltDiscarded s (discardPulls t) := by
  refine h.of_same ?_ ?_ ?_ ?_ ?_ ?_ ?_ <;> unfold Machine.discardPulls
  · rw [setArbiter_tracker]
  · rw [setArbiter_tallies]
  · rw [setArbiter_bins]
  · rw [setArbiter_banks]
  · rw [setArbiter_geometry]
  · rw [setArbiter_refusal]
  · rw [setArbiter_pending]

theorem BeltDiscarded.emptyQueues {s t : State} (h : BeltDiscarded s t) : BeltDiscarded s (emptyQueues t) :=
  h.of_same rfl rfl rfl rfl rfl rfl rfl

theorem mayMake_restart {p : Port} (may : mayMake p .restart = true) : p = .setup := by
  cases p
  · cases may
  · cases may
  · rfl

theorem idx_ne_setup {p : Port} (other : p ≠ .setup) : p.idx ≠ Port.setup.idx := by
  cases p with
  | scan => decide
  | line i => exact (line_idx_ne_setup i).symm
  | setup => exact absurd rfl other

/-! ### The two requests -/

section
variable {r : Req} {s : State}

theorem exec_stop_refused (h : Admitted (.stop r) s) (idle : s.mode = .idle) :
    exec (.stop r) s = .next (answered r.port (refusedItem r .stop .notNow) s) :=
  congrArg Host.Outcome.next (serve_refuses (h.canServe rfl) (if_pos idle))

/-- The state in which a STOP is answered. -/
def stopWork (p : Port) (s : State) : State := setMode .idle (discardQueue (freeBuffer p s))

theorem exec_stop (h : Admitted (.stop r) s) (going : s.mode ≠ .idle) :
    exec (.stop r) s
      = .next (closeEvent
          (done r .stop (.stopped .idle s.tracker.queue.length) (stopWork r.port s))) := by
  show Host.Outcome.next (serve r .stop _ _ _ s) = _
  rw [serve_admitted (h.canServe rfl), if_neg (show (freeBuffer r.port s).mode ≠ .idle from going)]
  rfl

/-- The state in which a RESTART is answered, but for its emptied queues. -/
def restartWork (p : Port) (s : State) : State := setMode .idle (discardPulls (discardQueue (freeBuffer p s)))

theorem exec_restart (h : Admitted (.restart r) s) :
    exec (.restart r) s
      = .next (closeEvent
          (done r .restart (.stopped .idle s.tracker.queue.length) (emptyQueues (restartWork r.port s)))) := by
  show Host.Outcome.next (serve r .restart _ _ _ s) = _
  rw [serve_admitted (h.canServe rfl)]
  rfl

end

theorem setMode_arbiter (m : SortMode) (s : State) : (setMode m s).arbiter = s.arbiter := by
  unfold setMode
  split <;> rfl

theorem setMode_slots (m : SortMode) (s : State) : (setMode m s).slots = s.slots := (EjectionHeld.setMode m s).slots

theorem restartWork_slots (p : Port) (s : State) :
    (restartWork p s).slots = (discardPulls s).slots := by
  have slots : (discardQueue (freeBuffer p s)).slots = s.slots := discardQueue_slots _
  rw [restartWork, setMode_slots, discardPulls, discardPulls, setArbiter_slots, setArbiter_slots, slots]

theorem restartWork_arbiter (p : Port) (s : State) :
    (restartWork p s).arbiter = { s.arbiter with pulls := [], expired := Vector.replicate 4 [] } := by
  have arbiter : (discardQueue (freeBuffer p s)).arbiter = s.arbiter := discardQueue_arbiter _
  rw [restartWork, setMode_arbiter, discardPulls_arbiter, arbiter]

theorem emptyQueues_slots (s : State) : (emptyQueues s).slots = s.slots := rfl

theorem restarted_slot (r : Req) (x : Result) {s : State} {n : SlotNo} {l : Lift}
    (holds : s.slots[n].state = .holding l) :
    (done r .restart x (emptyQueues (restartWork r.port s))).slots[n].state = .holding l.unassigned := by
  rw [done_slots, emptyQueues_slots, restartWork_slots]
  exact discardPulls_holding holds

theorem closeEvent_port (s : State) (p : Port) : (closeEvent s).port p = s.port p := by
  rw [State.port, closeEvent_ports]
  rfl

theorem emptyQueues_arbiter (s : State) : (emptyQueues s).arbiter = s.arbiter := rfl

theorem restartWork_ports (p : Port) (s : State) : (restartWork p s).ports = (freeBuffer p s).ports := by
  rw [restartWork, setMode_ports, discardPulls, setArbiter_ports, (discardQueue_beltFrame _).ports]

section
variable {r : Req} {s : State} {x : Result} (h : Admitted (.restart r) s)
include h

/-- The setup port after RESTART holds the reply alone (R180). -/
theorem restarted_port_self :
    (closeEvent (done r .restart x (emptyQueues (restartWork r.port s)))).port .setup
      = { s.port .setup with buffer := none, queue := [doneItem r .restart x], lost := false } := by
  have setup : r.port = .setup := mayMake_restart (h.canServe rfl).right
  rw [closeEvent_port, State.port, done, queueReply_ports, setup, vset_get_self, emptyQueues_port, restartWork_ports,
    freeBuffer_ports, vset_get_self]
  rfl

/-- Every other port loses what its queue held, and says so (R180). -/
theorem restarted_port_ne {p : Port} (other : p ≠ .setup) :
    (closeEvent (done r .restart x (emptyQueues (restartWork r.port s)))).port p
      = { s.port p with queue := [], lost := true } := by
  have setup : r.port = .setup := mayMake_restart (h.canServe rfl).right
  have apart := idx_ne_setup other
  rw [closeEvent_port, State.port, done, queueReply_ports, setup, vset_get_ne _ _ _ _ apart, emptyQueues_port,
    restartWork_ports, freeBuffer_ports, vset_get_ne _ _ _ _ apart, bne_iff_ne.mpr apart]
  rfl

end

/-- Settles O54: both requests discard the belt and end the event; RESTART drops the pulls and empties the queues
before its one reply. -/
theorem stopAndRestart : Obligations.StopAndRestart := by
  unfold Obligations.StopAndRestart
  intro r s stopped
  have ends (k : ReqKind) (x : Result) {u : State} (h : BeltDiscarded (freeBuffer r.port s) u)
      (idle : u.mode = .idle) : stopped (closeEvent (done r k x u)) := by
    obtain ⟨tracker, rejects, suspicion, eyes, filling, emptied, closed, banks, geometry, refusal, pending⟩ := h
    have frame := closeEvent_beltFrame (done r k x u)
    have queue : u.tracker.queue = [] := by rw [tracker]
    obtain ⟨gates, redryGate⟩ := closeEvent_gates_closed (s := done r k x u) queue
    have tracker' := (closeEvent_tracker (done r k x u)).trans tracker
    refine ⟨(closeEvent_mode _).trans idle, congrArg Tracker.queue tracker', congrArg Tracker.mismatches tracker',
      (congrArg Tracker.travel tracker').trans rfl, (congrArg Tracker.nextNumber tracker').trans rfl,
      (congrArg Tracker.lastTrailing tracker').trans rfl, congrArg Tracker.eye tracker', ?_,
      fun b => ⟨gates b, (closeEvent_bin_suspicion _ b).trans (suspicion b), (frame.binEyes b).trans (eyes b)⟩,
      redryGate, fun b l fills => answered_bin_settled (filling b l fills) nofun,
      fun b why l drains none_landed => answered_bin_settled (emptied b why l drains none_landed) nofun,
      fun b why l drains landed => ?_, frame.banks.trans banks, frame.geometry.trans geometry,
      frame.refusal.trans refusal, frame.pending.trans pending⟩
    · rw [closeEvent_tallies]
      exact rejects
    · obtain ⟨order, waits⟩ := closed b why l drains landed
      obtain ⟨_, delivers, _, _, rfl⟩ := answered_bin_delivers (r := r) (k := k) (x := x) waits
      exact ⟨_, delivers, rfl, rfl⟩
  have discarded := discardQueue_discards (freeBuffer r.port s)
  refine ⟨exec_stop_refused,
    fun h going => ⟨_, exec_stop h going, ends _ _ (discarded.setMode .idle) (setMode_mode _ _), ?_, ?_⟩,
    fun h => ⟨_, exec_restart h, ends _ _ (discarded.discardPulls.setMode .idle).emptyQueues ?_, ?_,
      fun n l holds => ?_, ?_, ?_, fun p other => ?_⟩⟩
  · rw [closeEvent_arbiter, done_arbiter, stopWork, setMode_arbiter, discardQueue_arbiter, freeBuffer_arbiter]
  · rw [closeEvent_ports]
    refine done_ports_of r .stop _ s _ ?_
    rw [stopWork, setMode_ports, (discardQueue_beltFrame _).ports]
  · rw [emptyQueues_mode]
    exact setMode_mode .idle _
  · rw [closeEvent_arbiter, done_arbiter, emptyQueues_arbiter, restartWork_arbiter]
  · have kept := restarted_slot r (.stopped .idle s.tracker.queue.length) holds
    refine ⟨l.unassigned, ?_, l.unassigned_fields⟩
    rw [closeEvent_slot_taken (by rw [kept]; nofun), kept]
  · exact congrArg PortState.queue (restarted_port_self h)
  · exact congrArg PortState.lost (restarted_port_self h)
  · have is := restarted_port_ne (x := .stopped .idle s.tracker.queue.length) h other
    rw [is]
    exact ⟨rfl, rfl, rfl, rfl⟩

end Sys2Proof.Machine
end

section
/-! SUPPORT. The shift tallies read and cleared (R172 to R174); then the statement about them. -/

namespace Sys2Proof.Machine

/-- The counter of a grade code stands at the place before the code (Table 9-3). -/
theorem landedOf_eq (t : Tallies) {code : Nat} {i : Fin 250} (at_code : i.val + 1 = code) :
    t.landedOf code = t.landed[i] := by
  have place : code - 1 = i.val := by omega
  simp [Tallies.landedOf, place]

section
variable {r : Req} {s : State}

theorem exec_tallyRead_active (h : Admitted (.tallyRead r none) s) :
    exec (.tallyRead r none) s
      = .next (answered r.port (doneItem r .tallyRead (.tallies (tallyReport s s.banks.active))) s) :=
  congrArg Host.Outcome.next (serve_answers (h.canServe rfl) rfl)

theorem exec_tallyRead_bank {k : BankNo} (h : Admitted (.tallyRead r (some k.val)) s) :
    exec (.tallyRead r (some k.val)) s
      = .next (answered r.port (doneItem r .tallyRead (.tallies (tallyReport s (some k)))) s) := by
  refine congrArg Host.Outcome.next (serve_answers (h.canServe rfl) ?_)
  simp only [asFour_val]
  rfl

theorem exec_tallyRead_unknown {n : Nat} (beyond : 4 ≤ n) (h : Admitted (.tallyRead r (some n)) s) :
    exec (.tallyRead r (some n)) s = .next (answered r.port (refusedItem r .tallyRead .invalid) s) := by
  refine congrArg Host.Outcome.next (serve_refuses (h.canServe rfl) ?_)
  simp only [asFour_eq_none beyond]

theorem exec_tallyClear (h : Admitted (.tallyClear r) s) :
    exec (.tallyClear r) s
      = .next (answered r.port (doneItem r .tallyClear (.tallies (tallyReport s s.banks.active)))
          { s with tallies := Tallies.zero }) := by
  show Host.Outcome.next (serve r .tallyClear _ _ _ s) = _
  rw [serve_admitted (h.canServe rfl)]
  exact congrArg Host.Outcome.next (done_freeBuffer r .tallyClear _ { s with tallies := Tallies.zero })

end

/-- Settles O56: both requests answer the report of the tallies as they stand, and TALLY_CLEAR then sets them to 0. -/
theorem tallyReadAndClear : Obligations.TallyReadAndClear := by
  unfold Obligations.TallyReadAndClear
  intro r s report
  have reports (bank : Option BankNo) : report bank (tallyReport s bank) := by
    refine ⟨rfl, rfl, rfl, rfl, rfl, rfl, rfl, rfl, fun none_named => ?_, fun k named => ?_⟩
    · rw [none_named]
      rfl
    · rw [named]
      refine ⟨List.map_map, fun c listed i at_code => ?_⟩
      obtain ⟨g, -, rfl⟩ := List.mem_map.mp listed
      exact landedOf_eq s.tallies at_code
  exact ⟨fun h => ⟨_, reports _, exec_tallyRead_active h⟩, fun k h => ⟨_, reports _, exec_tallyRead_bank h⟩,
    fun n => exec_tallyRead_unknown, fun h => ⟨_, reports _, exec_tallyClear h⟩⟩

end Sys2Proof.Machine
end

section
/-! SUPPORT. The state after a full reset (R171, Table 9-2): each table's records; then the statements that it is what
FULL_RESET leaves, and that it meets every invariant. -/

namespace Sys2Proof.Machine

/-! ### The records of the tables (R31, R95, R144, R162, R175) -/

section
variable (pins : Pins)

theorem resetWith_bin (b : BinNo) : (State.resetWith pins).bin b = Bin.reset pins.landed[b] :=
  Vector.getElem_ofFn b.isLt

theorem resetWith_slot (n : SlotNo) :
    (State.resetWith pins).slots[n] = { state := .offline, eye := pins.slotEyes[n] } :=
  Vector.getElem_ofFn n.isLt

theorem resetWith_port (p : Fin 6) : (State.resetWith pins).ports[p] = PortState.reset pins.rates[p] :=
  Vector.getElem_ofFn p.isLt

theorem resetWith_bank (k : BankNo) : (State.resetWith pins).banks.bank[k] = Bank.empty :=
  Vector.getElem_replicate k.isLt

theorem resetWith_expired (i : LineNo) : (State.resetWith pins).arbiter.expired[i] = [] :=
  Vector.getElem_replicate i.isLt

end

/-- Settles O3: the reset values of the model's blocks, the pins in the eyes and the rates. -/
theorem fullResetClearsThePart : Obligations.FullResetClearsThePart := by
  unfold Obligations.FullResetClearsThePart
  intro pins s
  refine ⟨_, exec_fullReset pins s, rfl, resetWith_bank pins, rfl, rfl, rfl, resetWith_bin pins, rfl, rfl, rfl,
    resetWith_slot pins, rfl, rfl, rfl, fun p => ?_, rfl, rfl, rfl⟩
  have port : ({ State.resetWith pins with pending := s.pending } : State).ports[p] = PortState.reset pins.rates[p] :=
    resetWith_port pins p
  rw [port]
  exact ⟨rfl, rfl, rfl, rfl, rfl, rfl, rfl⟩

/-! ### The invariants (R30, R57, R69, R89, R116, R118, R131, R153) -/

section
variable (pins : Pins)

theorem resetWith_activeBankNamed : ActiveBankNamed (State.resetWith pins) := by
  intro k
  rw [resetWith_bank]
  exact iff_of_false nofun nofun

theorem resetWith_recordId (x : BinNo ⊕ SlotNo) : recordId (State.resetWith pins) x = none := by
  cases x with
  | inl b => rw [recordId, binLiftId, resetWith_bin]; rfl
  | inr n => rw [recordId, slotLiftId, resetWith_slot]; rfl

theorem resetWith_liftIdsDistinct : LiftIdsDistinct (State.resetWith pins) := by
  rw [liftIdsDistinct_iff]
  intro x y i is
  rw [resetWith_recordId] at is
  cases is

theorem resetWith_outfeedConsistent : OutfeedConsistent (State.resetWith pins) where
  waiting b := by
    rw [resetWith_bin]
    exact iff_of_false List.not_mem_nil nofun
  once := List.nodup_nil
  busyBin b := by
    rw [resetWith_bin]
    exact iff_of_false nofun nofun
  busySlot b n := by
    rw [resetWith_slot]
    exact iff_of_false nofun nofun
  started starts := starts.2.1 rfl

theorem resetWith_beltLimits : BeltLimits (State.resetWith pins) where
  queue := Nat.zero_le _
  mismatches := Nat.zero_le _
  suspicion b := by
    rw [resetWith_bin]
    exact Nat.zero_le _

theorem resetWith_reportingLimits : ReportingLimits (State.resetWith pins) where
  queues p := by
    rw [resetWith_port]
    exact Nat.zero_le _
  errors p := by
    rw [resetWith_port]
    exact Nat.zero_le _
  events := Nat.zero_le _

theorem resetWith_recipeAndPullLimits : RecipeAndPullLimits (State.resetWith pins) where
  rules k := by
    rw [resetWith_bank]
    exact Nat.zero_le _
  pulls _ := Nat.zero_le _
  expired i := by
    rw [resetWith_expired]
    exact Nat.zero_le _

theorem resetWith_inFlightCounted : InFlightCounted (State.resetWith pins) where
  counted b := by
    rw [resetWith_bin]
    rfl
  onlyOpen b l holds := by
    rw [resetWith_bin] at holds
    cases holds
  judged _ _ listed := absurd listed List.not_mem_nil

theorem resetWith_handoversPaired : HandoversPaired (State.resetWith pins) where
  numbers := List.nodup_nil
  onePerLine _ listed := absurd listed List.not_mem_nil
  lifts n l holds := by
    rw [resetWith_slot] at holds
    cases holds
  pulls _ listed := absurd listed List.not_mem_nil
  oneSlot m n l k number holds := by
    rw [resetWith_slot] at holds
    cases holds
  bins b l holds := by
    rw [resetWith_bin] at holds
    cases holds

end

/-- Settles O4: after reset every bin and slot is OFFLINE, every queue and list empty and every count 0. -/
theorem resetMeetsTheInvariants : Obligations.ResetMeetsTheInvariants :=
  ⟨resetWith_activeBankNamed _, resetWith_gates _ [], resetWith_liftIdsDistinct _, resetWith_outfeedConsistent _,
    fun _ _ _ _ listed => absurd listed List.not_mem_nil, resetWith_beltLimits _, resetWith_reportingLimits _,
    resetWith_recipeAndPullLimits _, zero_tallyLimits rfl, reset_consistent, reset_inRange, List.Pairwise.nil,
    List.nodup_nil, nofun, fun _ _ listed => absurd listed List.not_mem_nil, resetWith_inFlightCounted _,
    resetWith_handoversPaired _⟩

end Sys2Proof.Machine
end

section
/-! SUPPORT. A port's receiver (R176): what a run of bytes in time does to it, byte by byte and frame by frame; then the
statements about whole frames, discarded frames, and a port's gap and sending. -/

namespace Sys2Proof.Machine

/-! ### One port replaced -/

theorem withPort_port (p : Port) (s : State) : withPort p (s.port p) s = s := by
  unfold withPort State.port
  rw [vset_eq_self]

theorem exec_frameReceived (p : Port) (bytes : List RxByte) (s : State) :
    exec (.frameReceived p bytes) s
      = .next (withPort p (bytes.foldl (fun q x => receiveByte x q) (s.port p)) s) := rfl

/-! ### The receiver in each of its states -/

theorem afterHeader_receiver (kind tag len : Byte) (x : Receiver) (q : PortState) :
    afterHeader kind tag len { q with receiver := x } = afterHeader kind tag len q := by
  unfold afterHeader
  split
  · rfl
  · split <;> rfl

theorem afterHeader_overlong {kind tag len : Byte} (q : PortState) (beyond : 240 < len.toNat) :
    afterHeader kind tag len q = discardFrame q := if_pos beyond

theorem completeFrame_free {f : Frame} {q : PortState} (free : q.buffer = none) :
    completeFrame f q = { q with receiver := .hunt, buffer := some f } := by
  unfold completeFrame
  rw [free]

theorem completeFrame_held {f : Frame} {q : PortState} (held : q.buffer ≠ none) :
    completeFrame f q = discardFrame q := by
  obtain ⟨g, is⟩ := Option.ne_none_iff_exists'.mp held
  unfold completeFrame
  rw [is]

theorem completeFrame_receiver (f : Frame) (x : Receiver) (q : PortState) :
    completeFrame f { q with receiver := x } = completeFrame f q := by
  by_cases free : q.buffer = none
  · rw [completeFrame_free free, completeFrame_free (q := { q with receiver := x }) free]
  · rw [completeFrame_held free, completeFrame_held (q := { q with receiver := x }) free]
    rfl

theorem checkGood_iff (kind tag : Byte) (payload got : List Byte) :
    checkGood kind tag payload got = true
      ↔ got = checkBytes ([kind, tag, BitVec.ofNat 8 payload.length] ++ payload) := beq_iff_eq

theorem acceptByte_hunt {b : Byte} {q : PortState} (hunts : q.receiver = .hunt) :
    acceptByte b q = { q with receiver := if b = startMark then .header [] else .hunt } := by
  unfold acceptByte
  rw [hunts]
  dsimp only
  split
  · rfl
  · rw [← hunts]

theorem acceptByte_payload (kind tag len b : Byte) (got : List Byte) (q : PortState) :
    acceptByte b { q with receiver := .payload kind tag len got }
      = { q with
          receiver :=
            if len.toNat ≤ got.length + 1 then .check kind tag (got ++ [b]) []
            else .payload kind tag len (got ++ [b]) } := by
  unfold acceptByte
  simp only [List.length_append, List.length_singleton]
  split <;> rfl

/-- A byte in time moves the receiver, the buffer and the error count at most. -/
theorem acceptByte_eq (b : Byte) (q : PortState) :
    ∃ x buffer errors, acceptByte b q = { q with receiver := x, buffer := buffer, errors := errors } := by
  have discards : ∃ x buffer errors, discardFrame q = { q with receiver := x, buffer := buffer, errors := errors } :=
    ⟨_, _, _, rfl⟩
  unfold acceptByte
  split
  · split <;> exact ⟨_, _, _, rfl⟩
  · split
    · unfold afterHeader
      split
      · exact discards
      · split <;> exact ⟨_, _, _, rfl⟩
    · exact ⟨_, _, _, rfl⟩
  · dsimp only
    split <;> exact ⟨_, _, _, rfl⟩
  · dsimp only
    split
    · exact ⟨_, _, _, rfl⟩
    · split
      · cases held : q.buffer with
        | none => exact ⟨_, _, _, completeFrame_free held⟩
        | some f =>
          rw [completeFrame_held (by rw [held]; nofun)]
          exact discards
      · exact discards

theorem acceptByte_sending (b : Byte) (q : PortState) : (acceptByte b q).sending = q.sending := by
  obtain ⟨_, _, _, is⟩ := acceptByte_eq b q
  rw [is]

theorem acceptByte_gapMs (b : Byte) (q : PortState) : (acceptByte b q).gapMs = q.gapMs := by
  obtain ⟨_, _, _, is⟩ := acceptByte_eq b q
  rw [is]

/-! ### Bytes taken in turn -/

/-- The port after it has taken bytes in turn, none of them late and none while the part sends. -/
def acceptBytes (l : List Byte) (q : PortState) : PortState := l.foldl (fun q b => acceptByte b q) q

theorem acceptBytes_append (l m : List Byte) (q : PortState) :
    acceptBytes (l ++ m) q = acceptBytes m (acceptBytes l q) := List.foldl_append

theorem receiveByte_inTime {x : RxByte} {q : PortState} (quiet : q.sending = none)
    (inTime : x.late = false ∨ q.receiver = .hunt) :
    receiveByte x q = acceptByte x.value { q with gapMs := 0 } := by
  rcases inTime with h | h <;> simp [receiveByte, quiet, h]

/-- A byte that comes late within a frame (R176). -/
theorem receiveByte_late {b : Byte} {q : PortState} (quiet : q.sending = none) (inFrame : q.receiver ≠ .hunt) :
    receiveByte ⟨b, true⟩ q = acceptByte b (discardFrame { q with gapMs := 0 }) := by
  simp only [receiveByte, quiet, Option.isSome_none, Bool.false_eq_true, ↓reduceIte, Bool.true_and, bne_iff_ne, ne_eq,
    inFrame, not_false_eq_true]

theorem receiveByte_unmarked {x : RxByte} {q : PortState} (hunts : q.receiver = .hunt) (quiet : q.sending = none)
    (unmarked : x.value ≠ startMark) : receiveByte x q = { q with gapMs := 0 } := by
  rw [receiveByte_inTime quiet (.inr hunts), acceptByte_hunt (q := { q with gapMs := 0 }) hunts, if_neg unmarked,
    ← hunts]

theorem receiveByte_sending (x : RxByte) {q : PortState} (sends : q.sending ≠ none) :
    receiveByte x q = { q with gapMs := 0 } := if_pos (Option.isSome_iff_ne_none.mpr sends)

/-- Bytes in time, none while the part sends, are taken in turn (R175, R176). -/
theorem receiveBytes_inTime {bytes : List RxByte} (inTime : ∀ x ∈ bytes, x.late = false) {q : PortState}
    (quiet : q.sending = none) (gap : q.gapMs = 0) :
    bytes.foldl (fun q x => receiveByte x q) q = acceptBytes (bytes.map (fun x => x.value)) q := by
  induction bytes generalizing q with
  | nil => rfl
  | cons x rest ih =>
    have first : receiveByte x q = acceptByte x.value q := by
      rw [receiveByte_inTime quiet (.inl (inTime x List.mem_cons_self)), ← gap]
    rw [List.foldl_cons, first,
      ih (fun y mem => inTime y (List.mem_cons_of_mem x mem)) ((acceptByte_sending _ q).trans quiet)
        ((acceptByte_gapMs _ q).trans gap)]
    rfl

/-- A run of bytes that begins while the receiver hunts, its first byte late or not, is taken in turn. -/
theorem receiveBytes_hunting {bytes : List RxByte} {q : PortState} (hunts : q.receiver = .hunt)
    (quiet : q.sending = none) (some_arrive : bytes ≠ []) (inTime : ∀ x ∈ bytes.tail, x.late = false) :
    bytes.foldl (fun q x => receiveByte x q) q
      = acceptBytes (bytes.map (fun x => x.value)) { q with gapMs := 0 } := by
  cases bytes with
  | nil => exact absurd rfl some_arrive
  | cons x rest =>
    rw [List.foldl_cons, receiveByte_inTime quiet (.inr hunts)]
    exact receiveBytes_inTime inTime ((acceptByte_sending _ _).trans quiet) (acceptByte_gapMs _ _)

/-- Bytes of which each restarts the gap and does no more. -/
theorem receiveBytes_idle {bytes : List RxByte} {q : PortState} (some_arrive : bytes ≠ [])
    (idle : ∀ x ∈ bytes, ∀ gap, receiveByte x { q with gapMs := gap } = { q with gapMs := 0 }) :
    bytes.foldl (fun q x => receiveByte x q) q = { q with gapMs := 0 } := by
  suffices ∀ gap, bytes.foldl (fun q x => receiveByte x q) { q with gapMs := gap } = { q with gapMs := 0 } from
    this q.gapMs
  induction bytes with
  | nil => exact absurd rfl some_arrive
  | cons x rest ih =>
    intro gap
    rw [List.foldl_cons, idle x List.mem_cons_self gap]
    cases rest with
    | nil => rfl
    | cons y rest => exact ih (List.cons_ne_nil y rest) (fun z mem => idle z (List.mem_cons_of_mem x mem)) 0

/-! ### The parts of a frame (Table 10-4) -/

theorem acceptBytes_header {q : PortState} (hunts : q.receiver = .hunt) (kind tag len : Byte) :
    acceptBytes [startMark, kind, tag, len] q = afterHeader kind tag len q := by
  have started : acceptByte startMark q = { q with receiver := .header [] } := by
    rw [acceptByte_hunt hunts, if_pos rfl]
  calc acceptBytes [startMark, kind, tag, len] q
      = acceptBytes [kind, tag, len] { q with receiver := .header [] } := by
        rw [← started]; rfl
    _ = afterHeader kind tag len { q with receiver := .header [kind, tag] } := rfl
    _ = afterHeader kind tag len q := afterHeader_receiver kind tag len _ q

/-- The payload bytes that are still to come bring the receiver to the check. -/
theorem acceptBytes_payload {kind tag len : Byte} {q : PortState} {payload : List Byte} (got : List Byte)
    (more : payload ≠ []) (whole : len.toNat = got.length + payload.length) :
    acceptBytes payload { q with receiver := .payload kind tag len got }
      = { q with receiver := .check kind tag (got ++ payload) [] } := by
  induction payload generalizing got with
  | nil => exact absurd rfl more
  | cons b rest ih =>
    rw [List.length_cons] at whole
    have first := acceptByte_payload kind tag len b got q
    cases rest with
    | nil =>
      rw [if_pos (by simp only [List.length_nil] at whole; omega)] at first
      exact first
    | cons c rest =>
      rw [if_neg (by rw [List.length_cons] at whole; omega)] at first
      have later := ih (got ++ [b]) (List.cons_ne_nil c rest) (by
        rw [List.length_append, List.length_singleton]; omega)
      rw [List.append_assoc, List.singleton_append] at later
      rw [← later, ← first]
      rfl

/-- Header and payload of a frame leave the receiver at its check (R176). -/
theorem acceptBytes_afterHeader {kind tag len : Byte} {payload : List Byte} (q : PortState)
    (fits : payload.length ≤ 240) (whole : len.toNat = payload.length) :
    acceptBytes payload (afterHeader kind tag len q) = { q with receiver := .check kind tag payload [] } := by
  have within : ¬Config.maxPayload < len.toNat := by
    rw [whole]; exact Nat.not_lt.mpr fits
  unfold afterHeader
  rw [if_neg within]
  cases payload with
  | nil => exact congrArg _ (if_pos whole)
  | cons b rest =>
    rw [if_neg (by rw [whole, List.length_cons]; omega)]
    exact acceptBytes_payload [] (List.cons_ne_nil b rest) (by rw [whole]; simp)

theorem acceptBytes_check (kind tag : Byte) (payload : List Byte) (a b : Byte) (q : PortState) :
    acceptBytes [a, b] { q with receiver := .check kind tag payload [] }
      = if checkGood kind tag payload [a, b] then completeFrame ⟨kind, tag, payload⟩ q else discardFrame q := by
  rw [← completeFrame_receiver ⟨kind, tag, payload⟩ (.check kind tag payload [a]) q]
  rfl

/-- The bytes of a frame, whatever its check, on a receiver that hunts (R176). -/
theorem acceptBytes_frame {kind tag : Byte} {payload check : List Byte} {q : PortState}
    (hunts : q.receiver = .hunt) (fits : payload.length ≤ 240) (two : check.length = 2) :
    acceptBytes ([startMark, kind, tag, BitVec.ofNat 8 payload.length] ++ payload ++ check) q
      = if checkGood kind tag payload check then completeFrame ⟨kind, tag, payload⟩ q else discardFrame q := by
  obtain ⟨a, b, rfl⟩ := List.length_eq_two.mp two
  have whole : (BitVec.ofNat 8 payload.length : Byte).toNat = payload.length := by
    rw [BitVec.toNat_ofNat]; omega
  rw [acceptBytes_append, acceptBytes_append, acceptBytes_header hunts, acceptBytes_afterHeader q fits whole,
    acceptBytes_check]

theorem frameBytes_eq (kind tag : Byte) (payload : List Byte) :
    frameBytes kind tag payload
      = [startMark, kind, tag, BitVec.ofNat 8 payload.length] ++ payload
        ++ checkBytes ([kind, tag, BitVec.ofNat 8 payload.length] ++ payload) := rfl

theorem checkBytes_length (l : List Byte) : (checkBytes l).length = 2 := rfl

theorem ne_nil_of_map_value {bytes : List RxByte} {b : Byte} {l : List Byte}
    (carry : bytes.map (fun x => x.value) = b :: l) : bytes ≠ [] := by
  rintro rfl
  cases carry

/-! ### The statements -/

/-- Settles O5: a frame with a good check that finds the buffer free. -/
theorem wholeFrameReceived : Obligations.WholeFrameReceived := by
  unfold Obligations.WholeFrameReceived
  intro p kind tag payload bytes s fits hunts quiet free carry inTime
  rw [frameBytes_eq] at carry
  have good := (checkGood_iff kind tag payload _).mpr rfl
  rw [exec_frameReceived, receiveBytes_hunting hunts quiet (ne_nil_of_map_value carry) inTime, carry,
    acceptBytes_frame (q := { s.port p with gapMs := 0 }) hunts fits (checkBytes_length _), if_pos good,
    completeFrame_free (q := { s.port p with gapMs := 0 }) free, ← hunts]

/-- Settles O6: the check or the buffer fails the whole frame, the length its header; a late byte is taken in HUNT, and
a byte that no frame takes restarts the gap alone. -/
theorem badFramesAreDiscarded : Obligations.BadFramesAreDiscarded := by
  unfold Obligations.BadFramesAreDiscarded
  intro p bytes s q counted
  have discards : discardFrame { q with gapMs := 0 } = counted := rfl
  simp only [exec_frameReceived]
  refine ⟨fun kind tag payload check fits two hunts quiet carry inTime bad => ?_,
    fun kind tag len beyond hunts quiet carry inTime => ?_, fun b inFrame quiet late => ?_,
    fun hunts quiet some_arrive unmarked => ?_, fun sends some_arrive => ?_⟩
  · rw [receiveBytes_hunting hunts quiet (ne_nil_of_map_value carry) inTime, carry,
      acceptBytes_frame (q := { q with gapMs := 0 }) hunts fits two, ← discards]
    congr 2
    rcases bad with bad | held
    · exact if_neg (mt (checkGood_iff kind tag payload check).mp bad)
    · rw [completeFrame_held (q := { q with gapMs := 0 }) held, ite_self]
  · rw [receiveBytes_hunting hunts quiet (ne_nil_of_map_value carry) inTime, carry,
      acceptBytes_header (q := { q with gapMs := 0 }) hunts, afterHeader_overlong _ beyond, discards]
  · subst late
    rw [List.foldl_cons, List.foldl_nil, receiveByte_late quiet inFrame, discards, acceptByte_hunt rfl]
  · rw [receiveBytes_idle some_arrive fun x mem gap =>
      receiveByte_unmarked (q := { q with gapMs := gap }) hunts quiet (unmarked x mem)]
  · rw [receiveBytes_idle some_arrive fun x _ gap => receiveByte_sending x (q := { q with gapMs := gap }) sends]

/-- Settles O7: each command of a link acts on its port alone, and where it has nothing to do it leaves the port. -/
theorem gapAndSending : Obligations.GapAndSending := by
  unfold Obligations.GapAndSending
  intro p s q
  have timeout : exec (.interByteGapTimeout p) s = .next (withPort p (gapDiscard q) s) := rfl
  have ends : exec (.partFrameEnds p) s = .next (withPort p (endSending q) s) := rfl
  have sends : exec (.sendItem p) s = .next (withPort p (beginSending q) s) := rfl
  have unchanged : withPort p q s = s := withPort_port p s
  refine ⟨fun inFrame => ?_, fun hunts => ?_, fun sending => ?_, fun quiet => ?_,
    fun x rest queued quiet hunts silent => ?_, fun waits => ?_⟩
  · rw [timeout, gapDiscard, if_neg inFrame, discardFrame]
  · rw [timeout, gapDiscard, if_pos hunts, unchanged]
  · rw [ends, endSending, if_pos (Option.isSome_iff_ne_none.mpr sending)]
  · rw [ends, endSending, quiet, if_neg (by decide), unchanged]
  · have may : q.maySend = true := by simp [PortState.maySend, quiet, hunts, silent]
    rw [sends, beginSending, queued]
    simp only [may, ↓reduceIte]
  · have stays : beginSending q = q := by
      unfold beginSending
      split
      · next x rest queued =>
        refine if_neg fun may => ?_
        simp only [PortState.maySend, Bool.and_eq_true, Option.isNone_iff_eq_none, beq_iff_eq, decide_eq_true_iff]
          at may
        obtain ⟨⟨quiet, hunts⟩, silent⟩ := may
        rcases waits with empty | sending | inFrame | heard
        · rw [queued] at empty; cases empty
        · exact sending quiet
        · exact inFrame hunts
        · omega
      · rfl
    rw [sends, stays, unchanged]

end Sys2Proof.Machine
end

section
/-! SUPPORT. The frames the part sends (R178, R184 to R187) and the kind values of the requests (R184); then the
statement about their layouts. -/

namespace Sys2Proof.Machine

/-! ### The frame of an item (Tables 10-4, 10-6, 10-7) -/

theorem frame_eq_framed (mark : Bool) (x : Item) :
    x.frame mark = framed x.kind x.tag ((if mark then 1#8 else 0#8) :: x.body) := rfl

theorem framed_length (kind tag : Byte) (payload : List Byte) :
    (framed kind tag payload).length = 6 + payload.length := by
  simp only [framed, List.length_append, List.length_cons, List.length_nil, checkBytes_length]
  omega

theorem verdict_bytes_length (v : Verdict) : v.bytes.length = 4 := by
  cases v <;> rfl

theorem computedBytes_length (x : Option Computed) : (computedBytes x).length = 10 := by
  cases x <;> rfl

/-- The result bytes leave room for the status and the kind of a DONE reply (R176). -/
theorem result_bytes_length (x : Result) : x.bytes.length ≤ 238 := by
  unfold Result.bytes
  split
  · simp only [List.length_append, List.length_cons, List.length_nil, verdict_bytes_length, computedBytes_length]
    omega
  · exact List.length_take_le _ _

/-- A failure report leaves room for the status, the kind and the reason of a REFUSED reply (R176). -/
theorem reportPart_length (report : Option FailureReport) : (reportPart report).length ≤ 237 := by
  cases report with
  | none => exact Nat.zero_le _
  | some f => exact List.length_take_le _ _

theorem item_body_length (x : Item) : x.body.length ≤ 239 := by
  rcases x with ⟨k, tag, body⟩ | n
  · cases body with
    | done x => exact Nat.succ_le_succ (result_bytes_length x)
    | refused why report => exact Nat.succ_le_succ (Nat.succ_le_succ (reportPart_length report))
  · cases n <;> exact Nat.le_of_ble_eq_true rfl

/-! ### The DONE reply to a SHEET_REPORT (Table 10-6) -/

theorem sheetReply_frame (mark : Bool) (tag entry : Byte) (v : Verdict) (goal : SheetGoal) (clamped : Bool) :
    Item.frame mark (.reply (.request .sheetReport) tag (.done (.sheet entry v goal clamped)))
      = framed 0x80 tag
          ([if mark then 1#8 else 0#8, 0x21#8, entry] ++ v.bytes ++ [marksByte v clamped, goal.byte]
            ++ computedBytes v.values) := by
  rw [frame_eq_framed]
  refine congrArg (framed 0x80#8 tag) ?_
  simp only [Item.body, Result.bytes, echoByte, kindByte, List.cons_append, List.nil_append, List.append_assoc]

theorem goal_byte_eq (goal : SheetGoal) :
    goal.byte
      = (match goal with
        | .bin b => BitVec.ofNat 8 b.val
        | .redryGate => 0x10
        | .beltEnd => 0x11) := by
  cases goal <;> rfl

theorem reasonCodes_code : ∀ c ∈ reasonCodes, c.2 = byteOf c.1.code := by decide

theorem reasonCodes_all (why : RejectReason) : (why, byteOf why.code) ∈ reasonCodes := by
  cases why <;> decide

/-! ### The kind values (R184) -/

/-- The kind of request at a place of `kindPlace`. -/
def kindAt (n : Fin 126) : Option ReqKind := allReqKinds[(n.val + 1) % 126]?

theorem kindAt_kindPlace (k : ReqKind) : kindAt (kindPlace k) = some k := by
  cases k <;> rfl

theorem kindPlace_injective : Function.Injective kindPlace := fun j k same => by
  have at_place := congrArg kindAt same
  rwa [kindAt_kindPlace, kindAt_kindPlace, Option.some_inj] at at_place

theorem mem_allReqKinds (k : ReqKind) : k ∈ allReqKinds := List.mem_of_getElem? (kindAt_kindPlace k)

theorem kindByte_toNat {k : ReqKind} (other : k ≠ .sheetReport) :
    (kindByte k).toNat
      = if (Config.kindOrder (kindPlace k)).val + 1 < 0x21 then (Config.kindOrder (kindPlace k)).val + 1
        else (Config.kindOrder (kindPlace k)).val + 2 := by
  have is : kindByte k
      = BitVec.ofNat 8
          (if (Config.kindOrder (kindPlace k)).val + 1 < 0x21 then (Config.kindOrder (kindPlace k)).val + 1
            else (Config.kindOrder (kindPlace k)).val + 2) := by
    cases k with
    | sheetReport => exact absurd rfl other
    | _ => rfl
  have place := (Config.kindOrder (kindPlace k)).isLt
  rw [is, BitVec.toNat_ofNat, Nat.mod_eq_of_lt]
  split <;> omega

theorem kindByte_bounds (k : ReqKind) : 1 ≤ (kindByte k).toNat ∧ (kindByte k).toNat ≤ 0x7F := by
  by_cases is : k = .sheetReport
  · subst is; decide
  · have place := (Config.kindOrder (kindPlace k)).isLt
    rw [kindByte_toNat is]
    split <;> omega

/-- SHEET_REPORT's value is passed over in the choice of the others. -/
theorem kindByte_ne_report {k : ReqKind} (other : k ≠ .sheetReport) : kindByte k ≠ kindByte .sheetReport := by
  intro same
  have value : (kindByte k).toNat = 0x21 := congrArg BitVec.toNat same
  rw [kindByte_toNat other] at value
  split at value <;> omega

theorem kindByte_injective : Function.Injective kindByte := by
  intro j k same
  by_cases hj : j = .sheetReport
  · subst hj
    by_contra other
    exact kindByte_ne_report (Ne.symm other) same.symm
  by_cases hk : k = .sheetReport
  · subst hk
    exact absurd same (kindByte_ne_report hj)
  have values := congrArg BitVec.toNat same
  rw [kindByte_toNat hj, kindByte_toNat hk] at values
  have order : Config.kindOrder (kindPlace j) = Config.kindOrder (kindPlace k) := Fin.ext (by
    split at values <;> split at values <;> omega)
  exact kindPlace_injective (Config.kindOrder.injective order)

theorem namesRequest_iff (code : Byte) : namesRequest code = true ↔ ∃ k, kindByte k = code := by
  simp only [namesRequest, List.any_eq_true, mem_allReqKinds, true_and, beq_iff_eq]

/-! ### The statement -/

/-- Settles O8: every item's frame, the layouts of Tables 10-6 and 10-7, and the kind values. -/
theorem frameLayouts : Obligations.FrameLayouts := by
  unfold Obligations.FrameLayouts
  refine ⟨fun mark x => ⟨x.body, item_body_length x, rfl, ?_⟩,
    ?_, fun why => ⟨_, reasonCodes_all why, rfl⟩, fun mark pull lift slot key landed mean => ⟨rfl, rfl, rfl⟩,
    fun _ _ same => kindByte_injective same, kindByte_bounds, rfl⟩
  · rw [frame_eq_framed, framed_length, List.length_cons]
    omega
  · intro mark tag entry goal clamped x one two reply status clampBit route values
    have routed : goal.byte = route := goal_byte_eq goal
    have replies (v : Verdict) : reply v
        = framed 0x80 tag
            ([status, 0x21, entry] ++ v.bytes ++ [marksByte v clamped, route] ++ computedBytes v.values) := by
      rw [← routed]
      exact sheetReply_frame mark tag entry v goal clamped
    refine ⟨fun code cls => replies _, replies _, fun c listed => ⟨?_, ?_⟩⟩
    · rw [replies, reasonCodes_code c listed]
      rfl
    · have marks : marksByte (.reject c.1 none) clamped = one clampBit := congrArg byteOf (Nat.zero_add _)
      rw [replies, marks, reasonCodes_code c listed]
      rfl

end Sys2Proof.Machine
end

section
/-! SUPPORT. The taking of a request (R177), and the checks that come before its own (R179): what each request is taken
by, what stands in its way, and how it is refused; then the statements about them. -/

namespace Sys2Proof.Machine

/-! ### What each request is taken by -/

/-- Every request but SHEET_REPORT is taken by `take`. -/
theorem exec_takes {c : Instr} {r : Req} {k : ReqKind} (is : c.request? = some (r, k)) (other : k ≠ .sheetReport)
    (s : State) : ∃ f, exec c s = .next (take r k c f s) := by
  cases c <;> cases is
  case sheetReport => exact absurd rfl other
  all_goals exact ⟨_, rfl⟩

/-- A request that cannot be taken does nothing (R177). -/
theorem exec_waits {c : Instr} {r : Req} {k : ReqKind} {s : State} (is : c.request? = some (r, k))
    (waits : ¬CanTake r k c s) : exec c s = .next s := by
  by_cases report : k = .sheetReport
  · cases c <;> cases is <;> cases report
    next port tag payload =>
    unfold exec execSheetReport
    exact if_pos (by
      rw [Bool.not_eq_true', Bool.and_eq_false_imp]
      exact fun place => Bool.eq_false_iff.mpr fun holds => waits ⟨place, holds⟩)
  · obtain ⟨f, e⟩ := exec_takes is report s
    rw [e]
    rcases take_cases r k c f s with ⟨can, -⟩ | ⟨-, stays⟩
    · exact absurd can waits
    · rw [stays]

theorem canTake_iff (r : Req) (k : ReqKind) (c : Instr) (s : State) :
    CanTake r k c s
      ↔ s.hasPlace r.port = true ∧ ∃ f, (s.port r.port).buffer = some f ∧ requestFrame r k c f = true := by
  rw [← holdsFrame_iff]
  exact ⟨fun can => ⟨can.place, can.waits⟩, fun ⟨place, waits⟩ => ⟨place, waits⟩⟩

theorem takeFrame_waits {p : Port} {test : Frame → Bool} {f : State → State} {s : State}
    (waits : s.hasPlace p = false ∨ ∀ x, (s.port p).buffer = some x → test x = false) : takeFrame p test f s = s := by
  rcases takeFrame_cases p test f s with ⟨⟨place, holds⟩, -⟩ | ⟨-, stays⟩
  · obtain ⟨x, buffered, passes⟩ := (holdsFrame_iff s p test).mp holds
    rcases waits with full | fails
    · rw [place] at full; cases full
    · rw [fails x buffered] at passes; cases passes
  · exact stays

theorem takeFrame_taken {p : Port} {test : Frame → Bool} (f : State → State) {s : State} {x : Frame}
    (place : s.hasPlace p = true) (buffered : (s.port p).buffer = some x) (passes : test x = true) :
    takeFrame p test f s = f (freeBuffer p s) := by
  have holds := (holdsFrame_iff s p test).mpr ⟨x, buffered, passes⟩
  exact if_pos (by rw [place, holds]; rfl)

theorem unknownFrame_tag {what : Unknown} {tag : Byte} {f : Frame} (other : f.tag ≠ tag) :
    unknownFrame what tag f = false := by
  simp [unknownFrame, other]

/-- Settles O10: each of the three stands in the way of the taking. -/
theorem fullQueueHoldsRequestsBack : Obligations.FullQueueHoldsRequestsBack := by
  unfold Obligations.FullQueueHoldsRequestsBack
  refine ⟨fun c r k s is blocked => exec_waits is fun can => ?_,
    fun tag payload f p s buffered other =>
      exec_waits (c := .sheetReport p tag payload) rfl fun can => ?_,
    fun p tag what s blocked => ?_⟩
  · obtain ⟨place, f, buffered, passes⟩ := (canTake_iff r k c s).mp can
    obtain ⟨kind, tag, -⟩ := (requestFrame_iff r k c f).mp passes
    rcases blocked with full | empty | ⟨g, held, differs⟩
    · rw [place] at full; cases full
    · rw [buffered] at empty; cases empty
    · rw [buffered] at held
      cases held
      exact differs.elim (absurd kind) (absurd tag)
  · obtain ⟨-, g, held, passes⟩ := (canTake_iff _ _ _ s).mp can
    obtain ⟨-, -, carries⟩ := (requestFrame_iff _ _ _ g).mp passes
    have same : some f = some g := buffered.symm.trans held
    cases same
    exact other (carries rfl)
  · refine congrArg Host.Outcome.next (takeFrame_waits ?_)
    refine blocked.imp_right fun missing x buffered => ?_
    rcases missing with empty | ⟨f, held, differs⟩
    · rw [buffered] at empty; cases empty
    · rw [buffered] at held
      cases held
      exact unknownFrame_tag differs

/-! ### A frame that names nothing (R177, R183) -/

theorem queueReply_freeBuffer (p : Port) (k : EchoKind) (tag : Byte) (x : ReplyBody) (s : State) :
    queueReply p k tag x (freeBuffer p s) = answered p (.reply k tag x) s := by
  rw [answered, ← queueReply_freeBuffer_ports]
  rfl

section
variable {p : Port} {tag : Byte} {f : Frame} {s : State} (place : s.hasPlace p = true)
  (buffered : (s.port p).buffer = some f) (tagged : f.tag = tag)
include place buffered tagged

theorem exec_unknownKind {code : Byte} (kind : f.kind = code) (unnamed : ∀ k, kindByte k ≠ code) :
    exec (.unknownRequest p tag (.kind code)) s
      = .next (answered p (.reply (.unknown code) tag (.refused .invalid none)) s) := by
  have passes : unknownFrame (.kind code) tag f = true := by
    have free : namesRequest code = false :=
      Bool.eq_false_iff.mpr fun named => ((namesRequest_iff code).mp named).elim unnamed
    simp [unknownFrame, tagged, kind, free]
  refine congrArg Host.Outcome.next ((takeFrame_taken _ place buffered passes).trans ?_)
  exact queueReply_freeBuffer p _ tag _ s

theorem exec_unknownSubject {code : Byte} (kind : f.kind = kindByte .query) :
    exec (.unknownRequest p tag (.subject code)) s = .next (refuseUnknownSubject p tag (freeBuffer p s)) := by
  have passes : unknownFrame (.subject code) tag f = true := by simp [unknownFrame, tagged, kind]
  exact congrArg Host.Outcome.next (takeFrame_taken _ place buffered passes)

end

/-- A kind value that is a request's, or not the buffered frame's, takes nothing (log entry 11). -/
theorem exec_unknownKind_waits {p : Port} {tag code : Byte} {f : Frame} {s : State}
    (buffered : (s.port p).buffer = some f) (named : f.kind ≠ code ∨ ∃ k, kindByte k = code) :
    exec (.unknownRequest p tag (.kind code)) s = .next s := by
  refine congrArg Host.Outcome.next (takeFrame_waits (.inr fun x held => ?_))
  rw [buffered] at held
  cases held
  rcases named with other | named
  · simp [unknownFrame, other]
  · simp [unknownFrame, (namesRequest_iff code).mpr named]

/-- Settles O9: the two refusals, and the kind values that no request has. -/
theorem unknownRequestRefused : Obligations.UnknownRequestRefused := by
  unfold Obligations.UnknownRequestRefused
  refine ⟨fun p tag what f s place buffered tagged => ⟨?_, ?_, ?_, ?_⟩, fun k listed => ?_⟩
  · rintro code rfl kind unnamed
    exact exec_unknownKind place buffered tagged kind unnamed
  · rintro code rfl named
    exact exec_unknownKind_waits buffered named
  · rintro code rfl kind rfl
    rw [exec_unknownSubject place buffered tagged kind, refuseUnknownSubject, if_pos rfl]
    exact congrArg Host.Outcome.next (refuse_freeBuffer ⟨.setup, tag, true⟩ .query .invalid s)
  · rintro code rfl kind other
    rw [exec_unknownSubject place buffered tagged kind, refuseUnknownSubject, if_neg other]
    exact congrArg Host.Outcome.next (refuseRecorded_freeBuffer ⟨p, tag, true⟩ .query .denied none s)
  · have above : ∀ b ∈ [0x80#8, 0x81#8, 0x90#8, 0x91#8, 0x92#8], 0x7F < b.toNat := by decide
    exact Nat.not_lt.mpr (kindByte_bounds k).2 (above _ listed)

/-! ### Rights and form (R179, Table 10-2) -/

section
variable {r : Req} {k : ReqKind} {c : Instr} {s : State} {f : State → State} (can : CanTake r k c s)
include can

/-- A taken request that its handler refuses DENIED, with the record of R179. -/
theorem take_denies {target : Option Target}
    (denies : f (freeBuffer r.port s) = refuseRecorded r k .denied target (freeBuffer r.port s)) :
    take r k c f s = refusedRecorded r.port r.tag k .denied target s := by
  rw [take_taken can, denies, refuseRecorded_freeBuffer]
  rfl

theorem take_refuses {why : RefusalReason}
    (refuses : f (freeBuffer r.port s) = refuse r k why (freeBuffer r.port s)) :
    take r k c f s = answered r.port (refusedItem r k why) s := by
  rw [take_taken can, refuses, refuse_freeBuffer]

theorem serve_denied (denied : mayMake r.port k = false) (target : Option Target) :
    serve r k c target f s = refusedRecorded r.port r.tag k .denied target s :=
  take_denies can (if_neg (by rw [denied]; decide))

theorem serve_unformed (right : mayMake r.port k = true) (unformed : r.formed = false) (target : Option Target) :
    serve r k c target f s = answered r.port (refusedItem r k .invalid) s :=
  take_refuses can (by rw [right, unformed]; rfl)

theorem serveWrite_denied (denied : mayMake r.port k = false) :
    serveWrite r k c f s = refusedRecorded r.port r.tag k .denied (some (.bank s.banks.edit.val)) s :=
  take_denies can (if_neg (by rw [denied]; decide))

theorem serveWrite_unformed (right : mayMake r.port k = true) (unformed : r.formed = false)
    (unprotected : s.banks.active ≠ some s.banks.edit) :
    serveWrite r k c f s = answered r.port (refusedItem r k .invalid) s :=
  take_refuses can (by
    rw [right, unformed]
    exact if_neg unprotected)

end

/-- The four requests of the lines are no other port's (R179). -/
theorem mayMake_lineRequest {p : Port} {k : ReqKind} (lines : k ∈ [ReqKind.pull, .release, .cancel, .forceClose])
    (other : ∀ i, p ≠ .line i) : mayMake p k = false := by
  cases p with
  | line i => exact absurd rfl (other i)
  | scan | setup => revert lines; cases k <;> decide

/-- A SHEET_REPORT on another port than the scan port (R179). -/
theorem exec_sheetReport_denied {port : Port} {tag : Byte} {payload : List Byte} {s : State}
    (can : CanTake (reportReq port tag) .sheetReport (.sheetReport port tag payload) s)
    (denied : mayMake port .sheetReport = false) :
    exec (.sheetReport port tag payload) s = .next (refusedRecorded port tag .sheetReport .denied none s) := by
  have place : s.hasPlace port = true := can.place
  have waits : s.holdsFrame port
      (requestFrame (reportReq port tag) .sheetReport (.sheetReport port tag payload)) = true := can.waits
  simp only [exec, execSheetReport, place, waits, denied, Bool.and_self, Bool.not_true, Bool.not_false,
    Bool.false_eq_true, ↓reduceIte]
  exact congrArg Host.Outcome.next (refuseRecorded_freeBuffer (reportReq port tag) .sheetReport .denied none s)

section
variable {c : Instr} {r : Req} {k : ReqKind} {s : State} (is : c.request? = some (r, k))
include is

/-- The checks that a request of each kind meets first (R33, R179). -/
theorem exec_checks :
    k = .sheetReport ∨ k = .query
    ∨ k ∈ [ReqKind.writeClasses, .writeWeights, .writeLimits, .writeGrade, .deleteGrade, .clearBank]
    ∨ k ∈ [ReqKind.pull, .release, .cancel, .forceClose]
    ∨ ∃ f, exec c s = .next (serve r k c (refusalTarget s.banks.edit c) f s) := by
  cases c <;> cases is
  case sheetReport => exact .inl rfl
  case queryTracker | queryBins | queryStoredLifts | queryPulls | queryOutfeed | querySettings | queryLines
    | queryRefusals | queryPorts | queryMode => exact .inr (.inl rfl)
  case writeClasses | writeWeights | writeLimits | writeGrade | deleteGrade | clearBank =>
    exact .inr (.inr (.inl (by decide)))
  case pull | release | cancel | forceClose => exact .inr (.inr (.inr (.inl (by decide))))
  case writeGeometry param value => cases param <;> exact .inr (.inr (.inr (.inr ⟨_, rfl⟩)))
  all_goals exact .inr (.inr (.inr (.inr ⟨_, rfl⟩)))

theorem refusalTarget_bankWrite
    (write : k ∈ [ReqKind.writeClasses, .writeWeights, .writeLimits, .writeGrade, .deleteGrade, .clearBank])
    (edit : BankNo) : refusalTarget edit c = some (.bank edit.val) := by
  cases c <;> cases is
  case writeClasses | writeWeights | writeLimits | writeGrade | deleteGrade | clearBank => rfl
  all_goals exact absurd write (by decide)

variable (can : CanTake r k c s)
include can

/-- A request of the lines on another port (R179). -/
theorem exec_lineRequest_denied (lines : k ∈ [ReqKind.pull, .release, .cancel, .forceClose])
    (denied : mayMake r.port k = false) :
    exec c s = .next (refusedRecorded r.port r.tag k .denied (refusalTarget s.banks.edit c) s) := by
  cases c <;> cases is
  case pull | release | cancel | forceClose =>
    refine congrArg Host.Outcome.next (take_denies can ?_)
    split
    · next line => rw [line] at denied; cases denied
    · rfl
  all_goals exact absurd lines (by decide)

/-- A line's request out of form (log entry 3); in FORCE_CLOSE the force-close right comes first (R125). -/
theorem exec_lineRequest_unformed (lines : k ∈ [ReqKind.pull, .release, .cancel, .forceClose])
    (right : mayMake r.port k = true) (unformed : r.formed = false)
    (forces : k = .forceClose → ∀ i, r.port = .line i → s.arbiter.settings[i].force = true) :
    exec c s = .next (answered r.port (refusedItem r k .invalid) s) := by
  cases c <;> cases is
  case pull | release | cancel =>
    refine congrArg Host.Outcome.next (take_refuses can ?_)
    split
    · rw [unformed]; rfl
    · next other => exact absurd right (by rw [mayMake_lineRequest lines other]; decide)
  case forceClose =>
    refine congrArg Host.Outcome.next (take_refuses can ?_)
    split
    · next i line =>
      rw [freeBuffer_arbiter, forces rfl i line, unformed]
      rfl
    · next other => exact absurd right (by rw [mayMake_lineRequest lines other]; decide)
  all_goals exact absurd lines (by decide)

end

/-- Settles O11: the rights are checked first, and the form next but for the checks that R33 and R125 put between. -/
theorem portRightsDenied : Obligations.PortRightsDenied := by
  unfold Obligations.PortRightsDenied
  intro c r k s is taken other
  have can : CanTake r k c s := by rwa [Taken, is] at taken
  rcases exec_checks (s := s) is with rfl | rfl | write | lines | ⟨f, e⟩
  · cases c <;> cases is
    next port tag payload => exact ⟨exec_sheetReport_denied can, nofun⟩
  · exact absurd rfl other
  · obtain ⟨f, e⟩ := exec_bankWrite is write s
    rw [e, refusalTarget_bankWrite is write]
    exact ⟨fun denied => congrArg _ (serveWrite_denied can denied),
      fun right unformed unprotected _ => congrArg _ (serveWrite_unformed can right unformed (unprotected write))⟩
  · exact ⟨exec_lineRequest_denied is can lines,
      fun right unformed _ => exec_lineRequest_unformed is can lines right unformed⟩
  · rw [e]
    exact ⟨fun denied => congrArg _ (serve_denied can denied _),
      fun right unformed _ _ => congrArg _ (serve_unformed can right unformed _)⟩

end Sys2Proof.Machine
end

section
/-! SUPPORT. QUERY (R183) and EVENT_READ (R182): what a subject's reply gives of a state, before and after the frame is
taken; then the statements about them. -/

namespace Sys2Proof.Machine

/-! ### The item counts and the items (R114, R144, R183) -/

theorem firstAccepted_iff (first count : Nat) :
    firstAccepted first count = true ↔ first < count ∨ first = 0 ∧ count = 0 := by
  simp [firstAccepted]

theorem outfeedItems_length (s : State) : (outfeedItems s).length = s.outfeed.queue.length + 24 := by
  simp only [outfeedItems, List.length_append, List.length_map]
  rfl

/-- Freeing a receive buffer changes nothing that QUERY of PORTS gives. -/
theorem freeBuffer_portViews (p : Port) (s : State) :
    (freeBuffer p s).ports.toList.map PortState.view = s.ports.toList.map PortState.view := by
  have same : ∀ i : Fin 6, ((freeBuffer p s).ports[i]).view = (s.ports[i]).view := by
    intro i
    rw [freeBuffer_ports, vset_get]
    split
    · next is => rw [is]; rfl
    · rfl
  refine List.ext_getElem (by simp) fun n h _ => ?_
  have below : n < 6 := by simpa using h
  simpa using same ⟨n, below⟩

theorem page_map {α β : Type} (f : α → β) (first : Nat) (l : List α) : (page first l).map f = page first (l.map f) := by
  rw [page, page, List.map_take, List.map_drop]

/-! ### The three outcomes of a QUERY (R179, R183) -/

section
variable {r : Req} {c : Instr} {x : Subject} {first : Nat} {count : State → Nat} {data : State → QueryData} {s : State}
  (can : CanTake r .query c s)
include can

theorem serveQuery_denied (denied : mayQuery r.port x = false) :
    serveQuery r c x first count data s = refusedRecorded r.port r.tag .query .denied none s := by
  rw [serveQuery, take_taken can, denied, if_neg (by decide), refuseRecorded_freeBuffer]
  rfl

theorem serveQuery_invalid (right : mayQuery r.port x = true)
    (bad : (r.formed && firstAccepted first (count (freeBuffer r.port s))) = false) :
    serveQuery r c x first count data s = answered r.port (refusedItem r .query .invalid) s := by
  rw [serveQuery, take_taken can, right, if_pos rfl, bad, if_neg (by decide), refuse_freeBuffer]

end

theorem queryOf_request (r : Req) (first : Nat) (x : Subject) : (queryOf r first x).request? = some (r, .query) := by
  cases x <;> rfl

/-- Each subject's QUERY counts the items that its port is told of. -/
theorem exec_queryOf (r : Req) (first : Nat) (x : Subject) (s : State) :
    ∃ count data, exec (queryOf r first x) s = .next (serveQuery r (queryOf r first x) x first count data s)
      ∧ count (freeBuffer r.port s) = itemCount r.port s x := by
  cases x with
  | outfeed => exact ⟨_, _, rfl, outfeedItems_length s⟩
  | _ => exact ⟨_, _, rfl, rfl⟩

/-- An accepted QUERY whose count and fields are what they were before its frame was taken. -/
theorem QueryAdmitted.answers {r : Req} {c : Instr} {x : Subject} {first total : Nat} {s : State}
    {count : State → Nat} {data : State → QueryData} {given : QueryData} (h : QueryAdmitted r c x first total s)
    (is : c.request? = some (r, .query)) (counts : count (freeBuffer r.port s) = total)
    (gives : data (freeBuffer r.port s) = given) :
    serveQuery r c x first count data s = answered r.port (doneItem r .query (.query total first given)) s := by
  have can := h.taken
  rw [Taken, is] at can
  rw [serveQuery_admitted can h.right h.formed (by rw [counts]; exact h.first), counts, gives]

/-- Settles O12: the rights of R179, the two refusals, and each subject's reply. -/
theorem queriesReportWithoutChange : Obligations.QueriesReportWithoutChange := by
  unfold Obligations.QueriesReportWithoutChange
  intro r first s
  refine ⟨fun x => ⟨by cases x <;> decide, fun i => by cases x <;> simp [mayQuery], by cases x <;> rfl,
    fun taken => ?_⟩, ?_⟩
  · obtain ⟨count, data, e, counts⟩ := exec_queryOf r first x s
    have can : CanTake r .query (queryOf r first x) s := by rwa [Taken, queryOf_request] at taken
    rw [e]
    refine ⟨fun denied => congrArg _ (serveQuery_denied can denied), fun right bad => ?_⟩
    refine congrArg _ (serveQuery_invalid can right ?_)
    rw [counts, Bool.and_eq_false_imp]
    intro formed
    rw [Bool.eq_false_iff, ne_eq, firstAccepted_iff]
    rcases bad with unformed | ⟨beyond, not_empty⟩
    · rw [formed] at unformed; cases unformed
    · omega
  · -- Taking the frame changes no field that a subject gives; for PORTS that is `freeBuffer_portViews`.
    intro reply
    have ports : (page first (freeBuffer r.port s).ports.toList).map PortState.view
        = (page first s.ports.toList).map PortState.view := by
      rw [page_map, page_map, freeBuffer_portViews]
    exact ⟨fun h => congrArg _ (h.answers rfl rfl rfl), fun h => congrArg _ (h.answers rfl rfl rfl),
      fun h => congrArg _ (h.answers rfl rfl rfl), fun h => congrArg _ (h.answers rfl rfl rfl),
      fun h => congrArg _ (h.answers rfl (outfeedItems_length s) rfl), fun h => congrArg _ (h.answers rfl rfl rfl),
      fun h => congrArg _ (h.answers rfl rfl rfl), fun h => congrArg _ (h.answers rfl rfl rfl),
      fun h => congrArg _ (h.answers rfl rfl (congrArg QueryData.ports ports)),
      fun h => congrArg _ (h.answers rfl rfl rfl)⟩

/-! ### EVENT_READ (R182) -/

/-- The oldest events read out, those that stay, and the overflow mark. -/
theorem readOut_of_split {l : EventLog} {count : Nat} {taken left : List Event} (parts : l.list = taken ++ left)
    (length : taken.length = min count l.list.length) :
    l.list.take count = taken
    ∧ l.readOut count
      = { l with list := left
                 overflow := if taken ≠ [] ∧ left = [] then false else l.overflow } := by
  have oldest : l.list.take count = taken := by
    rw [List.take_eq_take_min, ← length, parts, List.take_left]
  have stay : l.list.drop count = left := by
    have whole := List.take_append_drop count l.list
    rw [oldest] at whole
    exact List.append_cancel_left (whole.trans parts)
  have emptied : (left = [] ∧ l.list ≠ []) ↔ (taken ≠ [] ∧ left = []) := by
    rw [parts, ne_eq, List.append_eq_nil_iff]
    tauto
  refine ⟨oldest, ?_⟩
  simp only [EventLog.readOut, stay, emptied]

/-- Settles O57: a count out of range, and the events split after the oldest that the count asks for. -/
theorem eventRead : Obligations.EventRead := by
  unfold Obligations.EventRead
  intro r count s h
  refine ⟨fun outside => ?_, fun taken left low high parts length => ?_⟩
  · refine congrArg Host.Outcome.next (serve_refuses (h.canServe rfl) (if_neg ?_))
    rw [inRange_iff]
    omega
  · obtain ⟨oldest, stay⟩ := readOut_of_split parts length
    have inside : inRange 1 8 count = true := (inRange_iff 1 8 count).mpr ⟨low, high⟩
    rw [← stay, ← oldest]
    show Host.Outcome.next (serve r .eventRead _ _ _ s) = _
    rw [serve_admitted (h.canServe rfl), if_pos inside]
    exact congrArg Host.Outcome.next
      (done_freeBuffer r .eventRead _ { s with events := s.events.readOut count })

end Sys2Proof.Machine
end

section
/-! SUPPORT. One millisecond in which no timer runs out (R136, R155, R176); then the statement about it. -/

namespace Sys2Proof.Machine

/-! ### A port's millisecond (R176) -/

theorem tickPort_quiet {q : PortState} (quiet : q.receiver = .hunt ∨ q.gapMs < 20) :
    tickPort q = { q with gapMs := min 21 (q.gapMs + 1) } := by
  unfold tickPort
  dsimp only
  split
  · next long =>
    have reached : 20 ≤ q.gapMs := by
      have : 20 < min 21 (q.gapMs + 1) := long
      omega
    exact if_pos (quiet.resolve_right (Nat.not_lt.mpr reached))
  · rfl

theorem tickPort_late {q : PortState} (inFrame : q.receiver ≠ .hunt) (late : 20 ≤ q.gapMs) :
    tickPort q = { q with receiver := .hunt, errors := min 65535 (q.errors + 1), gapMs := 21 } := by
  have gap : min (Config.gapLimitMs + 1) (q.gapMs + 1) = 21 := by
    rw [Config.gapLimitMs]; omega
  simp only [tickPort, gap]
  exact if_neg inFrame

/-! ### The timers (R136, R155) -/

theorem ejectOver_tickTimers {s : State} (runs : ∀ n, s.outfeed.timer = some n → 2 ≤ n) :
    ejectOver (tickTimers s) = false := by
  have ticked : (tickTimers s).outfeed.timer = s.outfeed.timer.map (fun n => n - 1) := rfl
  rw [ejectOver, ticked]
  cases timer : s.outfeed.timer with
  | none => rfl
  | some n =>
    have := runs n timer
    simp only [Option.map_some, beq_eq_false_iff_ne, ne_eq, Option.some.injEq]
    omega

theorem handoverOver_tickTimers {s : State}
    (runs : ∀ p ∈ s.arbiter.pulls, ∀ lift n, p.state = .assigned lift n → 2 ≤ n) (line : LineNo) :
    handoverOver (tickTimers s) line = false := by
  refine List.any_eq_false.mpr fun p ticked => ?_
  obtain ⟨p, listed, rfl⟩ := List.mem_map.mp ticked
  unfold tickPull
  cases state : p.state with
  | waiting => simp [state]
  | assigned lift n =>
    have := runs p listed lift n state
    simp only [Bool.and_eq_true, beq_iff_eq, not_and]
    omega

/-- A millisecond in which no timer runs out moves the ports and the timers alone. -/
theorem tick_of_running {s : State} (eject : ∀ n, s.outfeed.timer = some n → 2 ≤ n)
    (handovers : ∀ p ∈ s.arbiter.pulls, ∀ lift n, p.state = .assigned lift n → 2 ≤ n) : tick s = tickTimers s := by
  have settles (line : LineNo) : settleHandover (tickTimers s) line = tickTimers s :=
    if_neg (by rw [handoverOver_tickTimers handovers]; decide)
  unfold tick
  dsimp only
  rw [ejectOver_tickTimers eject]
  exact List.foldl_fixed' settles allFour

/-- Settles O2: no timer is over after the millisecond, so the ticked ports and timers are the whole of it. -/
theorem idleStepCountsOneMillisecond : Obligations.IdleStepCountsOneMillisecond := by
  unfold Obligations.IdleStepCountsOneMillisecond
  intro s idle eject handovers
  have steps : step s = .next (tickTimers s) := by
    rw [step, idle]
    exact congrArg Host.Outcome.next (tick_of_running eject handovers)
  refine ⟨tickTimers s, steps, rfl, fun p => ?_⟩
  have port : (tickTimers s).ports[p] = tickPort s.ports[p] := vmap_get _ _ _
  rw [port]
  exact ⟨tickPort_quiet, fun ⟨inFrame, late⟩ => tickPort_late inFrame late⟩

end Sys2Proof.Machine
end

section
/-! SUPPORT. The step with a command in front (log entry 1). -/

namespace Sys2Proof.Machine

/-- Settles O1: of the step's two branches, the one of a waiting command is `exec` on the queue's rest. -/
theorem stepRunsFrontCommand : Obligations.StepRunsFrontCommand := by
  unfold Obligations.StepRunsFrontCommand
  intro c rest s front
  rw [step, front]

end Sys2Proof.Machine
end
